-- ==== Sys2Proof/Word.lean ====
section
/-! DEFINITION. The word types of the W1610 and the plain data every later file is built from. -/

namespace Sys2Proof

/-- A byte of any memory tier (R4). -/
abbrev Byte := BitVec 8
/-- A lane, a move word, an immediate word (R2, R279). -/
abbrev Lane := BitVec 32
/-- A scalar register, a tile port, an address (R207). -/
abbrev Word := BitVec 64
/-- A vector register or a cluster port (R208). -/
abbrev Vec := BitVec 512
/-- One lane of a quire (R258). -/
abbrev Quire := BitVec 1024
/-- A matrix accumulator slice (R261). -/
abbrev Slice := BitVec 256

/-- A sparse table: keys strictly rising, no entry equal to what an unlisted key reads as. -/
abbrev SMap (α : Type) := List (Nat × α)

/-- Bytes by address, in the same canonical form; an unlisted address reads as zero. -/
abbrev Memory := List Host.Cell

end Sys2Proof
end

