-- ==== Sys2Proof/Machine/Bits.lean ====
section
/-! DEFINITION. Bit fields, byte order, sign extension, sparse tables and byte memories (R3, R4, R7). -/

namespace Sys2Proof.Machine

/-- Bits [hi:lo] of a number, both ends included, empty when hi < lo (R3). -/
def field (x : Nat) (hi lo : Nat) : Nat := x / 2 ^ lo % 2 ^ (hi + 1 - lo)

/-- Bit i of a number. -/
def bit (x : Nat) (i : Nat) : Bool := x.testBit i

/-- A number read as a two's-complement integer of w bits. -/
def signed (w x : Nat) : Int :=
  if x % 2 ^ w < 2 ^ (w - 1) then Int.ofNat (x % 2 ^ w) else Int.ofNat (x % 2 ^ w) - Int.ofNat (2 ^ w)

/-- The low w bits of an integer in two's complement, as a number (R8). -/
def wrap (w : Nat) (x : Int) : Nat := (x % Int.ofNat (2 ^ w)).toNat

/-- One for true, zero for false, in 64 bits: the form compares deliver (R318). -/
def flagWord (c : Bool) : Word := if c then 1 else 0

/-- The number whose little-endian bytes these are (R4). -/
def ofBytes : List Byte → Nat
  | [] => 0
  | b :: bs => b.toNat + 256 * ofBytes bs

/-- The n low bytes of a number, lowest address first (R4). -/
def toBytes : Nat → Nat → List Byte
  | 0, _ => []
  | n + 1, x => BitVec.ofNat 8 x :: toBytes n (x / 256)

/-- The numbers from a up, n of them. -/
def upFrom (a : Nat) : Nat → List Nat
  | 0 => []
  | n + 1 => a :: upFrom (a + 1) n

/-- What key k of a table holds, if it is listed. -/
def mfind {α : Type} (k : Nat) : SMap α → Option α
  | [] => none
  | (j, v) :: m => if j = k then some v else mfind k m

/-- What key k of a table reads as, with d for an unlisted key. -/
def mget {α : Type} (d : α) (m : SMap α) (k : Nat) : α := (mfind k m).getD d

/-- Key k listed with value v, in its place. -/
def mput {α : Type} (k : Nat) (v : α) : SMap α → SMap α
  | [] => [(k, v)]
  | (j, w) :: m => if k < j then (k, v) :: (j, w) :: m else if j = k then (k, v) :: m else (j, w) :: mput k v m

/-- Key k no longer listed. -/
def mdel {α : Type} (k : Nat) : SMap α → SMap α
  | [] => []
  | (j, w) :: m => if j = k then mdel k m else (j, w) :: mdel k m

/-- Key k holds v; a key that holds the default is not listed. -/
def mset {α : Type} [DecidableEq α] (d : α) (m : SMap α) (k : Nat) (v : α) : SMap α :=
  if v = d then mdel k m else mput k v (mdel k m)

/-- The canonical form of a table: keys strictly rising and no entry that holds the default. -/
def tableWf {α : Type} [DecidableEq α] (d : α) : SMap α → Bool
  | [] => true
  | (k, v) :: m => decide (v ≠ d) && m.all (fun e => decide (k < e.1)) && tableWf d m

/-- The canonical form of a byte memory. -/
def memoryWf (m : Memory) : Bool := tableWf (0 : Byte) m

/-- The byte at address a; an unlisted byte reads as zero. -/
def readByte (m : Memory) (a : Nat) : Byte := mget 0 m a

/-- Address a holds b. -/
def writeByte (m : Memory) (a : Nat) (b : Byte) : Memory := mset 0 m a b

/-- The n bytes from address a up. -/
def readBytes (m : Memory) (a n : Nat) : List Byte := (upFrom a n).map (readByte m)

/-- Bytes stored from address a up. -/
def writeBytes (m : Memory) (a : Nat) : List Byte → Memory
  | [] => m
  | b :: bs => writeBytes (writeByte m a b) (a + 1) bs

/-- Only the bytes whose mask entry is true are stored. -/
def writeMasked (m : Memory) (a : Nat) : List Bool → List Byte → Memory
  | true :: ks, b :: bs => writeMasked (writeByte m a b) (a + 1) ks bs
  | false :: ks, _ :: bs => writeMasked m (a + 1) ks bs
  | _, _ => m

/-- The bytes from `lo` up to, not including, `hi` read as zero. -/
def clearRange (m : Memory) (lo hi : Nat) : Memory := m.filter (fun c => !(decide (lo ≤ c.1) && decide (c.1 < hi)))

/-- Only the bytes from `lo` up to, not including, `hi` are kept. -/
def keepRange (m : Memory) (lo hi : Nat) : Memory := m.filter (fun c => decide (lo ≤ c.1) && decide (c.1 < hi))

/-- A set of numbers kept as a rising list without repeats. -/
def addTo (k : Nat) : List Nat → List Nat
  | [] => [k]
  | j :: s => if k < j then k :: j :: s else if j = k then j :: s else j :: addTo k s

/-- A number taken out of a set. -/
def dropFrom (k : Nat) (s : List Nat) : List Nat := s.filter (fun j => decide (j ≠ k))

/-- Lane l of a vector (R208). -/
def lane (v : Vec) (l : Nat) : Lane := BitVec.extractLsb' (32 * l) 32 v

/-- The vector whose lanes are given, lane 0 first. -/
def ofLanes : List Lane → Vec
  | [] => 0
  | x :: xs => BitVec.setWidth 512 x ||| (ofLanes xs <<< 32)

/-- Element e of width w of a vector (R253). -/
def elem (w : Nat) (v : Vec) (e : Nat) : Nat := field v.toNat (w * e + w - 1) (w * e)

/-- The vector whose elements of width w are given, element 0 first. -/
def ofElems (w : Nat) : List Nat → Nat
  | [] => 0
  | x :: xs => x % 2 ^ w + 2 ^ w * ofElems w xs

/-- The lanes of `new` where the mask has a one, those of `old` elsewhere (R203). -/
def mixLanes (mask : BitVec 16) (new old : Vec) : Vec :=
  ofLanes ((upFrom 0 16).map (fun l => if mask.getLsbD l then lane new l else lane old l))

/-- One value in every lane (R197, R283). -/
def splat (x : Lane) : Vec := ofLanes (List.replicate 16 x)

/-- The entry of a list at a place, or the default. -/
def nth {α : Type} (d : α) : List α → Nat → α
  | [], _ => d
  | x :: _, 0 => x
  | _ :: xs, n + 1 => nth d xs n

/-- A list with the entry at a place replaced. -/
def setNth {α : Type} (v : α) : List α → Nat → List α
  | [], _ => []
  | _ :: xs, 0 => v :: xs
  | x :: xs, n + 1 => x :: setNth v xs n

/-- A list without the entry at a place. -/
def delNth {α : Type} : List α → Nat → List α
  | [], _ => []
  | _ :: xs, 0 => xs
  | x :: xs, n + 1 => x :: delNth xs n

/-- a / b rounded up. -/
def ceilDiv (a b : Nat) : Nat := (a + b - 1) / b

end Sys2Proof.Machine
end

