-- ==== Sys2Proof/Syntax.lean ====
section
/-! DEFINITION. The syntax of every step of spec/opcode_table.json: the move words of R279 with their bus, guard and
source, and the events and control-port messages of the module with what each brings from outside. -/

namespace Sys2Proof

/-- The bus of a move (R196, R280): a cluster's lane-bus, a tile bus 32 + n, or a fan bus 40 + n. -/
inductive Bus where
  | cluster (c : Fin 8) (n : Fin 4)
  | tile (n : Fin 8)
  | fan (n : Fin 4)
  deriving DecidableEq, Repr

/-- The guard field (R281): always, or index 1 to 15, inverted or not. -/
inductive Guard where
  | always
  | test (k : Fin 16) (inverted : Bool)
  deriving DecidableEq, Repr

/-- The source field with the immediate word that follows it (R282, R283). A result port is named by the low eight
bits of its code 0x100 to 0x1FE. -/
inductive Source where
  | reg (r : Fin 48)
  | result (p : BitVec 8)
  | short (v : BitVec 9)
  | long (v : Lane)
  deriving DecidableEq, Repr

/-- The fields every move word has (R279): E, B, G and S with its immediate. -/
structure Move where
  last  : Bool
  bus   : Bus
  guard : Guard
  src   : Source
  deriving DecidableEq, Repr

/-- The destination of a move that triggers nothing (R284): a register, or an operand port named by the low seven bits
of its code 0x100 to 0x17F. -/
inductive Dest where
  | reg (r : Fin 48)
  | port (p : BitVec 7)
  deriving DecidableEq, Repr

/-- A control-port request as it arrives: the 16-byte header of R40 and the payload bytes (R45). -/
structure Message where
  header  : BitVec 128
  payload : List Byte
  deriving DecidableEq, Repr

/-- One unit's outcome of one bring-up step (R32): the step, the unit and its failure code. -/
structure StepFailure where
  step : Nat
  unit : Nat
  code : Lane
  deriving DecidableEq, Repr

/-- What the units do when the module is started (R32, R35 to R37): which steps fail as they stand, which fail in their
alternative form, and what a step that succeeds maps out. -/
structure BringUp where
  fails       : List StepFailure
  altFails    : List StepFailure
  badRouters  : List Nat
  badTiles    : List Nat
  badChannels : List (Nat × Nat)
  deriving DecidableEq, Repr

/-- A die as the firmware finds it (R31): its junction temperature in °C, and the module's power in watts. -/
structure DieHeat where
  die     : Nat
  celsius : Nat
  watts   : Nat
  deriving DecidableEq, Repr

/-- A step of a chunk (R110, R151, R170): the chunk, and by a bit each the granules of its source that are read now and the parts of its
destination that are written now. -/
structure ChunkStep where
  chunk : Nat
  parts : Nat
  deriving DecidableEq, Repr

/-- The memories whose lines and words a read or a scrub meets (R132). -/
inductive Store where
  | memory
  | kiln (die : Nat)
  | tile (tile : Nat)
  deriving DecidableEq, Repr

/-- What a scrub, or a read that is about to be made, finds in a line or word (R132, R133): the numbers of the stored bits that
have gone wrong, those of the data first and those of the check bits after them. -/
structure Finding where
  byRead : Bool
  wrong  : List Nat
  deriving DecidableEq, Repr

/-- One constructor per row of spec/opcode_table.json, in the table's order but for the control-port messages, which come
last and bring nothing with them: the request that has arrived stands in the state. -/
inductive Instr where
  /-- MODULE_START (R32). A start of the module runs bring-up steps 1 to 9 under the flash records, then sends the bring-up report. -/
  | moduleStart (b : BringUp)
  /-- COLD_POWER_CYCLE (R33). A cold power cycle clears any flash record of bring-up step 2 and restarts the module. -/
  | coldPowerCycle (b : BringUp)
  /-- EDGE_DOWN (R17). A UCIe edge that goes down after bring-up is a module fault; jobs on both dies roll back and the edge counts as failed on the next start. -/
  | edgeDown (edge : Nat)
  /-- FLIT_RECEIVE (R25). A horizon-link flit arrives; it is checked by CRC and sequence number, then accepted, discarded or NAKed, and its ACKSEQ is applied. -/
  | flitReceive (port : Nat) (flit : BitVec 2048)
  /-- ACK_ONLY_FLIT (R25). When no flit has left a port for 64 flit times, the port sends a class-7 acknowledgement flit. -/
  | ackOnlyFlit (port : Nat)
  /-- PORT_RETRAIN (R27). After 8 unaccepted resends of one flit, or 100 µs with no ACKSEQ advance, the port retrains in place and keeps its replay state. -/
  | portRetrain (port : Nat) (trained : Bool)
  /-- ROUTE_SWITCH (R27). Once every job that uses a held route has rolled back, checkpointed, failed or been destroyed, the route moves to its standby port and its waiting flits leave. -/
  | routeSwitch (part dst cls : Nat)
  /-- THERMAL_CEILING_LOWER (R31). At a temperature or power limit, the firmware lowers the elastic ceiling of the die's elastic contexts. -/
  | thermalCeilingLower (die : Nat)
  /-- THERMAL_DISPATCH_STOP (R31). At 105 °C or at the power cap, the firmware stops dispatching new tasks to the die. -/
  | thermalDispatchStop (heat : DieHeat)
  /-- THERMAL_FORCE_STOP (R31). At 115 °C the firmware forces the die to stop, and every job with a task on it rolls back. -/
  | thermalForceStop (heat : DieHeat)
  /-- DROOP_STRETCH (R221). A droop detector trip stretches an elastic tile's cycles until the droop has passed. -/
  | droopStretch (tile sixteenths : Nat)
  /-- EMERGENCY_DROOP_STRETCH (R222). A droop beyond the guard band on a pinned die stretches every pinned cycle of the die together and counts the stretched cycles in ESTR. -/
  | emergencyDroopStretch (die cycles : Nat)
  /-- MEMORY_SCRUB (R132). Each controller reads every one of its lines once in 24 hours and handles the errors it finds. -/
  | memoryScrub (unit : Store) (line : Nat) (found : Finding)
  /-- STOP_TIMEOUT (R53). When a STOP's time limit expires first, dispatch restarts, the implicit checkpoints are abandoned and the response is TIMEOUT. -/
  | stopTimeout (part : Nat)
  /-- SNAPSHOT_LATCH (R249). Every block latches its snapshot registers at its first clock edge at which the time base reads T or more. -/
  | snapshotLatch
  /-- LAUNCH_READY (R76). A POSTED record becomes READY once every predecessor has retired; it is then read, checked and admitted. -/
  | launchReady (part addr : Nat)
  /-- TASK_DISPATCH (R80). The dispatcher places the next task of a READY unlinked launch on the first idle tile and prepares the tile. -/
  | taskDispatch (part addr : Nat)
  /-- FABRIC_CLOCK_UNPIN (R83). The fabric clock returns to elastic when the die is empty and no fixed-timing launch is READY for it. -/
  | fabricClockUnpin (die : Nat)
  /-- GANG_START (R81). When T tiles are reserved, every task of a linked launch starts together. -/
  | gangStart (part addr : Nat)
  /-- TASK_RETIRE (R86). A task whose END, spawned tasks, writes, sends and copies are all complete retires, and its digest is checked or recorded. -/
  | taskRetire (tile : Nat)
  /-- CHECKPOINT_TAKE_EFFECT (R88). When no task of a quiescing job remains, the checkpoint posts its successors, writes the pending list and opens a new interval. -/
  | checkpointTakeEffect (part job : Nat)
  /-- LOG_REPLAY (R95). Once draining ends, the log is replayed newest first, the pending list is restored, posts are reapplied and dispatch restarts. -/
  | logReplay (part job : Nat)
  /-- COPY_START (R138). A copy command starts once its channel predecessor has completed, its tokens are satisfied and its bank set has entered the table. -/
  | copyStart (tile cmd : Nat)
  /-- CHUNK_LANDED (R155). Every part of a chunk has landed; the chunk-map bit and the semaphore count are updated. -/
  | chunkLanded (tile cmd : Nat) (step : ChunkStep)
  /-- REMOTE_WRITE_PERFORM (R159). A remote write performs at the destination tile and adds its bytes to the named semaphore. -/
  | remoteWritePerform (tile k : Nat)
  /-- LINK_MESSAGE_ARRIVE (R162). A link message reaches its receive queue and is accepted, or is refused when the queue is full or the task is switched out. -/
  | linkMessageArrive (tile k : Nat)
  /-- LINK_RESEND (R162). When a queue reports room, the sender resends the refused message ahead of any later message to that queue. -/
  | linkResend (tile k : Nat)
  /-- KILN_OPERATION_PERFORM (R119). A kiln operation performs atomically at its bank, in the bank's total order. -/
  | kilnOperationPerform (tile k : Nat)
  /-- KN_RESULT_RETURN (R393). The returned value of a kiln operation reaches kn.res, in issue order. -/
  | knResultReturn (tile : Nat)
  /-- MX_COMMAND_START (R373). A matrix command starts and enters its bank set once the channel is free and its tokens are satisfied. -/
  | mxCommandStart (tile : Nat)
  /-- MX_COMMAND_RETIRE (R373). A matrix command retires at S + L: its token becomes PRESENT and its bank set leaves the table. -/
  | mxCommandRetire (tile : Nat)
  /-- BUNDLE_ISSUE (R191). The sequencer decodes the bundle at pc and issues it, or holds while a hold cause remains. -/
  | bundleIssue (tile : Nat)
  /-- CODE_FILL_COMPLETE (R192). The missing code lines are filled from the code heap, and the held bundle may issue. -/
  | codeFillComplete (tile line : Nat)
  /-- RESULT_ARRIVAL (R202). An operation's result enters its latch at the start of issue cycle t + L. -/
  | resultArrival (tile : Nat)
  /-- TILE_STORE_PERFORM (R112). An ls or vm access performs at the tile store at issue + 2. -/
  | tileStorePerform (tile : Nat)
  /-- COPY_FAULT (R128). An address or translation fault of a copy, kiln operation, send or code fill is taken at S level, and entry 0x8023 is written. -/
  | copyFault (tile : Nat)
  /-- POISON_CONSUMED (R134). Poisoned data that reaches a register, a latch, a tile store or a send takes event 0x08; the task does not retire. -/
  | poisonConsumed (tile : Nat)
  /-- WAIT_TIMEOUT (R164). A hold that lasts past its timeout takes event 0x09 at the held bundle. -/
  | waitTimeout (tile : Nat)
  /-- USER_COMPLETION (R240). A queued copy completion, armed token or armed semaphore is delivered as event 0x10 to the U handler. -/
  | userCompletion (tile : Nat)
  /-- PREEMPTION (R243). A pre-emption request is taken at a boundary, and the task is switched out to the shadow store and the swap area. -/
  | preemption (tile : Nat)
  /-- TASK_RESUME (R245). A switched-out task is restored onto an idle tile of its die and continues from EPC. -/
  | taskResume (part addr index tile : Nat)
  /-- SYSREG_WRITE (R336). A write to a system register that has no behaviour of its own sets its value from the next issue cycle. -/
  | sysregWrite (number : BitVec 12) (value : Word)
  /-- TLBI_PAGE (R338). A TLBI write with OP 1 starts invalidation of one page or block. -/
  | tlbiPage (value : Word)
  /-- TLBI_PARTITION (R338). A TLBI write with OP 2 starts invalidation of the whole partition. -/
  | tlbiPartition (value : Word)
  /-- TLBI_COMPLETE (R126). An invalidation completes once no cache holds the entry and every access translated under it has performed. -/
  | tlbiComplete (part : Nat)
  /-- JOBCTL_SELECT (R339). A JOBCTL write with ACT 0 selects a job for reading. -/
  | jobctlSelect (value : Word)
  /-- JOBCTL_ROLLBACK (R339). A JOBCTL write with ACT 1 requests a rollback of the job, with cause 3. -/
  | jobctlRollback (value : Word)
  /-- JOBCTL_FAIL (R339). A JOBCTL write with ACT 2 fails the job. -/
  | jobctlFail (value : Word)
  /-- KARM_WRITE (R240). Arms tokens; a token already PRESENT or FAULTED queues its event at once. -/
  | karmWrite (value : Word)
  /-- SEMARM_WRITE (R240). Arms a semaphore threshold and tests it at once. -/
  | semarmWrite (value : Word)
  /-- CTXDAT_WRITE (R341). Changes the interrupted task's context state at the CTXSEL offset, with effect at resumption. -/
  | ctxdatWrite (value : Word)
  /-- RANKDAT_WRITE (R342). Sets the domain number of the selected rank-table entry, unless the write is excluded. -/
  | rankdatWrite (value : Word)
  /-- XWIN_WRITE (R337). Lowers the transfer-window limit; a write above the current value is ignored. -/
  | xwinWrite (value : Word)
  /-- MOVE (R279). A move word copies a source into a register or an operand port on its bus, under its guard. -/
  | move (m : Move) (d : Dest)
  /-- FILLER (R277). The filler bundle issues, performs nothing and takes one issue cycle. -/
  | filler
  /-- SA_ADD (R318). res := (a + b) mod 2^64. -/
  | saAdd (m : Move) (u : Bool)
  /-- SA_SUB (R318). res := (a - b) mod 2^64. -/
  | saSub (m : Move) (u : Bool)
  /-- SA_AND (R318). res := a and b. -/
  | saAnd (m : Move) (u : Bool)
  /-- SA_OR (R318). res := a or b. -/
  | saOr (m : Move) (u : Bool)
  /-- SA_XOR (R318). res := a xor b. -/
  | saXor (m : Move) (u : Bool)
  /-- SA_ANDN (R318). res := a and not b. -/
  | saAndn (m : Move) (u : Bool)
  /-- SA_ORN (R318). res := a or not b. -/
  | saOrn (m : Move) (u : Bool)
  /-- SA_XNOR (R318). res := not (a xor b). -/
  | saXnor (m : Move) (u : Bool)
  /-- SA_SLL (R318). Shift left logical by b[5:0]. -/
  | saSll (m : Move) (u : Bool)
  /-- SA_SRL (R318). Shift right logical by b[5:0]. -/
  | saSrl (m : Move) (u : Bool)
  /-- SA_SRA (R318). Shift right arithmetic by b[5:0]. -/
  | saSra (m : Move) (u : Bool)
  /-- SA_ROR (R318). Rotate right by b[5:0]. -/
  | saRor (m : Move) (u : Bool)
  /-- SA_MIN (R318). Signed minimum of a and b. -/
  | saMin (m : Move) (u : Bool)
  /-- SA_MAX (R318). Signed maximum of a and b. -/
  | saMax (m : Move) (u : Bool)
  /-- SA_MINU (R318). Unsigned minimum of a and b. -/
  | saMinu (m : Move) (u : Bool)
  /-- SA_MAXU (R318). Unsigned maximum of a and b. -/
  | saMaxu (m : Move) (u : Bool)
  /-- SA_CEQ (R318). res := 1 when a = b, else 0. -/
  | saCeq (m : Move) (u : Bool)
  /-- SA_CNE (R318). res := 1 when a differs from b, else 0. -/
  | saCne (m : Move) (u : Bool)
  /-- SA_CLT (R318). Signed less-than compare. -/
  | saClt (m : Move) (u : Bool)
  /-- SA_CLE (R318). Signed less-or-equal compare. -/
  | saCle (m : Move) (u : Bool)
  /-- SA_CLTU (R318). Unsigned less-than compare. -/
  | saCltu (m : Move) (u : Bool)
  /-- SA_CLEU (R318). Unsigned less-or-equal compare. -/
  | saCleu (m : Move) (u : Bool)
  /-- SA_CTST (R318). res := 1 when a and b is non-zero, else 0. -/
  | saCtst (m : Move) (u : Bool)
  /-- SA_SEL (R318). res := a when c[0] = 1, else b. -/
  | saSel (m : Move) (u : Bool)
  /-- SA_BEXT (R319). Extracts a bit field, zero-extended. -/
  | saBext (m : Move) (u : Bool)
  /-- SA_BEXTS (R319). Extracts a bit field, sign-extended. -/
  | saBexts (m : Move) (u : Bool)
  /-- SA_BINS (R319). Inserts the low bits of c into a bit field of a. -/
  | saBins (m : Move) (u : Bool)
  /-- SA_POPC (R318). Counts the ones in a. -/
  | saPopc (m : Move) (u : Bool)
  /-- SA_CLZ (R318). Counts the leading zeros of a. -/
  | saClz (m : Move) (u : Bool)
  /-- SA_CTZ (R318). Counts the trailing zeros of a. -/
  | saCtz (m : Move) (u : Bool)
  /-- SA_ADDSH (R318). res := (b + a × 2^c[2:0]) mod 2^64. -/
  | saAddsh (m : Move) (u : Bool)
  /-- SA_MOV (R318). res := a. -/
  | saMov (m : Move) (u : Bool)
  /-- SM_MUL (R320). Low 64 bits of a × b. -/
  | smMul (m : Move)
  /-- SM_MULH (R320). High 64 bits of the signed product. -/
  | smMulh (m : Move)
  /-- SM_MULHU (R320). High 64 bits of the unsigned product. -/
  | smMulhu (m : Move)
  /-- SM_MULW (R320). Product of the sign-extended low 32 bits of a and b. -/
  | smMulw (m : Move)
  /-- SM_DIV (R320). Signed divide, latency 20; the divider is busy for 19 cycles. -/
  | smDiv (m : Move)
  /-- SM_DIVU (R320). Unsigned divide. -/
  | smDivu (m : Move)
  /-- SM_REM (R320). Signed remainder. -/
  | smRem (m : Move)
  /-- SM_REMU (R320). Unsigned remainder. -/
  | smRemu (m : Move)
  /-- LS_LD8 (R322). Loads one byte, zero-extended. -/
  | lsLd8 (m : Move)
  /-- LS_LD8S (R322). Loads one byte, sign-extended. -/
  | lsLd8s (m : Move)
  /-- LS_LD16 (R322). Loads 16 bits, zero-extended. -/
  | lsLd16 (m : Move)
  /-- LS_LD16S (R322). Loads 16 bits, sign-extended. -/
  | lsLd16s (m : Move)
  /-- LS_LD32 (R322). Loads 32 bits, zero-extended. -/
  | lsLd32 (m : Move)
  /-- LS_LD32S (R322). Loads 32 bits, sign-extended. -/
  | lsLd32s (m : Move)
  /-- LS_LD64 (R322). Loads 64 bits. -/
  | lsLd64 (m : Move)
  /-- LS_ST8 (R322). Stores one byte. -/
  | lsSt8 (m : Move)
  /-- LS_ST16 (R322). Stores 16 bits. -/
  | lsSt16 (m : Move)
  /-- LS_ST32 (R322). Stores 32 bits. -/
  | lsSt32 (m : Move)
  /-- LS_ST64 (R322). Stores 64 bits; this clears a poisoned word. -/
  | lsSt64 (m : Move)
  /-- CTL_JMP (R325). Schedules a redirect to the target offset after two delay bundles. -/
  | ctlJmp (m : Move)
  /-- CTL_CALL (R326). Creates a frame record, advances the window base and redirects to the target with a link. -/
  | ctlCall (m : Move)
  /-- CTL_RET (R327). Removes the newest frame record, lowers the window base and redirects. -/
  | ctlRet (m : Move)
  /-- CTL_LOOP (R328). Decrements ctl.b and redirects while the count stays non-zero. -/
  | ctlLoop (m : Move)
  /-- CTL_PREF (R329). Starts the fill of two code lines. -/
  | ctlPref (m : Move)
  /-- CTL_END (R330). Ends the task; no further bundle issues. -/
  | ctlEnd (m : Move)
  /-- CTL_TRAP (R331). Raises TRAP with INFO a. -/
  | ctlTrap (m : Move)
  /-- CTL_RFE (R332). Ends the handler and resumes at EPC, or terminates the task when RES is 2. -/
  | ctlRfe (m : Move)
  /-- CTL_WAIT (R333). Holds until a token, chunk mask or semaphore condition is met. -/
  | ctlWait (m : Move)
  /-- CTL_SPAWN (R334). Claims an idle tile of the die and starts a spawned task on it. -/
  | ctlSpawn (m : Move)
  /-- CTL_POST (R335). Posts a launch record, after a fence of scope 3. -/
  | ctlPost (m : Move)
  /-- CTL_RSR (R336). Reads a system register into ctl.res at +2. -/
  | ctlRsr (m : Move)
  /-- CTL_WSR (R336). Writes b into a system register. -/
  | ctlWsr (m : Move)
  /-- SY_SEMRD (R343). Reads a semaphore count. -/
  | sySemrd (m : Move)
  /-- SY_SEMWR (R343). Sets a semaphore count. -/
  | sySemwr (m : Move)
  /-- SY_SEMADD (R343). Adds to a semaphore count atomically. -/
  | sySemadd (m : Move)
  /-- SY_RPUT (R344). Writes 1 to 8 bytes into another tile's store, counted at its semaphore. -/
  | syRput (m : Move)
  /-- SY_DRAIN (R345). Holds until every earlier sy.rput and its semaphore add has performed. -/
  | syDrain (m : Move)
  /-- SY_FENCE (R345). Holds until the earlier kn, sy.rput and lk.send accesses within the scope have performed. -/
  | syFence (m : Move)
  /-- SY_CLK (R346). Reads the time base or a cycle counter. -/
  | syClk (m : Move)
  /-- SY_IDN (R347). Reads an identity value. -/
  | syIdn (m : Move)
  /-- CP_DEFS (R141). Writes a shape slot from cp.sh0 to cp.sh7. -/
  | cpDefs (m : Move)
  /-- CP_CANCEL (R154). Ends every command of a channel; their tokens become FAULTED. -/
  | cpCancel (m : Move)
  /-- CP_MAP (R387). Reads one chunk-map window of a channel. -/
  | cpMap (m : Move)
  /-- CP_GO (R139). Issues a copy command on channel n with the latched shape and operands. -/
  | cpGo (m : Move) (n : Fin 16)
  /-- MX_MMA (R380). Accumulates A·B into an accumulator bank. -/
  | mxMma (m : Move)
  /-- MX_MMD (R374). Accumulates A·B, then drains. -/
  | mxMmd (m : Move)
  /-- MX_MDRN (R381). Drains a bank with residual, scale and dropout. -/
  | mxMdrn (m : Move)
  /-- MX_MCLR (R382). Clears an accumulator bank. -/
  | mxMclr (m : Move)
  /-- MX_MSAVE (R382). Saves a bank to the tile store. -/
  | mxMsave (m : Move)
  /-- MX_MLOAD (R382). Restores a bank from the tile store. -/
  | mxMload (m : Move)
  /-- KN_ADD (R391). Kiln integer add. -/
  | knAdd (m : Move)
  /-- KN_MIN (R391). Kiln signed minimum. -/
  | knMin (m : Move)
  /-- KN_MINU (R391). Kiln unsigned minimum. -/
  | knMinu (m : Move)
  /-- KN_MAX (R391). Kiln signed maximum. -/
  | knMax (m : Move)
  /-- KN_MAXU (R391). Kiln unsigned maximum. -/
  | knMaxu (m : Move)
  /-- KN_AND (R391). Kiln AND. -/
  | knAnd (m : Move)
  /-- KN_OR (R391). Kiln OR. -/
  | knOr (m : Move)
  /-- KN_XOR (R391). Kiln XOR. -/
  | knXor (m : Move)
  /-- KN_SWAP (R391). Kiln swap. -/
  | knSwap (m : Move)
  /-- KN_CAS (R392). Kiln compare-and-swap of 4 or 8 bytes. -/
  | knCas (m : Move)
  /-- KN_TICK (R391). Kiln ticket fetch-and-increment. -/
  | knTick (m : Move)
  /-- KN_PADD (R391). Kiln posit add with rounding. -/
  | knPadd (m : Move)
  /-- KN_QADD (R391). Exact quire add into a kiln cell. -/
  | knQadd (m : Move)
  /-- KN_UPD (R391). Kiln element-wise update y := y + A·x. -/
  | knUpd (m : Move)
  /-- KN_LD (R391). Kiln load. -/
  | knLd (m : Move)
  /-- KN_ST (R391). Kiln store. -/
  | knSt (m : Move)
  /-- LK_SEND (R397). Places a message in the send buffer, holding while the buffer is full. -/
  | lkSend (m : Move)
  /-- LK_RECV (R397). Pops the head of a queue, holding while it is empty. -/
  | lkRecv (m : Move)
  /-- LK_PROBE (R397). Returns a queue's entry count. -/
  | lkProbe (m : Move)
  /-- LK_PEEK (R397). Copies the head of a queue without popping it. -/
  | lkPeek (m : Move)
  /-- VA_ADDB (R352). Adds 8-bit elements. -/
  | vaAddb (m : Move)
  /-- VA_ADDH (R352). Adds 16-bit elements. -/
  | vaAddh (m : Move)
  /-- VA_ADDW (R352). Adds 32-bit elements. -/
  | vaAddw (m : Move)
  /-- VA_SUBB (R352). Subtracts 8-bit elements. -/
  | vaSubb (m : Move)
  /-- VA_SUBH (R352). Subtracts 16-bit elements. -/
  | vaSubh (m : Move)
  /-- VA_SUBW (R352). Subtracts 32-bit elements. -/
  | vaSubw (m : Move)
  /-- VA_MINB (R352). Signed minimum of 8-bit elements. -/
  | vaMinb (m : Move)
  /-- VA_MINH (R352). Signed minimum of 16-bit elements. -/
  | vaMinh (m : Move)
  /-- VA_MINW (R352). Signed minimum of 32-bit elements. -/
  | vaMinw (m : Move)
  /-- VA_MAXB (R352). Signed maximum of 8-bit elements. -/
  | vaMaxb (m : Move)
  /-- VA_MAXH (R352). Signed maximum of 16-bit elements. -/
  | vaMaxh (m : Move)
  /-- VA_MAXW (R352). Signed maximum of 32-bit elements. -/
  | vaMaxw (m : Move)
  /-- VA_CEQB (R352). Equality compare of 8-bit elements. -/
  | vaCeqb (m : Move)
  /-- VA_CEQH (R352). Equality compare of 16-bit elements. -/
  | vaCeqh (m : Move)
  /-- VA_CEQW (R352). Equality compare of 32-bit elements. -/
  | vaCeqw (m : Move)
  /-- VA_CLTB (R352). Signed less-than compare of 8-bit elements. -/
  | vaCltb (m : Move)
  /-- VA_CLTH (R352). Signed less-than compare of 16-bit elements. -/
  | vaClth (m : Move)
  /-- VA_CLTW (R352). Signed less-than compare of 32-bit elements. -/
  | vaCltw (m : Move)
  /-- VA_AND (R352). Bitwise AND over 512 bits. -/
  | vaAnd (m : Move)
  /-- VA_OR (R352). Bitwise OR over 512 bits. -/
  | vaOr (m : Move)
  /-- VA_XOR (R352). Bitwise XOR over 512 bits. -/
  | vaXor (m : Move)
  /-- VA_ANDN (R352). a and not b over 512 bits. -/
  | vaAndn (m : Move)
  /-- VA_SLLW (R352). Shifts each lane left logical. -/
  | vaSllw (m : Move)
  /-- VA_SRLW (R352). Shifts each lane right logical. -/
  | vaSrlw (m : Move)
  /-- VA_SRAW (R352). Shifts each lane right arithmetic. -/
  | vaSraw (m : Move)
  /-- VA_SEL (R352). Bitwise select under the mask c. -/
  | vaSel (m : Move)
  /-- VA_CLMUL (R353). Carry-less multiply in each lane. -/
  | vaClmul (m : Move)
  /-- VA_XSCAN (R353). Prefix XOR across lanes. -/
  | vaXscan (m : Move)
  /-- VA_ASCAN (R353). Prefix sum across lanes. -/
  | vaAscan (m : Move)
  /-- VA_PERM (R353). Byte permute. -/
  | vaPerm (m : Move)
  /-- VA_RSUM (R354). Exact 64-bit sum over all lanes. -/
  | vaRsum (m : Move)
  /-- VA_RXOR (R354). XOR over all lanes. -/
  | vaRxor (m : Move)
  /-- VA_RMAX (R354). Signed maximum over all lanes. -/
  | vaRmax (m : Move)
  /-- VA_RANY (R354). 1 when any lane is non-zero. -/
  | vaRany (m : Move)
  /-- VP_PADD (R355). Posit add, rounded once. -/
  | vpPadd (m : Move)
  /-- VP_PSUB (R355). Posit subtract, rounded once. -/
  | vpPsub (m : Move)
  /-- VP_PMUL (R355). Posit multiply, rounded once. -/
  | vpPmul (m : Move)
  /-- VP_PFMA (R355). Posit fused multiply-add. -/
  | vpPfma (m : Move)
  /-- VP_PFMS (R355). Posit fused multiply-subtract. -/
  | vpPfms (m : Move)
  /-- VP_PMIN (R356). Posit minimum. -/
  | vpPmin (m : Move)
  /-- VP_PMAX (R356). Posit maximum. -/
  | vpPmax (m : Move)
  /-- VP_PABS (R355). Posit absolute value. -/
  | vpPabs (m : Move)
  /-- VP_PNEG (R355). Posit negation. -/
  | vpPneg (m : Move)
  /-- VP_PCEQ (R356). Posit equality compare. -/
  | vpPceq (m : Move)
  /-- VP_PCLT (R356). Posit less-than compare. -/
  | vpPclt (m : Move)
  /-- VP_PCLE (R356). Posit less-or-equal compare. -/
  | vpPcle (m : Move)
  /-- VQ_QCLR0 (R358). Clears quire q0 in the lanes that are on. -/
  | vqQclr0 (m : Move)
  /-- VQ_QMAC0 (R358). Adds the lane's exact products into q0. -/
  | vqQmac0 (m : Move)
  /-- VQ_QADD0 (R358). Adds the lane's elements into q0. -/
  | vqQadd0 (m : Move)
  /-- VQ_QSUB0 (R358). Subtracts the lane's elements from q0. -/
  | vqQsub0 (m : Move)
  /-- VQ_QRND0 (R358). Rounds q0 into vq.res. -/
  | vqQrnd0 (m : Move)
  /-- VQ_QSAV0 (R360). Saves q0 to the tile store. -/
  | vqQsav0 (m : Move)
  /-- VQ_QLD0 (R360). Loads q0 from the tile store. -/
  | vqQld0 (m : Move)
  /-- VQ_QXADD0 (R359). Cross-cluster exact total of q0. -/
  | vqQxadd0 (m : Move)
  /-- VQ_QRED0 (R359). Exact 16-lane reduction of q0. -/
  | vqQred0 (m : Move)
  /-- VQ_QOVF0 (R361). Overflow control and NaR report of q0. -/
  | vqQovf0 (m : Move)
  /-- VQ_QCLR1 (R358). Clears quire q1 in the lanes that are on. -/
  | vqQclr1 (m : Move)
  /-- VQ_QMAC1 (R358). Adds the lane's exact products into q1. -/
  | vqQmac1 (m : Move)
  /-- VQ_QADD1 (R358). Adds the lane's elements into q1. -/
  | vqQadd1 (m : Move)
  /-- VQ_QSUB1 (R358). Subtracts the lane's elements from q1. -/
  | vqQsub1 (m : Move)
  /-- VQ_QRND1 (R358). Rounds q1 into vq.res. -/
  | vqQrnd1 (m : Move)
  /-- VQ_QSAV1 (R360). Saves q1 to the tile store. -/
  | vqQsav1 (m : Move)
  /-- VQ_QLD1 (R360). Loads q1 from the tile store. -/
  | vqQld1 (m : Move)
  /-- VQ_QXADD1 (R359). Cross-cluster exact total of q1. -/
  | vqQxadd1 (m : Move)
  /-- VQ_QRED1 (R359). Exact 16-lane reduction of q1. -/
  | vqQred1 (m : Move)
  /-- VQ_QOVF1 (R361). Overflow control and NaR report of q1. -/
  | vqQovf1 (m : Move)
  /-- VC_CVT (R363). Converts posit to posit, low elements. -/
  | vcCvt (m : Move)
  /-- VC_CVTH (R363). Converts posit to posit, upper elements. -/
  | vcCvth (m : Move)
  /-- VC_CVI (R363). Converts integer or IEEE values to posit, low elements. -/
  | vcCvi (m : Move)
  /-- VC_CVIH (R363). Converts integer or IEEE values to posit, upper elements. -/
  | vcCvih (m : Move)
  /-- VC_CVO (R363). Converts posit to an integer or IEEE type. -/
  | vcCvo (m : Move)
  /-- VC_MXSC (R364). Writes the scale latch with maxscale at +3. -/
  | vcMxsc (m : Move)
  /-- VC_QUAN (R363). Quantises by the scale latch. -/
  | vcQuan (m : Move)
  /-- VC_DEQU (R363). Dequantises by the scale latch. -/
  | vcDequ (m : Move)
  /-- VM_LD (R365). Contiguous vector load. -/
  | vmLd (m : Move)
  /-- VM_LDS (R365). Strided vector load. -/
  | vmLds (m : Move)
  /-- VM_LDG (R365). Gather load. -/
  | vmLdg (m : Move)
  /-- VM_ST (R365). Contiguous vector store. -/
  | vmSt (m : Move)
  /-- VM_STS (R365). Strided vector store. -/
  | vmSts (m : Move)
  /-- VM_SCT (R365). Scatter store. -/
  | vmSct (m : Move)
  /-- VX_XROT (R368). Copies the vx value of cluster (c - d) mod 8. -/
  | vxXrot (m : Move)
  /-- VX_XBC (R368). Copies the vx value of cluster d. -/
  | vxXbc (m : Move)
  /-- VF_FEVAL (R369). Evaluates a function table for each element. -/
  | vfFeval (m : Move)
  /-- EFFECTIVE_PRIORITY_RISE (R82). Each whole millisecond of waiting raises the effective priority of a READY launch, or of a running or switched-out task, by one, up to 7, which can reorder dispatch and make a waiting launch outrank a running pre-emptible task so that pre-emption becomes due. -/
  | effectivePriorityRise (part : Nat)
  /-- DUPLICATE_REQUEST (R41). A request whose SEQ is among the last 1,024 accepted is not executed again; its cached response is sent once the original completes. -/
  | duplicateRequest
  /-- UNASSIGNED_TYPE (R44). A request with an unassigned TYPE gets BAD_TYPE and has no effect. -/
  | unassignedType
  /-- INFO (R45). Returns the stepping, the working-tile lists, the bring-up report and the flash records. -/
  | info
  /-- RECORD_CLEAR (R33). Clears the bring-up records in flash. -/
  | recordClear
  /-- POWER_CAP (R44). Sets the module power cap, from 1,000 W to 4,400 W. -/
  | powerCap
  /-- FIRMWARE_IMAGE (R46). Accepts one piece of a signed firmware image; the last piece verifies the signature and writes the image into the slot not booted from. -/
  | firmwareImage
  /-- PART_CREATE (R49). Creates a partition from a die mask, a key range, the SEALED flag and a transfer window. -/
  | partCreate
  /-- PART_DESTROY (R54). Stops the partition's tiles, empties its key slots, zeroes its dies and returns them to the pool. -/
  | partDestroy
  /-- MONITOR_LOAD (R46). Loads one monitor-image piece; the last piece extends MM, sets SVEC and MBASE and moves the partition to RUNNING or STOPPED. -/
  | monitorLoad
  /-- KEY_INSTALL (R61). Unwraps an RSA-OAEP-wrapped key and places it in an empty key slot. -/
  | keyInstall
  /-- KEY_CLEAR (R61). Empties a key slot. -/
  | keyClear
  /-- PART_CONFIG_READ (R57). PART_CONFIG with OP 0 returns configuration sections from a cursor. -/
  | partConfigRead
  /-- PART_CONFIG_REPLACE (R57). PART_CONFIG with OP 1 replaces the whole partition configuration. -/
  | partConfigReplace
  /-- PART_CONFIG_APPEND (R57). PART_CONFIG with OP 2 adds sections to the partition configuration. -/
  | partConfigAppend
  /-- MEM_WRITE (R55). Writes plaintext through translation once every page has been checked. -/
  | memWrite
  /-- MEM_READ (R55). Reads plaintext through translation; meeting poison gives FAULT. -/
  | memRead
  /-- MEM_WRITE_RAW (R66). Stores ciphertext line records unchanged, with fresh check bits. -/
  | memWriteRaw
  /-- MEM_READ_RAW (R66). Returns line records holding ciphertext, glaze bits and poison flags. -/
  | memReadRaw
  /-- KILN_READ (R67). Returns kiln lines, in plaintext or encrypted under a key slot. -/
  | kilnRead
  /-- KILN_WRITE (R67). Writes kiln lines, decrypting them under a key slot when one is named. -/
  | kilnWrite
  /-- CHAIN_POST (R75). Posts the head record of a launch chain. -/
  | chainPost
  /-- STOP (R53). Stops dispatch and completes when the next checkpoint of every job takes effect. -/
  | stop
  /-- FORCE_STOP (R51). Rolls every job of the partition back and leaves the partition STOPPED. -/
  | forceStop
  /-- RESUME (R53). Starts a held monitor if there is one, then restarts dispatch. -/
  | resume
  /-- DIRTY_SCAN (R65). Returns the dirty bits of a page range and clears them, invalidating the translation caches. -/
  | dirtyScan
  /-- STATE_EXPORT (R48). Returns the pending-launch records and suspended-copy records of a STOPPED partition. -/
  | stateExport
  /-- STATE_IMPORT (R48). Installs exported launch and copy records. -/
  | stateImport
  /-- ATTEST (R63). Returns an 864-byte report over the measurements and the nonce, signed under the identity key. -/
  | attest
  /-- ERROR_READ (R69). Returns error-log entries from a cursor, filtered by partition. -/
  | errorRead
  /-- SNAPSHOT_TRIGGER (R249). Sets the snapshot time T to the acceptance time plus 1,000 for every block. -/
  | snapshotTrigger
  /-- SNAPSHOT_ARM (R249). A SNAPSHOT_TRIGGER with a non-zero event mask arms a latch on the first matching event. -/
  | snapshotArm
  /-- SNAPSHOT_READ (R250). Returns latched snapshot bytes by block and offset; reading the last byte frees the snapshot. -/
  | snapshotRead
  deriving DecidableEq, Repr

end Sys2Proof
end

