-- ==== Sys2Proof/WellFormed.lean ====
section
/-! DEFINITION. Which terms of the syntax stand for a move word or message the module can hold (R279 to R285, R302 to
R305). -/

namespace Sys2Proof

/-- Which part of the module a step belongs to: a move that triggers nothing, a trigger of the tile domain or of the
cluster domain (R308), the filler word, a control-port message, or an event. -/
inductive Kind where
  | plain (m : Move) (d : Dest)
  | tile (m : Move)
  | cluster (m : Move)
  | filler
  | message
  | event
  deriving DecidableEq, Repr

/-- The kind of every step. -/
def Instr.kind : Instr → Kind
  | .moduleStart _ => .event
  | .coldPowerCycle _ => .event
  | .edgeDown _ => .event
  | .flitReceive _ _ => .event
  | .ackOnlyFlit _ => .event
  | .portRetrain _ _ => .event
  | .routeSwitch _ _ _ => .event
  | .thermalCeilingLower _ => .event
  | .thermalDispatchStop _ => .event
  | .thermalForceStop _ => .event
  | .droopStretch _ _ => .event
  | .emergencyDroopStretch _ _ => .event
  | .memoryScrub _ _ _ => .event
  | .stopTimeout _ => .event
  | .snapshotLatch => .event
  | .launchReady _ _ => .event
  | .taskDispatch _ _ => .event
  | .fabricClockUnpin _ => .event
  | .gangStart _ _ => .event
  | .taskRetire _ => .event
  | .checkpointTakeEffect _ _ => .event
  | .logReplay _ _ => .event
  | .copyStart _ _ => .event
  | .chunkLanded _ _ _ => .event
  | .remoteWritePerform _ _ => .event
  | .linkMessageArrive _ _ => .event
  | .linkResend _ _ => .event
  | .kilnOperationPerform _ _ => .event
  | .knResultReturn _ => .event
  | .mxCommandStart _ => .event
  | .mxCommandRetire _ => .event
  | .bundleIssue _ => .event
  | .codeFillComplete _ _ => .event
  | .resultArrival _ => .event
  | .tileStorePerform _ => .event
  | .copyFault _ => .event
  | .poisonConsumed _ => .event
  | .waitTimeout _ => .event
  | .userCompletion _ => .event
  | .preemption _ => .event
  | .taskResume _ _ _ _ => .event
  | .sysregWrite _ _ => .event
  | .tlbiPage _ => .event
  | .tlbiPartition _ => .event
  | .tlbiComplete _ => .event
  | .jobctlSelect _ => .event
  | .jobctlRollback _ => .event
  | .jobctlFail _ => .event
  | .karmWrite _ => .event
  | .semarmWrite _ => .event
  | .ctxdatWrite _ => .event
  | .rankdatWrite _ => .event
  | .xwinWrite _ => .event
  | .move m d => .plain m d
  | .filler => .filler
  | .saAdd m _ => .tile m
  | .saSub m _ => .tile m
  | .saAnd m _ => .tile m
  | .saOr m _ => .tile m
  | .saXor m _ => .tile m
  | .saAndn m _ => .tile m
  | .saOrn m _ => .tile m
  | .saXnor m _ => .tile m
  | .saSll m _ => .tile m
  | .saSrl m _ => .tile m
  | .saSra m _ => .tile m
  | .saRor m _ => .tile m
  | .saMin m _ => .tile m
  | .saMax m _ => .tile m
  | .saMinu m _ => .tile m
  | .saMaxu m _ => .tile m
  | .saCeq m _ => .tile m
  | .saCne m _ => .tile m
  | .saClt m _ => .tile m
  | .saCle m _ => .tile m
  | .saCltu m _ => .tile m
  | .saCleu m _ => .tile m
  | .saCtst m _ => .tile m
  | .saSel m _ => .tile m
  | .saBext m _ => .tile m
  | .saBexts m _ => .tile m
  | .saBins m _ => .tile m
  | .saPopc m _ => .tile m
  | .saClz m _ => .tile m
  | .saCtz m _ => .tile m
  | .saAddsh m _ => .tile m
  | .saMov m _ => .tile m
  | .smMul m => .tile m
  | .smMulh m => .tile m
  | .smMulhu m => .tile m
  | .smMulw m => .tile m
  | .smDiv m => .tile m
  | .smDivu m => .tile m
  | .smRem m => .tile m
  | .smRemu m => .tile m
  | .lsLd8 m => .tile m
  | .lsLd8s m => .tile m
  | .lsLd16 m => .tile m
  | .lsLd16s m => .tile m
  | .lsLd32 m => .tile m
  | .lsLd32s m => .tile m
  | .lsLd64 m => .tile m
  | .lsSt8 m => .tile m
  | .lsSt16 m => .tile m
  | .lsSt32 m => .tile m
  | .lsSt64 m => .tile m
  | .ctlJmp m => .tile m
  | .ctlCall m => .tile m
  | .ctlRet m => .tile m
  | .ctlLoop m => .tile m
  | .ctlPref m => .tile m
  | .ctlEnd m => .tile m
  | .ctlTrap m => .tile m
  | .ctlRfe m => .tile m
  | .ctlWait m => .tile m
  | .ctlSpawn m => .tile m
  | .ctlPost m => .tile m
  | .ctlRsr m => .tile m
  | .ctlWsr m => .tile m
  | .sySemrd m => .tile m
  | .sySemwr m => .tile m
  | .sySemadd m => .tile m
  | .syRput m => .tile m
  | .syDrain m => .tile m
  | .syFence m => .tile m
  | .syClk m => .tile m
  | .syIdn m => .tile m
  | .cpDefs m => .tile m
  | .cpCancel m => .tile m
  | .cpMap m => .tile m
  | .cpGo m _ => .tile m
  | .mxMma m => .tile m
  | .mxMmd m => .tile m
  | .mxMdrn m => .tile m
  | .mxMclr m => .tile m
  | .mxMsave m => .tile m
  | .mxMload m => .tile m
  | .knAdd m => .tile m
  | .knMin m => .tile m
  | .knMinu m => .tile m
  | .knMax m => .tile m
  | .knMaxu m => .tile m
  | .knAnd m => .tile m
  | .knOr m => .tile m
  | .knXor m => .tile m
  | .knSwap m => .tile m
  | .knCas m => .tile m
  | .knTick m => .tile m
  | .knPadd m => .tile m
  | .knQadd m => .tile m
  | .knUpd m => .tile m
  | .knLd m => .tile m
  | .knSt m => .tile m
  | .lkSend m => .tile m
  | .lkRecv m => .tile m
  | .lkProbe m => .tile m
  | .lkPeek m => .tile m
  | .vaAddb m => .cluster m
  | .vaAddh m => .cluster m
  | .vaAddw m => .cluster m
  | .vaSubb m => .cluster m
  | .vaSubh m => .cluster m
  | .vaSubw m => .cluster m
  | .vaMinb m => .cluster m
  | .vaMinh m => .cluster m
  | .vaMinw m => .cluster m
  | .vaMaxb m => .cluster m
  | .vaMaxh m => .cluster m
  | .vaMaxw m => .cluster m
  | .vaCeqb m => .cluster m
  | .vaCeqh m => .cluster m
  | .vaCeqw m => .cluster m
  | .vaCltb m => .cluster m
  | .vaClth m => .cluster m
  | .vaCltw m => .cluster m
  | .vaAnd m => .cluster m
  | .vaOr m => .cluster m
  | .vaXor m => .cluster m
  | .vaAndn m => .cluster m
  | .vaSllw m => .cluster m
  | .vaSrlw m => .cluster m
  | .vaSraw m => .cluster m
  | .vaSel m => .cluster m
  | .vaClmul m => .cluster m
  | .vaXscan m => .cluster m
  | .vaAscan m => .cluster m
  | .vaPerm m => .cluster m
  | .vaRsum m => .cluster m
  | .vaRxor m => .cluster m
  | .vaRmax m => .cluster m
  | .vaRany m => .cluster m
  | .vpPadd m => .cluster m
  | .vpPsub m => .cluster m
  | .vpPmul m => .cluster m
  | .vpPfma m => .cluster m
  | .vpPfms m => .cluster m
  | .vpPmin m => .cluster m
  | .vpPmax m => .cluster m
  | .vpPabs m => .cluster m
  | .vpPneg m => .cluster m
  | .vpPceq m => .cluster m
  | .vpPclt m => .cluster m
  | .vpPcle m => .cluster m
  | .vqQclr0 m => .cluster m
  | .vqQmac0 m => .cluster m
  | .vqQadd0 m => .cluster m
  | .vqQsub0 m => .cluster m
  | .vqQrnd0 m => .cluster m
  | .vqQsav0 m => .cluster m
  | .vqQld0 m => .cluster m
  | .vqQxadd0 m => .cluster m
  | .vqQred0 m => .cluster m
  | .vqQovf0 m => .cluster m
  | .vqQclr1 m => .cluster m
  | .vqQmac1 m => .cluster m
  | .vqQadd1 m => .cluster m
  | .vqQsub1 m => .cluster m
  | .vqQrnd1 m => .cluster m
  | .vqQsav1 m => .cluster m
  | .vqQld1 m => .cluster m
  | .vqQxadd1 m => .cluster m
  | .vqQred1 m => .cluster m
  | .vqQovf1 m => .cluster m
  | .vcCvt m => .cluster m
  | .vcCvth m => .cluster m
  | .vcCvi m => .cluster m
  | .vcCvih m => .cluster m
  | .vcCvo m => .cluster m
  | .vcMxsc m => .cluster m
  | .vcQuan m => .cluster m
  | .vcDequ m => .cluster m
  | .vmLd m => .cluster m
  | .vmLds m => .cluster m
  | .vmLdg m => .cluster m
  | .vmSt m => .cluster m
  | .vmSts m => .cluster m
  | .vmSct m => .cluster m
  | .vxXrot m => .cluster m
  | .vxXbc m => .cluster m
  | .vfFeval m => .cluster m
  | .effectivePriorityRise _ => .event
  | .duplicateRequest => .message
  | .unassignedType => .message
  | .info => .message
  | .recordClear => .message
  | .powerCap => .message
  | .firmwareImage => .message
  | .partCreate => .message
  | .partDestroy => .message
  | .monitorLoad => .message
  | .keyInstall => .message
  | .keyClear => .message
  | .partConfigRead => .message
  | .partConfigReplace => .message
  | .partConfigAppend => .message
  | .memWrite => .message
  | .memRead => .message
  | .memWriteRaw => .message
  | .memReadRaw => .message
  | .kilnRead => .message
  | .kilnWrite => .message
  | .chainPost => .message
  | .stop => .message
  | .forceStop => .message
  | .resume => .message
  | .dirtyScan => .message
  | .stateExport => .message
  | .stateImport => .message
  | .attest => .message
  | .errorRead => .message
  | .snapshotTrigger => .message
  | .snapshotArm => .message
  | .snapshotRead => .message

/-- A tile bus (R280). -/
def Bus.isTile : Bus → Bool
  | .tile _ => true
  | _ => false

/-- The result ports of a domain (R303, R305), by the low eight bits of their codes. -/
def resultMapped (tile : Bool) (p : Nat) : Bool :=
  if tile then decide (p < 0x0A) || (decide (0x40 ≤ p) && decide (p < 0x60)) else decide (p < 7)

/-- The operand ports of a domain (R302, R304), by the low seven bits of their codes. -/
def portMapped (tile : Bool) (p : Nat) : Bool :=
  if tile then
    [0x00, 0x01, 0x02, 0x04, 0x05, 0x06, 0x08, 0x09, 0x0C, 0x0D, 0x10, 0x11, 0x12, 0x14, 0x15, 0x16, 0x18, 0x19, 0x1A,
      0x1C, 0x1D, 0x1E, 0x20, 0x21, 0x22].contains p || (decide (0x28 ≤ p) && decide (p < 0x3A)) || decide (0x40 ≤ p)
  else [0x00, 0x01, 0x02, 0x04, 0x05, 0x06, 0x08, 0x09, 0x0C, 0x0D, 0x10, 0x14, 0x18].contains p

/-- G = 0b10000 is reserved and 0b00000 means always, so no index is zero (R281). -/
def Guard.wf : Guard → Bool
  | .always => true
  | .test k _ => decide (k.val ≠ 0)

def Source.wf (tile : Bool) : Source → Bool
  | .result p => resultMapped tile p.toNat
  | _ => true

/-- p0 and m0 are not writable (R284). -/
def Dest.wf (tile : Bool) : Dest → Bool
  | .reg r => decide (r.val ≠ 0x20)
  | .port p => portMapped tile p.toNat

def Move.wf (m : Move) : Bool := m.guard.wf && m.src.wf m.bus.isTile

/-- A step whose move word, message or event can occur. -/
def Instr.wf (i : Instr) : Bool :=
  match i.kind with
  | .plain m d => m.wf && d.wf m.bus.isTile
  | .tile m => m.wf && m.bus.isTile
  | .cluster m => m.wf && !m.bus.isTile
  | .filler => true
  | .message => true
  | .event => true

/-- The well-formed instructions. -/
abbrev WellFormed (i : Instr) : Prop := i.wf = true

end Sys2Proof
end

