-- ==== Sys2Proof/Decode.lean ====
section
/-! DEFINITION. From move words to instructions (R276 to R288, R302 to R310), by tables of trigger codes, then the
encoder written from the same tables. -/

namespace Sys2Proof

open Sys2Proof.Machine


/-- The tile-domain trigger codes of R309 with what each starts. Part 1. -/
def tileOps0 : List (Nat × (Move → Instr)) :=
  [(0x180, fun m => .saAdd m false), (0x181, fun m => .saSub m false), (0x182, fun m => .saAnd m false),
   (0x183, fun m => .saOr m false), (0x184, fun m => .saXor m false), (0x185, fun m => .saAndn m false),
   (0x186, fun m => .saOrn m false), (0x187, fun m => .saXnor m false), (0x188, fun m => .saSll m false),
   (0x189, fun m => .saSrl m false), (0x18A, fun m => .saSra m false), (0x18B, fun m => .saRor m false),
   (0x18C, fun m => .saMin m false), (0x18D, fun m => .saMax m false), (0x18E, fun m => .saMinu m false),
   (0x18F, fun m => .saMaxu m false), (0x190, fun m => .saCeq m false), (0x191, fun m => .saCne m false),
   (0x192, fun m => .saClt m false), (0x193, fun m => .saCle m false), (0x194, fun m => .saCltu m false),
   (0x195, fun m => .saCleu m false), (0x196, fun m => .saCtst m false), (0x197, fun m => .saSel m false)]

/-- The tile-domain trigger codes of R309 with what each starts. Part 2. -/
def tileOps1 : List (Nat × (Move → Instr)) :=
  [(0x198, fun m => .saBext m false), (0x199, fun m => .saBexts m false), (0x19A, fun m => .saBins m false),
   (0x19B, fun m => .saPopc m false), (0x19C, fun m => .saClz m false), (0x19D, fun m => .saCtz m false),
   (0x19E, fun m => .saAddsh m false), (0x19F, fun m => .saMov m false), (0x1A0, fun m => .saAdd m true),
   (0x1A1, fun m => .saSub m true), (0x1A2, fun m => .saAnd m true), (0x1A3, fun m => .saOr m true),
   (0x1A4, fun m => .saXor m true), (0x1A5, fun m => .saAndn m true), (0x1A6, fun m => .saOrn m true),
   (0x1A7, fun m => .saXnor m true), (0x1A8, fun m => .saSll m true), (0x1A9, fun m => .saSrl m true),
   (0x1AA, fun m => .saSra m true), (0x1AB, fun m => .saRor m true), (0x1AC, fun m => .saMin m true),
   (0x1AD, fun m => .saMax m true), (0x1AE, fun m => .saMinu m true), (0x1AF, fun m => .saMaxu m true)]

/-- The tile-domain trigger codes of R309 with what each starts. Part 3. -/
def tileOps2 : List (Nat × (Move → Instr)) :=
  [(0x1B0, fun m => .saCeq m true), (0x1B1, fun m => .saCne m true), (0x1B2, fun m => .saClt m true),
   (0x1B3, fun m => .saCle m true), (0x1B4, fun m => .saCltu m true), (0x1B5, fun m => .saCleu m true),
   (0x1B6, fun m => .saCtst m true), (0x1B7, fun m => .saSel m true), (0x1B8, fun m => .saBext m true),
   (0x1B9, fun m => .saBexts m true), (0x1BA, fun m => .saBins m true), (0x1BB, fun m => .saPopc m true),
   (0x1BC, fun m => .saClz m true), (0x1BD, fun m => .saCtz m true), (0x1BE, fun m => .saAddsh m true),
   (0x1BF, fun m => .saMov m true), (0x1C0, fun m => .smMul m), (0x1C1, fun m => .smMulh m),
   (0x1C2, fun m => .smMulhu m), (0x1C3, fun m => .smMulw m), (0x1C4, fun m => .smDiv m),
   (0x1C5, fun m => .smDivu m), (0x1C6, fun m => .smRem m), (0x1C7, fun m => .smRemu m)]

/-- The tile-domain trigger codes of R309 with what each starts. Part 4. -/
def tileOps3 : List (Nat × (Move → Instr)) :=
  [(0x1C8, fun m => .lsLd8 m), (0x1C9, fun m => .lsLd8s m), (0x1CA, fun m => .lsLd16 m),
   (0x1CB, fun m => .lsLd16s m), (0x1CC, fun m => .lsLd32 m), (0x1CD, fun m => .lsLd32s m),
   (0x1CE, fun m => .lsLd64 m), (0x1D0, fun m => .lsSt8 m), (0x1D1, fun m => .lsSt16 m),
   (0x1D2, fun m => .lsSt32 m), (0x1D3, fun m => .lsSt64 m), (0x1D8, fun m => .ctlJmp m),
   (0x1D9, fun m => .ctlCall m), (0x1DA, fun m => .ctlRet m), (0x1DB, fun m => .ctlLoop m),
   (0x1DC, fun m => .ctlPref m), (0x1DD, fun m => .ctlEnd m), (0x1DE, fun m => .ctlTrap m),
   (0x1DF, fun m => .ctlRfe m), (0x1E0, fun m => .ctlWait m), (0x1E1, fun m => .ctlSpawn m),
   (0x1E2, fun m => .ctlPost m), (0x1E3, fun m => .ctlRsr m), (0x1E4, fun m => .ctlWsr m)]

/-- The tile-domain trigger codes of R309 with what each starts. Part 5. -/
def tileOps4 : List (Nat × (Move → Instr)) :=
  [(0x1E8, fun m => .sySemrd m), (0x1E9, fun m => .sySemwr m), (0x1EA, fun m => .sySemadd m),
   (0x1EB, fun m => .syRput m), (0x1EC, fun m => .syDrain m), (0x1ED, fun m => .syFence m),
   (0x1EE, fun m => .syClk m), (0x1EF, fun m => .syIdn m), (0x1F0, fun m => .cpDefs m),
   (0x1F1, fun m => .cpCancel m), (0x1F2, fun m => .cpMap m), (0x200, fun m => .cpGo m 0),
   (0x201, fun m => .cpGo m 1), (0x202, fun m => .cpGo m 2), (0x203, fun m => .cpGo m 3),
   (0x204, fun m => .cpGo m 4), (0x205, fun m => .cpGo m 5), (0x206, fun m => .cpGo m 6),
   (0x207, fun m => .cpGo m 7), (0x208, fun m => .cpGo m 8), (0x209, fun m => .cpGo m 9),
   (0x20A, fun m => .cpGo m 10), (0x20B, fun m => .cpGo m 11), (0x20C, fun m => .cpGo m 12)]

/-- The tile-domain trigger codes of R309 with what each starts. Part 6. -/
def tileOps5 : List (Nat × (Move → Instr)) :=
  [(0x20D, fun m => .cpGo m 13), (0x20E, fun m => .cpGo m 14), (0x20F, fun m => .cpGo m 15),
   (0x210, fun m => .mxMma m), (0x211, fun m => .mxMmd m), (0x212, fun m => .mxMdrn m),
   (0x213, fun m => .mxMclr m), (0x214, fun m => .mxMsave m), (0x215, fun m => .mxMload m),
   (0x218, fun m => .knAdd m), (0x219, fun m => .knMin m), (0x21A, fun m => .knMinu m),
   (0x21B, fun m => .knMax m), (0x21C, fun m => .knMaxu m), (0x21D, fun m => .knAnd m),
   (0x21E, fun m => .knOr m), (0x21F, fun m => .knXor m), (0x220, fun m => .knSwap m),
   (0x221, fun m => .knCas m), (0x222, fun m => .knTick m), (0x223, fun m => .knPadd m),
   (0x224, fun m => .knQadd m), (0x225, fun m => .knUpd m), (0x226, fun m => .knLd m)]

/-- The tile-domain trigger codes of R309 with what each starts. Part 7. -/
def tileOps6 : List (Nat × (Move → Instr)) :=
  [(0x227, fun m => .knSt m), (0x228, fun m => .lkSend m), (0x229, fun m => .lkRecv m),
   (0x22A, fun m => .lkProbe m), (0x22B, fun m => .lkPeek m)]

/-- The tile-domain trigger codes of R309 with what each starts. -/
def tileOps : List (Nat × (Move → Instr)) := tileOps0 ++ tileOps1 ++ tileOps2 ++ tileOps3 ++ tileOps4 ++ tileOps5 ++ tileOps6

/-- The cluster-domain trigger codes of R310 with what each starts. Part 1. -/
def clusterOps0 : List (Nat × (Move → Instr)) :=
  [(0x180, fun m => .vaAddb m), (0x181, fun m => .vaAddh m), (0x182, fun m => .vaAddw m),
   (0x183, fun m => .vaSubb m), (0x184, fun m => .vaSubh m), (0x185, fun m => .vaSubw m),
   (0x186, fun m => .vaMinb m), (0x187, fun m => .vaMinh m), (0x188, fun m => .vaMinw m),
   (0x189, fun m => .vaMaxb m), (0x18A, fun m => .vaMaxh m), (0x18B, fun m => .vaMaxw m),
   (0x18C, fun m => .vaCeqb m), (0x18D, fun m => .vaCeqh m), (0x18E, fun m => .vaCeqw m),
   (0x18F, fun m => .vaCltb m), (0x190, fun m => .vaClth m), (0x191, fun m => .vaCltw m),
   (0x192, fun m => .vaAnd m), (0x193, fun m => .vaOr m), (0x194, fun m => .vaXor m),
   (0x195, fun m => .vaAndn m), (0x196, fun m => .vaSllw m), (0x197, fun m => .vaSrlw m)]

/-- The cluster-domain trigger codes of R310 with what each starts. Part 2. -/
def clusterOps1 : List (Nat × (Move → Instr)) :=
  [(0x198, fun m => .vaSraw m), (0x199, fun m => .vaSel m), (0x19A, fun m => .vaClmul m),
   (0x19B, fun m => .vaXscan m), (0x19C, fun m => .vaAscan m), (0x19D, fun m => .vaPerm m),
   (0x19E, fun m => .vaRsum m), (0x19F, fun m => .vaRxor m), (0x1A0, fun m => .vaRmax m),
   (0x1A1, fun m => .vaRany m), (0x1C0, fun m => .vpPadd m), (0x1C1, fun m => .vpPsub m),
   (0x1C2, fun m => .vpPmul m), (0x1C3, fun m => .vpPfma m), (0x1C4, fun m => .vpPfms m),
   (0x1C5, fun m => .vpPmin m), (0x1C6, fun m => .vpPmax m), (0x1C7, fun m => .vpPabs m),
   (0x1C8, fun m => .vpPneg m), (0x1C9, fun m => .vpPceq m), (0x1CA, fun m => .vpPclt m),
   (0x1CB, fun m => .vpPcle m), (0x1D0, fun m => .vqQclr0 m), (0x1D1, fun m => .vqQmac0 m)]

/-- The cluster-domain trigger codes of R310 with what each starts. Part 3. -/
def clusterOps2 : List (Nat × (Move → Instr)) :=
  [(0x1D2, fun m => .vqQadd0 m), (0x1D3, fun m => .vqQsub0 m), (0x1D4, fun m => .vqQrnd0 m),
   (0x1D5, fun m => .vqQsav0 m), (0x1D6, fun m => .vqQld0 m), (0x1D7, fun m => .vqQxadd0 m),
   (0x1D8, fun m => .vqQred0 m), (0x1D9, fun m => .vqQovf0 m), (0x1E0, fun m => .vqQclr1 m),
   (0x1E1, fun m => .vqQmac1 m), (0x1E2, fun m => .vqQadd1 m), (0x1E3, fun m => .vqQsub1 m),
   (0x1E4, fun m => .vqQrnd1 m), (0x1E5, fun m => .vqQsav1 m), (0x1E6, fun m => .vqQld1 m),
   (0x1E7, fun m => .vqQxadd1 m), (0x1E8, fun m => .vqQred1 m), (0x1E9, fun m => .vqQovf1 m),
   (0x1F0, fun m => .vcCvt m), (0x1F1, fun m => .vcCvth m), (0x1F2, fun m => .vcCvi m),
   (0x1F3, fun m => .vcCvih m), (0x1F4, fun m => .vcCvo m), (0x1F5, fun m => .vcMxsc m)]

/-- The cluster-domain trigger codes of R310 with what each starts. Part 4. -/
def clusterOps3 : List (Nat × (Move → Instr)) :=
  [(0x1F6, fun m => .vcQuan m), (0x1F7, fun m => .vcDequ m), (0x1F8, fun m => .vmLd m),
   (0x1F9, fun m => .vmLds m), (0x1FA, fun m => .vmLdg m), (0x1FB, fun m => .vmSt m),
   (0x1FC, fun m => .vmSts m), (0x1FD, fun m => .vmSct m), (0x200, fun m => .vxXrot m),
   (0x201, fun m => .vxXbc m), (0x204, fun m => .vfFeval m)]

/-- The cluster-domain trigger codes of R310 with what each starts. -/
def clusterOps : List (Nat × (Move → Instr)) := clusterOps0 ++ clusterOps1 ++ clusterOps2 ++ clusterOps3

/-- The unit that owns a tile-domain trigger code (R308), numbered as R233 numbers units. -/
def tileUnit (d : Nat) : Option Nat :=
  if d < 0x180 then none
  else if d < 0x1A0 then some 0
  else if d < 0x1C0 then some 1
  else if d < 0x1C8 then some 2
  else if d < 0x1D8 then some 3
  else if d < 0x1E8 then some 4
  else if d < 0x1F0 then some 5
  else if d < 0x210 then some 6
  else if d < 0x218 then some 7
  else if d < 0x228 then some 8
  else if d < 0x230 then some 9
  else none

/-- The unit that owns a cluster-domain trigger code (R308), numbered as R233 numbers units. -/
def clusterUnit (d : Nat) : Option Nat :=
  if d < 0x180 then none
  else if d < 0x1C0 then some 16
  else if d < 0x1D0 then some 17
  else if d < 0x1F0 then some 18
  else if d < 0x1F8 then some 19
  else if d < 0x200 then some 20
  else if d < 0x204 then some 21
  else if d < 0x208 then some 22
  else none

/-- The unit of a trigger code in its domain. -/
def unitOf (tile : Bool) (d : Nat) : Option Nat := if tile then tileUnit d else clusterUnit d

/-- The code of a unit's operand port a, which a trigger also writes (R199, R200). -/
def portA (u : Nat) : Option Nat :=
  if u = 0 then some 0x100 else if u = 1 then some 0x104 else if u = 2 then some 0x108 else if u = 3 then some 0x10C
  else if u = 4 then some 0x110 else if u = 5 then some 0x114 else if u = 8 then some 0x118 else if u = 9 then some 0x11C
  else if u = 16 then some 0x100 else if u = 17 then some 0x104 else if u = 18 then some 0x108
  else if u = 19 then some 0x10C else none

/-- The bus of a bus id (R280). -/
def busOf (b : Nat) : Option Bus :=
  if h : b < 32 then some (.cluster ⟨b / 4, by omega⟩ ⟨b % 4, by omega⟩)
  else if h : b < 40 then some (.tile ⟨b % 8, by omega⟩)
  else if h : b < 44 then some (.fan ⟨b % 4, by omega⟩)
  else none

/-- The bus id of a bus (R280). -/
def Bus.id : Bus → Nat
  | .cluster c n => 4 * c.val + n.val
  | .tile n => 32 + n.val
  | .fan n => 40 + n.val

/-- The guard of a guard field (R281). -/
def guardOf (g : Nat) : Option Guard :=
  if g = 0 then some .always
  else if g % 16 = 0 then none
  else some (.test ⟨g % 16, by omega⟩ (g / 16 == 1))

/-- The guard field of a guard (R281). -/
def Guard.code : Guard → Nat
  | .always => 0
  | .test k inv => k.val + (if inv then 16 else 0)

/-- The source of a source field and the word that follows (R282, R283, R303, R305). -/
def sourceOf (tile : Bool) (s : Nat) (next : Lane) : Option Source :=
  if h : s < 0x30 then some (.reg ⟨s, h⟩)
  else if s < 0x100 then none
  else if s < 0x1FF then if resultMapped tile (s - 0x100) then some (.result (BitVec.ofNat 8 (s - 0x100))) else none
  else if s = 0x1FF then some (.long next)
  else some (.short (BitVec.ofNat 9 (s - 0x200)))

/-- The source field of a source (R282). -/
def Source.code : Source → Nat
  | .reg r => r.val
  | .result p => 0x100 + p.toNat
  | .short v => 0x200 + v.toNat
  | .long _ => 0x1FF

/-- What a decoded word is: a step, or a trigger of a reserved opcode in a unit's block (R284, R288). -/
inductive Item where
  | op (i : Instr)
  | reserved (m : Move) (d : Nat)
  deriving DecidableEq, Repr

/-- Why a word is not a legal move word (R286). -/
inductive WordError where
  | bus
  | guard
  | source
  | destination
  | unwritable
  deriving DecidableEq, Repr

/-- What a trigger code starts, in its domain. -/
def opOf (tile : Bool) (d : Nat) (m : Move) : Option Instr :=
  (mfind d (if tile then tileOps else clusterOps)).map (fun f => f m)

/-- The destination field of a move word (R284). -/
def itemOf (m : Move) (d : Nat) : Except WordError Item :=
  let tile := m.bus.isTile
  if h : d < 0x30 then
    if d = 0x20 then .error .unwritable else .ok (.op (.move m (.reg ⟨d, h⟩)))
  else if d < 0x100 then .error .destination
  else if d < 0x180 then
    if portMapped tile (d - 0x100) then .ok (.op (.move m (.port (BitVec.ofNat 7 (d - 0x100))))) else .error .destination
  else
    match opOf tile d m with
    | some i => .ok (.op i)
    | none => if (unitOf tile d).isSome then .ok (.reserved m d) else .error .destination

/-- One move word with the word that follows it (R279). -/
def decodeMove (w : Nat) (next : Lane) : Except WordError Item :=
  match busOf (field w 30 25) with
  | none => .error .bus
  | some b =>
    match guardOf (field w 24 20) with
    | none => .error .guard
    | some g =>
      match sourceOf b.isTile (field w 19 10) next with
      | none => .error .source
      | some s => itemOf { last := bit w 31, bus := b, guard := g, src := s } (field w 9 0)

/-- The filler word of R277. -/
def fillerWord : Nat := 0xFE000000

/-- One word on its own, with the word that follows it: the filler word, or a move word. -/
def decodeWord (w : Nat) (next : Lane) : Except WordError Item :=
  if w = fillerWord then .ok (.op .filler) else decodeMove w next

/-- A move word is followed by its long immediate when its S field is 0x1FF (R282). -/
def hasLong (w : Nat) : Bool := field w 19 10 == 0x1FF

/-- The first instruction of a list of words, with the words after it. -/
def decodeWords : List Lane → Option (Instr × List Lane)
  | [] => none
  | w :: ws =>
    if hasLong w.toNat && decide (w.toNat ≠ fillerWord) then
      match ws with
      | [] => none
      | x :: rest =>
        match decodeWord w.toNat x with
        | .ok (.op i) => some (i, rest)
        | _ => none
    else
      match decodeWord w.toNat 0 with
      | .ok (.op i) => some (i, ws)
      | _ => none

/-- The words of a little-endian byte list (R4). -/
def wordsOf : List Byte → List Lane
  | a :: b :: c :: d :: rest => BitVec.ofNat 32 (ofBytes [a, b, c, d]) :: wordsOf rest
  | _ => []

/-- The instruction whose table bits are w: the words are laid out as the code heap stores them, zero above nbits up to
the longest form of two words, and read back by the decoder (log 11). -/
def decodeTableWord (nbits w : Nat) : Option Instr := (decodeWords (wordsOf (toBytes 8 (w % 2 ^ nbits)))).map Prod.fst

/-! ## Bundles -/

/-- What one word of a bundle writes (R286, condition 7): registers, predicates, masks and operand ports as keys, and
the port a that a trigger writes. Cluster c's keys start at 0x1000 × (c + 1). -/
structure Writes where
  moves    : List Nat
  triggers : List Nat
  deriving DecidableEq, Repr

/-- A register with the complement an even predicate or mask also writes (R209). -/
def registerKeys (base r : Nat) : List Nat :=
  if 0x20 ≤ r && r % 2 == 0 then [base + r, base + r + 1] else [base + r]

/-- The k-th tile-writable port of a cluster (R304), by its code in the cluster. -/
def tileWritable (k : Nat) : Nat := nth 0x118 [0x101, 0x105, 0x106, 0x109, 0x10D, 0x110, 0x114, 0x118] k

/-- The key of a tile-bus operand port: its code, or the cluster port it reaches (R304). -/
def tilePortKey (d : Nat) : Nat :=
  if d < 0x140 then d else 0x1000 * ((d - 0x140) / 8 + 1) + tileWritable ((d - 0x140) % 8)

/-- The key bases of the domain a bus writes: its cluster's, or every cluster's in use for a fan bus (R198). -/
def busBases (inUse : Nat) : Bus → List Nat
  | .tile _ => [0]
  | .cluster c _ => [0x1000 * (c.val + 1)]
  | .fan _ => ((upFrom 0 8).filter (fun c => inUse.testBit c)).map (fun c => 0x1000 * (c + 1))

/-- What a move word with destination code d writes. -/
def wordWrites (inUse : Nat) (m : Move) (d : Nat) : Writes :=
  let bases := busBases inUse m.bus
  if d < 0x30 then { moves := bases.flatMap (fun b => registerKeys b d), triggers := [] }
  else if d < 0x180 then
    { moves := if m.bus.isTile then [tilePortKey d] else bases.map (fun b => b + d), triggers := [] }
  else
    { moves := [],
      triggers := match (unitOf m.bus.isTile d).bind portA with
        | some p => bases.map (fun b => b + p)
        | none => [] }

/-! ## The encoder -/

/-- The trigger code of an instruction that triggers a unit (R309, R310); zero for any other. -/
def Instr.code : Instr → Nat
  | .moduleStart _ => 0
  | .coldPowerCycle _ => 0
  | .edgeDown _ => 0
  | .flitReceive _ _ => 0
  | .ackOnlyFlit _ => 0
  | .portRetrain _ _ => 0
  | .routeSwitch _ _ _ => 0
  | .thermalCeilingLower _ => 0
  | .thermalDispatchStop _ => 0
  | .thermalForceStop _ => 0
  | .droopStretch _ _ => 0
  | .emergencyDroopStretch _ _ => 0
  | .memoryScrub _ _ _ => 0
  | .stopTimeout _ => 0
  | .snapshotLatch => 0
  | .launchReady _ _ => 0
  | .taskDispatch _ _ => 0
  | .fabricClockUnpin _ => 0
  | .gangStart _ _ => 0
  | .taskRetire _ => 0
  | .checkpointTakeEffect _ _ => 0
  | .logReplay _ _ => 0
  | .copyStart _ _ => 0
  | .chunkLanded _ _ _ => 0
  | .remoteWritePerform _ _ => 0
  | .linkMessageArrive _ _ => 0
  | .linkResend _ _ => 0
  | .kilnOperationPerform _ _ => 0
  | .knResultReturn _ => 0
  | .mxCommandStart _ => 0
  | .mxCommandRetire _ => 0
  | .bundleIssue _ => 0
  | .codeFillComplete _ _ => 0
  | .resultArrival _ => 0
  | .tileStorePerform _ => 0
  | .copyFault _ => 0
  | .poisonConsumed _ => 0
  | .waitTimeout _ => 0
  | .userCompletion _ => 0
  | .preemption _ => 0
  | .taskResume _ _ _ _ => 0
  | .sysregWrite _ _ => 0
  | .tlbiPage _ => 0
  | .tlbiPartition _ => 0
  | .tlbiComplete _ => 0
  | .jobctlSelect _ => 0
  | .jobctlRollback _ => 0
  | .jobctlFail _ => 0
  | .karmWrite _ => 0
  | .semarmWrite _ => 0
  | .ctxdatWrite _ => 0
  | .rankdatWrite _ => 0
  | .xwinWrite _ => 0
  | .move _ _ => 0
  | .filler => 0
  | .saAdd _ u => 0x180 + (if u then 0x20 else 0)
  | .saSub _ u => 0x181 + (if u then 0x20 else 0)
  | .saAnd _ u => 0x182 + (if u then 0x20 else 0)
  | .saOr _ u => 0x183 + (if u then 0x20 else 0)
  | .saXor _ u => 0x184 + (if u then 0x20 else 0)
  | .saAndn _ u => 0x185 + (if u then 0x20 else 0)
  | .saOrn _ u => 0x186 + (if u then 0x20 else 0)
  | .saXnor _ u => 0x187 + (if u then 0x20 else 0)
  | .saSll _ u => 0x188 + (if u then 0x20 else 0)
  | .saSrl _ u => 0x189 + (if u then 0x20 else 0)
  | .saSra _ u => 0x18A + (if u then 0x20 else 0)
  | .saRor _ u => 0x18B + (if u then 0x20 else 0)
  | .saMin _ u => 0x18C + (if u then 0x20 else 0)
  | .saMax _ u => 0x18D + (if u then 0x20 else 0)
  | .saMinu _ u => 0x18E + (if u then 0x20 else 0)
  | .saMaxu _ u => 0x18F + (if u then 0x20 else 0)
  | .saCeq _ u => 0x190 + (if u then 0x20 else 0)
  | .saCne _ u => 0x191 + (if u then 0x20 else 0)
  | .saClt _ u => 0x192 + (if u then 0x20 else 0)
  | .saCle _ u => 0x193 + (if u then 0x20 else 0)
  | .saCltu _ u => 0x194 + (if u then 0x20 else 0)
  | .saCleu _ u => 0x195 + (if u then 0x20 else 0)
  | .saCtst _ u => 0x196 + (if u then 0x20 else 0)
  | .saSel _ u => 0x197 + (if u then 0x20 else 0)
  | .saBext _ u => 0x198 + (if u then 0x20 else 0)
  | .saBexts _ u => 0x199 + (if u then 0x20 else 0)
  | .saBins _ u => 0x19A + (if u then 0x20 else 0)
  | .saPopc _ u => 0x19B + (if u then 0x20 else 0)
  | .saClz _ u => 0x19C + (if u then 0x20 else 0)
  | .saCtz _ u => 0x19D + (if u then 0x20 else 0)
  | .saAddsh _ u => 0x19E + (if u then 0x20 else 0)
  | .saMov _ u => 0x19F + (if u then 0x20 else 0)
  | .smMul _ => 0x1C0
  | .smMulh _ => 0x1C1
  | .smMulhu _ => 0x1C2
  | .smMulw _ => 0x1C3
  | .smDiv _ => 0x1C4
  | .smDivu _ => 0x1C5
  | .smRem _ => 0x1C6
  | .smRemu _ => 0x1C7
  | .lsLd8 _ => 0x1C8
  | .lsLd8s _ => 0x1C9
  | .lsLd16 _ => 0x1CA
  | .lsLd16s _ => 0x1CB
  | .lsLd32 _ => 0x1CC
  | .lsLd32s _ => 0x1CD
  | .lsLd64 _ => 0x1CE
  | .lsSt8 _ => 0x1D0
  | .lsSt16 _ => 0x1D1
  | .lsSt32 _ => 0x1D2
  | .lsSt64 _ => 0x1D3
  | .ctlJmp _ => 0x1D8
  | .ctlCall _ => 0x1D9
  | .ctlRet _ => 0x1DA
  | .ctlLoop _ => 0x1DB
  | .ctlPref _ => 0x1DC
  | .ctlEnd _ => 0x1DD
  | .ctlTrap _ => 0x1DE
  | .ctlRfe _ => 0x1DF
  | .ctlWait _ => 0x1E0
  | .ctlSpawn _ => 0x1E1
  | .ctlPost _ => 0x1E2
  | .ctlRsr _ => 0x1E3
  | .ctlWsr _ => 0x1E4
  | .sySemrd _ => 0x1E8
  | .sySemwr _ => 0x1E9
  | .sySemadd _ => 0x1EA
  | .syRput _ => 0x1EB
  | .syDrain _ => 0x1EC
  | .syFence _ => 0x1ED
  | .syClk _ => 0x1EE
  | .syIdn _ => 0x1EF
  | .cpDefs _ => 0x1F0
  | .cpCancel _ => 0x1F1
  | .cpMap _ => 0x1F2
  | .cpGo _ n => 0x200 + n.val
  | .mxMma _ => 0x210
  | .mxMmd _ => 0x211
  | .mxMdrn _ => 0x212
  | .mxMclr _ => 0x213
  | .mxMsave _ => 0x214
  | .mxMload _ => 0x215
  | .knAdd _ => 0x218
  | .knMin _ => 0x219
  | .knMinu _ => 0x21A
  | .knMax _ => 0x21B
  | .knMaxu _ => 0x21C
  | .knAnd _ => 0x21D
  | .knOr _ => 0x21E
  | .knXor _ => 0x21F
  | .knSwap _ => 0x220
  | .knCas _ => 0x221
  | .knTick _ => 0x222
  | .knPadd _ => 0x223
  | .knQadd _ => 0x224
  | .knUpd _ => 0x225
  | .knLd _ => 0x226
  | .knSt _ => 0x227
  | .lkSend _ => 0x228
  | .lkRecv _ => 0x229
  | .lkProbe _ => 0x22A
  | .lkPeek _ => 0x22B
  | .vaAddb _ => 0x180
  | .vaAddh _ => 0x181
  | .vaAddw _ => 0x182
  | .vaSubb _ => 0x183
  | .vaSubh _ => 0x184
  | .vaSubw _ => 0x185
  | .vaMinb _ => 0x186
  | .vaMinh _ => 0x187
  | .vaMinw _ => 0x188
  | .vaMaxb _ => 0x189
  | .vaMaxh _ => 0x18A
  | .vaMaxw _ => 0x18B
  | .vaCeqb _ => 0x18C
  | .vaCeqh _ => 0x18D
  | .vaCeqw _ => 0x18E
  | .vaCltb _ => 0x18F
  | .vaClth _ => 0x190
  | .vaCltw _ => 0x191
  | .vaAnd _ => 0x192
  | .vaOr _ => 0x193
  | .vaXor _ => 0x194
  | .vaAndn _ => 0x195
  | .vaSllw _ => 0x196
  | .vaSrlw _ => 0x197
  | .vaSraw _ => 0x198
  | .vaSel _ => 0x199
  | .vaClmul _ => 0x19A
  | .vaXscan _ => 0x19B
  | .vaAscan _ => 0x19C
  | .vaPerm _ => 0x19D
  | .vaRsum _ => 0x19E
  | .vaRxor _ => 0x19F
  | .vaRmax _ => 0x1A0
  | .vaRany _ => 0x1A1
  | .vpPadd _ => 0x1C0
  | .vpPsub _ => 0x1C1
  | .vpPmul _ => 0x1C2
  | .vpPfma _ => 0x1C3
  | .vpPfms _ => 0x1C4
  | .vpPmin _ => 0x1C5
  | .vpPmax _ => 0x1C6
  | .vpPabs _ => 0x1C7
  | .vpPneg _ => 0x1C8
  | .vpPceq _ => 0x1C9
  | .vpPclt _ => 0x1CA
  | .vpPcle _ => 0x1CB
  | .vqQclr0 _ => 0x1D0
  | .vqQmac0 _ => 0x1D1
  | .vqQadd0 _ => 0x1D2
  | .vqQsub0 _ => 0x1D3
  | .vqQrnd0 _ => 0x1D4
  | .vqQsav0 _ => 0x1D5
  | .vqQld0 _ => 0x1D6
  | .vqQxadd0 _ => 0x1D7
  | .vqQred0 _ => 0x1D8
  | .vqQovf0 _ => 0x1D9
  | .vqQclr1 _ => 0x1E0
  | .vqQmac1 _ => 0x1E1
  | .vqQadd1 _ => 0x1E2
  | .vqQsub1 _ => 0x1E3
  | .vqQrnd1 _ => 0x1E4
  | .vqQsav1 _ => 0x1E5
  | .vqQld1 _ => 0x1E6
  | .vqQxadd1 _ => 0x1E7
  | .vqQred1 _ => 0x1E8
  | .vqQovf1 _ => 0x1E9
  | .vcCvt _ => 0x1F0
  | .vcCvth _ => 0x1F1
  | .vcCvi _ => 0x1F2
  | .vcCvih _ => 0x1F3
  | .vcCvo _ => 0x1F4
  | .vcMxsc _ => 0x1F5
  | .vcQuan _ => 0x1F6
  | .vcDequ _ => 0x1F7
  | .vmLd _ => 0x1F8
  | .vmLds _ => 0x1F9
  | .vmLdg _ => 0x1FA
  | .vmSt _ => 0x1FB
  | .vmSts _ => 0x1FC
  | .vmSct _ => 0x1FD
  | .vxXrot _ => 0x200
  | .vxXbc _ => 0x201
  | .vfFeval _ => 0x204
  | .effectivePriorityRise _ => 0
  | .duplicateRequest => 0
  | .unassignedType => 0
  | .info => 0
  | .recordClear => 0
  | .powerCap => 0
  | .firmwareImage => 0
  | .partCreate => 0
  | .partDestroy => 0
  | .monitorLoad => 0
  | .keyInstall => 0
  | .keyClear => 0
  | .partConfigRead => 0
  | .partConfigReplace => 0
  | .partConfigAppend => 0
  | .memWrite => 0
  | .memRead => 0
  | .memWriteRaw => 0
  | .memReadRaw => 0
  | .kilnRead => 0
  | .kilnWrite => 0
  | .chainPost => 0
  | .stop => 0
  | .forceStop => 0
  | .resume => 0
  | .dirtyScan => 0
  | .stateExport => 0
  | .stateImport => 0
  | .attest => 0
  | .errorRead => 0
  | .snapshotTrigger => 0
  | .snapshotArm => 0
  | .snapshotRead => 0

/-- The destination code of a move that triggers nothing (R284). -/
def Dest.code : Dest → Nat
  | .reg r => r.val
  | .port p => 0x100 + p.toNat

/-- The move and destination code of an instruction that is one move word. -/
def Instr.parts (i : Instr) : Option (Move × Nat) :=
  match i.kind with
  | .plain m d => some (m, d.code)
  | .tile m => some (m, i.code)
  | .cluster m => some (m, i.code)
  | .filler => none
  | .message => none
  | .event => none

/-- The move word of R279. -/
def moveWord (m : Move) (d : Nat) : Nat :=
  (if m.last then 2 ^ 31 else 0) + 2 ^ 25 * m.bus.id + 2 ^ 20 * m.guard.code + 2 ^ 10 * m.src.code + d

/-- The long immediate a move word carries with it (R282). -/
def Source.extra : Source → List Lane
  | .long v => [v]
  | _ => []

/-- The words of an instruction of the code stream; a message or an event has none. -/
def encode (i : Instr) : List Lane :=
  match i.parts with
  | some (m, d) => BitVec.ofNat 32 (moveWord m d) :: m.src.extra
  | none => if i.kind = .filler then [BitVec.ofNat 32 fillerWord] else []

/-- A step of the code stream, which has words. -/
def Instr.isCode (i : Instr) : Bool := i.kind == .filler || i.parts.isSome

/-! ## Whole bundles -/

/-- The words of a bundle, decoded: each item with the index of its move word (R276). -/
structure Bundle where
  items : List (Nat × Item)
  words : Nat
  deriving DecidableEq, Repr

/-- An illegal encoding: the INFO and BUS of its event (R287). -/
structure Illegal where
  info : Nat
  bus  : Nat
  deriving DecidableEq, Repr

/-- The move and destination code of an item. -/
def Item.parts : Item → Option (Move × Nat)
  | .op i => i.parts
  | .reserved m d => some (m, d)

/-- What the words of a bundle so far leave for the next to check: the index reached, the bus of the last move word,
what the moves and the triggers wrote, the lane-buses that fan moves and cluster moves use, and the items, newest
first. -/
structure Scan where
  index    : Nat
  last     : Option Nat
  moves    : List Nat
  triggers : List Nat
  fans     : List Nat
  lanes    : List Nat
  items    : List (Nat × Item)
  deriving DecidableEq, Repr

/-- Conditions 7 and 8 of R286 for one more word. -/
def conflicts (s : Scan) (w : Writes) (b : Bus) : Bool :=
  w.moves.any (fun k => s.moves.contains k || s.triggers.contains k) || w.triggers.any (fun k => s.moves.contains k)
    || (match b with
        | .fan n => s.lanes.contains n.val
        | .cluster _ n => s.fans.contains n.val
        | .tile _ => false)

/-- One move word added to the bundle, or none when it breaks R286 with the words before it. -/
def scanWord (inUse : Nat) (s : Scan) (w : Nat) (next : Lane) : Option Scan :=
  match decodeMove w next with
  | .error _ => none
  | .ok it =>
    match it.parts with
    | none => none
    | some (m, d) =>
      let ws := wordWrites inUse m d
      if (match s.last with | some p => decide (m.bus.id ≤ p) | none => false) || conflicts s ws m.bus then none
      else
        some
          { index := s.index + (if hasLong w then 2 else 1), last := some m.bus.id,
            moves := ws.moves ++ s.moves, triggers := ws.triggers ++ s.triggers,
            fans := (match m.bus with | .fan n => n.val :: s.fans | _ => s.fans),
            lanes := (match m.bus with | .cluster _ n => n.val :: s.lanes | _ => s.lanes),
            items := (s.index, it) :: s.items }

/-- The bundle in a list of words, by fuel that its 64 words bound (R276, R286, R287). An answer of none asks for a word
that the list does not hold; an offending word before that one is found first (DESIGN CHOICE, log 77). -/
def scanBundle (inUse : Nat) : Nat → Scan → List Lane → Option (Except Illegal Bundle)
  | 0, _, _ => some (.error { info := 63, bus := 0xFF })
  | fuel + 1, s, ws =>
    if 64 ≤ s.index then some (.error { info := 63, bus := 0xFF })
    else
      match ws with
      | [] => none
      | w :: rest =>
        if w.toNat = fillerWord && s.index == 0 then some (.ok { items := [(0, .op .filler)], words := 1 })
        else if s.index = 63 && hasLong w.toNat then some (.error { info := 63, bus := field w.toNat 30 25 })
        else if hasLong w.toNat && rest.isEmpty then none
        else
          match scanWord inUse s w.toNat (rest.headD 0) with
          | none => some (.error { info := s.index, bus := field w.toNat 30 25 })
          | some s' =>
            if w.getLsbD 31 then some (.ok { items := s'.items.reverse, words := s'.index })
            else scanBundle inUse fuel s' (if hasLong w.toNat then rest.tail else rest)

/-- The bundle that begins a list of words, under the clusters in use. -/
def decodeBundle (inUse : Nat) (ws : List Lane) : Option (Except Illegal Bundle) :=
  scanBundle inUse 65 { index := 0, last := none, moves := [], triggers := [], fans := [], lanes := [], items := [] } ws

end Sys2Proof
end

