-- ==== Sys2Proof/Machine/Exact.lean ====
section
/-! DEFINITION. Exact values and posits: decode, round, order, quires, conversions, scaling, function evaluation and the
dropout generator of Number Formats, Quires and Exact Chains (R252 to R275). -/

namespace Sys2Proof.Machine

/-- An exact real num × 2^exp. Every value the module computes before a rounding point has this form. -/
structure Dyadic where
  num : Int
  exp : Int
  deriving DecidableEq, Repr

/-- A value that may be NaR, which is none. -/
abbrev Value := Option Dyadic

def Dyadic.ofInt (n : Int) : Dyadic := { num := n, exp := 0 }

/-- The integer num of a value written at a lower exponent. -/
def Dyadic.at (x : Dyadic) (e : Int) : Int := x.num * Int.ofNat (2 ^ (x.exp - e).toNat)

def Dyadic.add (x y : Dyadic) : Dyadic :=
  let e := min x.exp y.exp
  { num := x.at e + y.at e, exp := e }

def Dyadic.neg (x : Dyadic) : Dyadic := { x with num := -x.num }

def Dyadic.mul (x y : Dyadic) : Dyadic := { num := x.num * y.num, exp := x.exp + y.exp }

/-- x × 2^k. -/
def Dyadic.scale (x : Dyadic) (k : Int) : Dyadic := { x with exp := x.exp + k }

/-- x ≤ y. -/
def Dyadic.le (x y : Dyadic) : Bool :=
  let e := min x.exp y.exp
  decide (x.at e ≤ y.at e)

/-- The largest integer not above x. -/
def Dyadic.floor (x : Dyadic) : Int :=
  if 0 ≤ x.exp then x.num * Int.ofNat (2 ^ x.exp.toNat) else x.num / Int.ofNat (2 ^ (-x.exp).toNat)

/-- n / 2^k rounded to nearest, ties to even. -/
def roundEven (n k : Nat) : Nat :=
  let u := n / 2 ^ k
  let t := n % 2 ^ k
  if 2 ^ k < 2 * t || (2 * t == 2 ^ k && k != 0 && u % 2 == 1) then u + 1 else u

/-- The integer nearest x, ties to the even integer (R268). -/
def Dyadic.nearest (x : Dyadic) : Int :=
  let n := x.num.natAbs
  let u := if 0 ≤ x.exp then n * 2 ^ x.exp.toNat else roundEven n (-x.exp).toNat
  if x.num < 0 then -Int.ofNat u else Int.ofNat u

/-- floor(log2 |x|) of a value that is not zero. -/
def Dyadic.log (x : Dyadic) : Int := Int.ofNat x.num.natAbs.log2 + x.exp

def vadd (x y : Value) : Value := do return (← x).add (← y)
def vmul (x y : Value) : Value := do return (← x).mul (← y)
def vneg (x : Value) : Value := x.map Dyadic.neg

/-- width(f) of a format code (R252). -/
def fmtWidth (f : Nat) : Nat := 8 * 2 ^ (f / 4 % 4)

/-- es(f) of a format code (R252). -/
def fmtEs (f : Nat) : Nat := f % 4

/-- Codes 0x0 to 0xB name a posit format; 0xC to 0xF are reserved (R252). -/
def fmtValid (f : Nat) : Bool := decide (f < 12)

/-- E of R252: maxpos is 2^E and minpos 2^(-E). -/
def fmtE (f : Nat) : Nat := (fmtWidth f - 2) * 2 ^ fmtEs f

/-- NaR of a width (R254). -/
def narOf (n : Nat) : Nat := 2 ^ (n - 1)

/-- How many bits from j down equal b. -/
def runLength (u : Nat) (b : Bool) : Nat → Nat
  | 0 => if bit u 0 = b then 1 else 0
  | j + 1 => if bit u (j + 1) = b then runLength u b j + 1 else 0

/-- decode of R254 for an n-bit posit with es exponent bits. -/
def decodeBits (n es p : Nat) : Value :=
  let p := p % 2 ^ n
  if p = 0 then some (Dyadic.ofInt 0)
  else if p = narOf n then none
  else
    let neg := bit p (n - 1)
    let u := if neg then 2 ^ n - p else p
    let b := bit u (n - 2)
    let m := runLength u b (n - 2)
    let k : Int := if b then Int.ofNat m - 1 else -Int.ofNat m
    let l := n - 2 - m
    let rest := u % 2 ^ l
    let e := if es ≤ l then rest / 2 ^ (l - es) else rest * 2 ^ (es - l)
    let fbits := l - es
    let fr := rest % 2 ^ fbits
    let sig : Int := Int.ofNat (2 ^ fbits + fr)
    some { num := if neg then -sig else sig, exp := k * Int.ofNat (2 ^ es) + Int.ofNat e - Int.ofNat fbits }

/-- decode(p, f) of R254. -/
def decodePosit (p f : Nat) : Value := decodeBits (fmtWidth f) (fmtEs f) p

/-- The n-bit encoding of the magnitude of a positive value, rounded once (R255). -/
def roundMagnitude (n es : Nat) (m : Nat) (e : Int) : Nat :=
  let big : Int := Int.ofNat ((n - 2) * 2 ^ es)
  let s0 := Int.ofNat m.log2 + e
  let high := decide (big < s0) || (s0 == big && m != 2 ^ m.log2)
  let low := decide (s0 < -big)
  let m' := if high || low then 1 else m
  let s : Int := if high then big else if low then -big else s0
  let lg := m'.log2
  let k := s / Int.ofNat (2 ^ es)
  let ex := (s - k * Int.ofNat (2 ^ es)).toNat
  let r := if 0 ≤ k then 2 ^ (k.toNat + 2) - 2 else 1
  let lr : Int := if 0 ≤ k then k + 2 else 1 - k
  let y := (r * 2 ^ es + ex) * 2 ^ lg + (m' - 2 ^ lg)
  let t : Int := Int.ofNat n - 1 - lr - Int.ofNat es - Int.ofNat lg
  if 0 ≤ t then y * 2 ^ t.toNat else roundEven y (-t).toNat

/-- round(x, f) of R255 for an n-bit posit with es exponent bits. -/
def roundBits (n es : Nat) (x : Value) : Nat :=
  match x with
  | none => narOf n
  | some d =>
    if d.num = 0 then 0
    else
      let u := roundMagnitude n es d.num.natAbs d.exp
      if d.num < 0 then (2 ^ n - u) % 2 ^ n else u

/-- round(x, f) of R255. -/
def roundPosit (x : Value) (f : Nat) : Nat := roundBits (fmtWidth f) (fmtEs f) x

/-- Encodings of one format in the order of R257. -/
def positLt (n a b : Nat) : Bool := decide (signed n a < signed n b)

/-- 2^n − p for a real below zero, else p: the absolute value of R256. -/
def positAbs (n p : Nat) : Nat := if bit p (n - 1) && p != narOf n then 2 ^ n - p else p

/-- The negation of R256. -/
def positNeg (n p : Nat) : Nat := (2 ^ n - p) % 2 ^ n

/-- The NaR pattern of a quire (R258). -/
def quireNar : Quire := BitVec.ofNat 1024 (2 ^ 1023)

/-- qval of R259. -/
def qval (q : Quire) : Value := if q = quireNar then none else some { num := q.toInt, exp := -496 }

/-- An integer multiple of 2^−496 in the range of R258 as a quire, NaR outside it. -/
def quireOfInt (n : Int) : Quire :=
  if n.natAbs < 2 ^ 1023 then BitVec.ofInt 1024 n else quireNar

/-- quire(x) of R259. -/
def quireOf (x : Value) : Quire :=
  match x with
  | none => quireNar
  | some d => quireOfInt (d.scale 496).floor

/-- qadd of R259; a sum outside the range is NaR. -/
def qadd (q : Quire) (v : Value) : Quire := quireOf (vadd (qval q) v)

/-- The bytes of a quire, byte b holding bits [8b + 7 : 8b] (R258). -/
def quireBytes (q : Quire) : List Byte := toBytes 128 q.toNat

def quireOfBytes (bs : List Byte) : Quire := BitVec.ofNat 1024 (ofBytes bs)

/-- S of a format pair (R261). -/
def pairS (fa fb : Nat) : Nat := fmtE fa + fmtE fb

/-- A pair is narrow when S ≤ 115 (R261). -/
def pairNarrow (fa fb : Nat) : Bool := decide (pairS fa fb ≤ 115)

/-- The value of an accumulator of w bits whose bit 0 weighs 2^−S; its sign bit alone is NaR (R261, R264). -/
def accValue (w s : Nat) (bits : Nat) : Value :=
  if bits = 2 ^ (w - 1) then none else some { num := signed w bits, exp := -Int.ofNat s }

/-- An exact value as an accumulator, NaR outside the range (R264). -/
def accOf (w s : Nat) (x : Value) : Nat :=
  match x with
  | none => 2 ^ (w - 1)
  | some d =>
    let n := (d.scale (Int.ofNat s)).floor
    if n.natAbs < 2 ^ (w - 1) then wrap w n else 2 ^ (w - 1)

/-- The element a reader of k planes obtains from its sign and magnitude plane bits (R265). -/
def planeValue (k es : Nat) (sign : Bool) (mag : Nat) : Value :=
  if mag = 0 then (if sign then none else some (Dyadic.ofInt 0))
  else (decodeBits k es mag).map (fun v => if sign then v.neg else v)

/-- Bit j of an element's plane form (R144). -/
def planeBit (n : Nat) (x : Nat) (j : Nat) : Bool :=
  if x = 0 then false
  else if x = narOf n then j == 0
  else if j = 0 then bit x (n - 1) else bit (positAbs n x) (n - 1 - j)

/-- Conversion type codes of R266: width in bits. -/
def typeWidth (t : Nat) : Nat :=
  if t < 8 then 8 * 2 ^ (t % 4) else if t = 10 then 32 else 16

def typeIsInt (t : Nat) : Bool := decide (t < 8)

/-- Bounds of an integer type (R266). -/
def typeLow (t : Nat) : Int := if t < 4 then -Int.ofNat (2 ^ (typeWidth t - 1)) else 0

def typeHigh (t : Nat) : Int :=
  if t < 4 then Int.ofNat (2 ^ (typeWidth t - 1)) - 1 else Int.ofNat (2 ^ typeWidth t) - 1

/-- Exponent and fraction bits of binary16, bfloat16 and binary32 (R266). -/
def ieeeShape (t : Nat) : Nat × Nat := if t = 8 then (5, 10) else if t = 9 then (8, 7) else (8, 23)

/-- The canonical NaN of an IEEE type (R266). -/
def ieeeNan (t : Nat) : Nat := if t = 8 then 0x7E00 else if t = 9 then 0x7FC0 else 0x7FC00000

/-- The exact value of an integer, IEEE or bfloat16 encoding; NaN and the infinities are NaR (R267). -/
def decodeType (p t : Nat) : Value :=
  if typeIsInt t then
    some (Dyadic.ofInt (if t < 4 then signed (typeWidth t) p else Int.ofNat (p % 2 ^ typeWidth t)))
  else
    let (eb, fb) := ieeeShape t
    let ex := field p (eb + fb - 1) fb
    let fr := p % 2 ^ fb
    let bias : Int := Int.ofNat (2 ^ (eb - 1)) - 1
    if ex = 2 ^ eb - 1 then none
    else
      let sig : Int := if ex = 0 then Int.ofNat fr else Int.ofNat (2 ^ fb + fr)
      let e : Int := (if ex = 0 then 1 else Int.ofNat ex) - bias - Int.ofNat fb
      some { num := if bit p (eb + fb) then -sig else sig, exp := e }

/-- The value clamped and rounded into an integer type (R268). -/
def toIntType (x : Value) (t : Nat) : Nat :=
  match x with
  | none => wrap (typeWidth t) (typeLow t)
  | some d => wrap (typeWidth t) (max (typeLow t) (min (typeHigh t) d.nearest))

/-- The value rounded into an IEEE type by roundTiesToEven, with infinities and gradual underflow (R268). -/
def toIeee (x : Value) (t : Nat) : Nat :=
  let (eb, fb) := ieeeShape t
  let bias : Int := Int.ofNat (2 ^ (eb - 1)) - 1
  match x with
  | none => ieeeNan t
  | some d =>
    if d.num = 0 then 0
    else
      let sgn := if d.num < 0 then 2 ^ (eb + fb) else 0
      let e0 := max d.log (1 - bias)
      let ulp := e0 - Int.ofNat fb
      let sh := ulp - d.exp
      let n := d.num.natAbs
      let u := if 0 ≤ sh then roundEven n sh.toNat else n * 2 ^ (-sh).toNat
      let mag := if u < 2 ^ fb then u else (e0 + bias - 1).toNat * 2 ^ fb + u
      sgn + min mag ((2 ^ eb - 1) * 2 ^ fb)

/-- A conversion out of posit to a type of R266 (R268). -/
def toType (x : Value) (t : Nat) : Nat := if typeIsInt t then toIntType x t else toIeee x t

/-- A target of maxscale and quantise: an integer type or a posit format (R269). -/
inductive Target where
  | int (t : Nat)
  | posit (f : Nat)
  deriving DecidableEq, Repr

/-- M_T of R269. -/
def targetMax (t : Target) : Dyadic :=
  match t with
  | .int t => Dyadic.ofInt (typeHigh t)
  | .posit f => { num := 1, exp := Int.ofNat (fmtE f) }

/-- The largest |v| of the real values of a list, zero when there is none. -/
def largest : List Value → Dyadic
  | [] => Dyadic.ofInt 0
  | none :: vs => largest vs
  | some d :: vs =>
    let a := if d.num < 0 then d.neg else d
    let m := largest vs
    if m.le a then a else m

/-- The largest σ with m × 2^σ ≤ M, for positive m. -/
def scaleFor (m top : Dyadic) : Int :=
  let g := top.log - m.log
  if (m.scale g).le top then g else g - 1

/-- maxscale of R269. -/
def maxscale (vs : List Value) (t : Target) : Int :=
  let m := largest vs
  let s := if m.num = 0 then 0 else scaleFor m (targetMax t)
  max (-32768) (min 32767 s)

/-- quantise(x, σ, T) of R270 on a decoded value. -/
def quantise (x : Value) (s : Int) (t : Target) : Nat :=
  match t with
  | .int t => toIntType (x.map (fun d => d.scale s)) t
  | .posit f => roundPosit (x.map (fun d => d.scale s)) f

/-- dequantise(z, σ, f) of R270 on a decoded value. -/
def dequantise (z : Value) (s : Int) (f : Nat) : Nat := roundPosit (z.map (fun d => d.scale (-s))) f

/-- The header of a function table (R271). -/
structure TableHeader where
  x0    : Nat
  nseg  : Nat
  w     : Int
  deg   : Nat
  cfmt  : Nat
  ofmt  : Nat
  ifmt  : Nat
  cbase : Nat
  clean : Bool
  deriving DecidableEq, Repr

def tableHeader (h : Nat) : TableHeader :=
  { x0 := field h 127 96, nseg := field h 79 64, w := signed 8 (field h 63 56), deg := field h 51 48,
    cfmt := field h 47 44, ofmt := field h 43 40, ifmt := field h 39 36, cbase := field h 13 0,
    clean := field h 95 80 == 0 && field h 55 52 == 0 && field h 35 14 == 0 }

/-- A table is valid when none of R271's conditions holds; an NSEG above 4,095, which the field's range excludes, is counted among them
(log 65). -/
def tableValid (t : TableHeader) : Bool :=
  t.clean && fmtValid t.ifmt && fmtValid t.ofmt && decide (8 ≤ t.cfmt && t.cfmt < 12) && decide (t.deg ≤ 4)
    && decide (1 ≤ t.nseg && t.nseg ≤ 4095) && decide (4 * (t.cbase + t.nseg * (t.deg + 1)) ≤ 16384)

/-- Σ c_j t^j, lowest power first, by Horner's scheme; exact. -/
def polynomial (t : Dyadic) : List Value → Value
  | [] => some (Dyadic.ofInt 0)
  | c :: cs => vadd c (vmul (some t) (polynomial t cs))

/-- feval of R272 under a valid table, with the coefficient memory. -/
def feval (x : Nat) (t : TableHeader) (coeff : Memory) : Nat :=
  match decodePosit x t.ifmt, decodePosit t.x0 t.cfmt with
  | some v, some x0 =>
    let d := v.add x0.neg
    let i := (min (max (d.scale (-t.w)).floor 0) (Int.ofNat t.nseg - 1)).toNat
    let u := d.add { num := -Int.ofNat i, exp := t.w }
    let cs := (upFrom 0 (t.deg + 1)).map
      (fun j => decodePosit (ofBytes (readBytes coeff (4 * (t.cbase + i * (t.deg + 1) + j)) 4)) t.cfmt)
    roundPosit (polynomial u cs) t.ofmt
  | _, _ => narOf (fmtWidth t.ofmt)

/-- One round of the generator of R274. -/
def mixRound (m h x : Nat) : Nat :=
  let y := x * m % 2 ^ 64
  y ^^^ (y / 2 ^ h)

/-- keepbit of R274. -/
def keepbit (seed row col stream thr : Nat) : Bool :=
  let x0 := seed ^^^ (stream % 256 * 2 ^ 56) ^^^ (row % 2 ^ 32 * 2 ^ 32) ^^^ (col % 2 ^ 32)
  let x := mixRound 0x8F5C3A27E1B46D0B 33 (mixRound 0xA3B195E54F2CD8E7 27 (mixRound 0xD6E8FEB86659FD93 31 x0))
  decide (thr ≤ field x 63 48)

/-- One output of a drain (R273): accumulator value a, residual b, scale c, and whether the element is kept. -/
def drainOut (a b c : Value) (keep : Bool) (dfmt : Nat) : Nat :=
  match a, b, c with
  | some a, some b, some c => roundPosit (some (b.add (if keep then c.mul a else Dyadic.ofInt 0))) dfmt
  | _, _, _ => narOf (fmtWidth dfmt)

/-- One byte of a CRC-64 of R97, most significant bit first. -/
def crc64Byte (crc : Nat) (b : Byte) : Nat :=
  (upFrom 0 8).foldl (fun c i =>
    let top := bit c 63 != b.getMsbD i
    let s := c * 2 % 2 ^ 64
    if top then s ^^^ 0x42F0E1EBA9EA3693 else s) crc

/-- The CRC-64 of R97. -/
def crc64 (bs : List Byte) : Nat := bs.foldl crc64Byte 0

/-- One byte of the reflected CRC-32 of R23. -/
def crc32Byte (crc : Nat) (b : Byte) : Nat :=
  (upFrom 0 8).foldl (fun c _ => if bit c 0 then (c / 2) ^^^ 0xEDB88320 else c / 2) (crc ^^^ b.toNat)

/-- The CRC-32 of R23. -/
def crc32 (bs : List Byte) : Nat := bs.foldl crc32Byte 0xFFFFFFFF ^^^ 0xFFFFFFFF

end Sys2Proof.Machine
end

