-- ==== Sys2Proof/Machine/State.lean ====
section
/-! DEFINITION. The state of one W1610 module as plain data: everything the manual gives the machine, the model's own
scheduling fields, the reasons a step stops, and the state right after reset. Register values a reset leaves are those
of log entries 1 and 7 where the manual gives none. -/

namespace Sys2Proof.Machine

/-- Which code a tile runs (R58, R229): the task, its U handler, or the partition monitor. -/
inductive Level where
  | task
  | user
  | monitor
  deriving DecidableEq, Repr

/-- The states of a token (R152). -/
inductive Token where
  | empty
  | pending
  | present
  | faulted
  deriving DecidableEq, Repr

/-- The event codes of R226, in order of their numbers 0x01 to 0x14. -/
inductive EventCode where
  | illegalEncoding
  | illegalOperation
  | tileStoreBounds
  | misalignment
  | invalidShapeRecord
  | invalidCopyIssue
  | copyFault
  | poisonConsumed
  | waitTimeout
  | spillMapFull
  | spawnTargetBusy
  | matrixOperandOverlap
  | codeFetchFixed
  | strictTimingHold
  | trap
  | userCompletion
  | preemption
  | privilege
  | quireOverflow
  | tokenFault
  deriving DecidableEq, Repr

/-- An event as raised: its code, the CAUSE, INFO, BUS and TRIG of the event word (R230), the number of the copy
command that a COPY_FAULT suspends, zero for none (R128), and whether it is asynchronous (R227, R239). -/
structure Event where
  code  : EventCode
  cause : BitVec 8 := 0
  info  : Word := 0
  bus   : BitVec 8 := 0xFF
  trig  : BitVec 32 := 0
  cmd   : Nat := 0
  late  : Bool := false
  deriving DecidableEq, Repr

/-- What a redirect does besides setting pc (R191, R211). -/
inductive Turn where
  | jump
  | call (f : Nat) (link : Word)
  | ret
  deriving DecidableEq, Repr

/-- What a flight record holds (R232 to R234). -/
inductive Payload where
  /-- A result on its way to a tile latch, named by its source code. -/
  | result (port : Nat) (v : Word)
  /-- A received link message on its way to lk.res and lk.src. -/
  | message (data src : Word)
  /-- A result on its way to a cluster latch, with the lanes that were on. -/
  | vector (port : Nat) (lanes : BitVec 16) (v : Vec)
  | load (offset bytes : Nat) (signed : Bool)
  | store (offset bytes : Nat) (data : Word)
  | gather (offsets : List Lane) (lanes : BitVec 16)
  | scatter (offsets : List Lane) (lanes : BitVec 16) (data : Vec)
  | scale (v : BitVec 16)
  | divider
  | redirect (target : Word) (turn : Turn)
  | ending
  /-- A read that met poison: its arrival raises POISON_CONSUMED (R134). -/
  | poisoned (info : Word)
  deriving DecidableEq, Repr

/-- One flight record of R233. `clus` is 15 for the tile domain; `perf` is none when performed or not applicable;
`bundle` is the address of the triggering bundle. -/
structure Flight where
  unit   : Nat
  clus   : Nat
  op     : Nat
  remain : Nat
  perf   : Option Nat
  bundle : Word
  bus    : BitVec 8
  body   : Payload
  deriving DecidableEq, Repr

/-- The vq operations of R358, without the quire's number. -/
inductive QuireOp where
  | qclr
  | qmac
  | qadd
  | qsub
  | qrnd
  | qsav
  | qld
  | qxadd
  | qred
  | qovf
  deriving DecidableEq, Repr

/-- A vq operation that has not taken effect, in trigger order (R357): operands as read at the trigger; `image` is
what a qld read at its perform point, none before it, and `bad` the poisoned line it met ahead of that point (R115, R360).
`issue` numbers the bundle it was triggered in; `done` says that its effect point has passed. -/
structure QuireStep where
  issue  : Nat
  clus   : Nat
  q      : Nat
  op     : QuireOp
  lanes  : BitVec 16
  a      : Vec
  b      : Vec
  fmt    : Lane
  remain : Nat
  perf   : Option Nat
  image  : Option (List Quire)
  done   : Bool
  bundle : Word
  bus    : BitVec 8
  bad    : Option Word := none
  deriving DecidableEq, Repr

/-- The operand ports and result latches a level owns on the tile-domain units, and the work in flight on them
(R199, R237). Ports and latches are keyed by their codes in R302 and R303. -/
structure UnitSet where
  ports   : SMap Word := []
  results : SMap Word := []
  flights : List Flight := []
  deriving DecidableEq, Repr

/-- A handler level's own registers (R229, R236, R337). -/
structure Handler where
  active : Bool := false
  s      : SMap Word := []
  p14    : Bool := false
  p15    : Bool := false
  epc    : Word := 0
  word   : Word := 0
  info   : Word := 0
  units  : UnitSet := {}
  deriving DecidableEq, Repr

/-- One cluster (R208, R269, R271, R304, R305). `q` is keyed by 16 × quire + lane. -/
structure Cluster where
  v       : SMap Vec := []
  m       : SMap (BitVec 16) := []
  q       : SMap Quire := []
  ports   : SMap Vec := []
  results : SMap Vec := []
  scale   : BitVec 16 := 0
  coeff   : Memory := []
  deriving DecidableEq, Repr

/-- A spill-map entry (R214): V is the entry's presence in the map. -/
structure SpillEntry where
  f    : Nat
  loc  : Bool
  clus : Nat
  slot : Nat
  off  : Nat
  deriving DecidableEq, Repr

/-- A cached leaf entry (R125): its partition, level and virtual page, the entry, and where it lies in memory. -/
structure CacheEntry where
  part  : Nat
  level : Nat
  page  : Nat
  entry : Word
  home  : Nat
  deriving DecidableEq, Repr

/-- How a copy command stands (R128, R138, R154); the event of a reported one has been taken. -/
inductive CopyPhase where
  | waiting
  | running
  | suspended
  | reported
  | aborted
  | cancelled
  deriving DecidableEq, Repr

/-- A range of a source granule that another module has been asked for: the tag of the request, the offset and length of the
range in the source space, and the level of the leaf it was asked under. -/
structure Ask where
  tag   : Nat
  off   : Nat
  len   : Nat
  level : Nat := 3
  deriving DecidableEq, Repr

/-- What the read of a range of a source granule gives: its bytes, the glaze bits of its line, the poisoned line met, the request by
which another module has been asked for it with the level of its leaf, and the notifies that its data wait for (R135). -/
structure GrainRead where
  bytes  : List Byte
  glaze  : Nat := 0
  poison : Option Word := none
  tag    : Option (Nat × Nat) := none
  owed   : List Nat := []
  deriving DecidableEq, Repr

/-- The source of a unit as a chunk has read it: its bytes, its glaze bits and the poisoned line met. -/
structure UnitData where
  unit   : Nat
  bytes  : List Byte
  glaze  : Nat
  poison : Option Word
  deriving DecidableEq, Repr

/-- A flit of a chunk that another module has to answer: its tag, the address of its first byte, and the write of the chunk's list that
it carries, none when it marks a line or counts a part; that module, and the level of the leaf it was sent under. -/
structure Sending where
  tag   : Nat
  addr  : Word
  index : Option Nat := none
  home  : Nat := 0
  level : Nat := 3
  deriving DecidableEq, Repr

/-- The line that a write went to: the module that holds it, none for this one, its number there and the grade it was written under. -/
structure LineAt where
  home  : Option Nat
  line  : Nat
  grade : Nat
  deriving DecidableEq, Repr

/-- A chunk under way (R110, R170, R177): what it has read, the source granules that it has read by bit, the ranges that other
modules have not answered, the granules whose data wait for poison notifies, with their tags (R135), the writes of its list that have been
made and those that have been folded, by bit, the flits that other modules have not answered, the lines that its writes of whole
granules went to, by their places in the list (R133), whether its parts have been counted at another module (R159), and the granules of
the source that it has asked for before its own writes replace them (R151). -/
structure ChunkMove where
  chunk  : Nat
  data   : List UnitData := []
  got    : Nat := 0
  asked  : List Ask := []
  owed   : List (Nat × Nat) := []
  wrote  : Nat := 0
  folded : Nat := 0
  sent   : List Sending := []
  lines  : SMap LineAt := []
  counted : Bool := false
  saving : List Ask := []
  deriving DecidableEq, Repr

/-- A copy command in flight (R139): the latched record and operands, the producers it is bound to (R153), whether one
of its tokens is or became FAULTED, whether code below S level issued it, how many chunks were started, the tile cycles
since its start (R165), its chunk map (R155), the started chunks that will not land (R134), whether another transfer
may have shared its way (R166), the chunks under way, the chunk that a suspended command restarts at (R128), and the source
granules that its own writes have replaced, as they stood, by their number in the source space (R151). -/
structure CopyCmd where
  id      : Nat
  ch      : Nat
  shape   : BitVec 512
  src     : Word
  dst     : Word
  ctl     : Word
  waits   : List Nat
  doomed  : Bool
  user    : Bool
  phase   : CopyPhase
  started : Nat
  age     : Nat
  map     : BitVec 256
  lost    : BitVec 256
  shared  : Bool := false
  moves   : List ChunkMove := []
  redo    : Nat := 0
  kept    : SMap GrainRead := []
  deriving DecidableEq, Repr

/-- What is kept of the newest command of a channel (R155, R156, R387): its number, its chunk map, the bits of the map set
last with the count of tile cycles that they were set at, and whether it has ended. -/
structure Newest where
  id     : Nat
  map    : BitVec 256
  recent : BitVec 256
  stamp  : Word := 0
  ended  : Bool
  deriving DecidableEq, Repr

/-- A matrix command: the trigger code, the trigger value and the ten ports as they stood (R372). -/
structure MatrixCmd where
  id    : Nat
  op    : Nat
  z     : Word
  ctl   : Word
  geo   : Word
  fmt   : Word
  bnk   : Word
  dst   : Word
  rsd   : Word
  scl   : Word
  seed  : Word
  drp   : Word
  org   : Word
  waits  : List Nat
  doomed : Bool
  deriving DecidableEq, Repr

/-- The memories that a matrix command reads, as they stood at its start (R178, R179), and the granules that other commands have written
since, by their extended address divided by 8 (R177). -/
structure Opened where
  store    : Memory
  buffers  : Memory
  badWords : List Nat
  touched  : List Nat := []
  deriving DecidableEq, Repr

/-- The matrix engine (R372, R373, R243): the command in the channel with the tile cycles left to its retirement
(none before its start), the shadow set, the completed commands of both engines whose banks leave the table next, whether a pre-emption
request stands, and what the running command found at its start. -/
structure Matrix where
  channel : Option (MatrixCmd × Option Nat) := none
  shadow  : List MatrixCmd := []
  leaving : List Nat := []
  preempt : Bool := false
  opened  : Option Opened := none
  deriving DecidableEq, Repr

/-- Where a kiln operation stands (R388, R393): on its way, at another module under the tag of its request, or performed. -/
inductive KilnStage where
  | sent
  | away (tag : Nat)
  | performed (value : Word) (poisoned : Bool)
  deriving DecidableEq, Repr

/-- A kiln operation a tile issued (R388); `k` is its number in R309. `due` counts the cycles to its next step where its
timing is exact (R395). -/
structure KilnOp where
  k      : Nat
  addr   : Word
  b      : Word
  c      : Word
  stage  : KilnStage
  bundle : Word
  bus    : BitVec 8
  due    : Option Nat := none
  deriving DecidableEq, Repr

/-- A post of a launch record that waits for the first kiln operations, remote writes and sends of the tile's lists
(R186). -/
structure Posting where
  addr  : Nat
  kiln  : Nat
  rputs : Nat
  sends : Nat
  deriving DecidableEq, Repr

/-- An sy.rput that has not performed (R344), with the tag of its request once that has left for another module. `ready` is the count of
tile cycles before which it is not delivered, where the rules give one (R166). -/
structure Rput where
  addr  : Word
  n     : Nat
  data  : Word
  ctl   : Word
  tag   : Option Nat := none
  ready : Option Word := none
  deriving DecidableEq, Repr

/-- A message in a send buffer (R162). `due` counts the cycles to its acceptance where that is exact (R398); `tag` is that of
its request once it has left for another module. -/
structure Outgoing where
  dest    : Word
  data    : Word
  src     : Word
  refused : Bool
  due     : Option Nat := none
  tag     : Option Nat := none
  deriving DecidableEq, Repr

/-- A message in a receive queue (R161). -/
structure Received where
  data     : Word
  src      : Word
  poisoned : Bool
  deriving DecidableEq, Repr

/-- A line of the code store (R190): its address divided by 256, its partition, whether it is pinned, its 64 words, and the level of the
leaf that they were read under (R409). -/
structure CodeLine where
  line   : Nat
  part   : Nat
  pinned : Bool
  data   : List Lane
  level  : Nat := 3
  deriving DecidableEq, Repr

/-- The two kinds of sequencer work a tile may hold (R78, R85, R52). -/
inductive Work where
  | dispatched
  | spawned (by_ : Nat)
  | monitor
  deriving DecidableEq, Repr

/-- The task bound to a tile: what the dispatcher gave it (R78, R299). `start` is s0 to s7 as dispatched, `began` the time
its waiting counts from (R82), `order` its place among the dispatches of its partition (R84). -/
structure Task where
  part     : Nat
  launch   : Nat
  job      : Nat
  index    : Nat
  total    : Nat
  clock    : Nat
  determ   : Bool
  serial   : Bool
  work     : Work
  start    : List Word
  object   : Nat
  codeBase : Nat
  codeLen  : Nat
  handler  : Option Nat
  clusters : BitVec 8
  foot     : List (Nat × Nat)
  footEng  : BitVec 6
  spill    : List (Nat × Nat)
  stub     : Option Nat
  began    : Word
  order    : Nat
  deriving DecidableEq, Repr

/-- What a tile is doing (R80, R81, R86, R239); one that is leaving is frozen for its switch-out (R244). A tile claimed for a spawned task
(R334), and one whose stub task waits for its cell (R411), begin as soon as the lines of other modules that this needs have come. -/
inductive Phase where
  | idle
  | spawning (entry : Word) (window : List Word)
  | rebinding
  | running
  | ended
  | terminated
  | leaving
  | halted
  deriving DecidableEq, Repr

/-- A queued user completion (R240): CAUSE and INFO. -/
structure Completion where
  cause : BitVec 8
  info  : Word
  deriving DecidableEq, Repr

/-- One tile: a sequencer, its registers, its clusters, its memories and its engines. -/
structure Tile where
  phase     : Phase := .idle
  task      : Option Task := none
  pc        : Word := 0
  level     : Level := .task
  sGlobal   : SMap Word := []
  sWindow   : SMap Word := []
  wb        : Nat := 0
  frames    : List Nat := []
  spillMap  : List SpillEntry := []
  p         : BitVec 16 := 0
  units     : UnitSet := {}
  user      : Handler := {}
  monitor   : Handler := {}
  quires    : List QuireStep := []
  clusters  : SMap Cluster := []
  store     : Memory := []
  badWords  : List Nat := []
  buffers   : Memory := []
  acc       : SMap Slice := []
  reserved  : List (Nat × BitVec 32) := []
  shapes    : SMap (BitVec 512) := []
  defined   : List Nat := []
  copies    : List CopyCmd := []
  newest    : SMap Newest := []
  copyCache : List CacheEntry := []
  tokens    : SMap Token := []
  producers : SMap Nat := []
  semas     : SMap Lane := []
  matrix    : Matrix := {}
  kiln      : List KilnOp := []
  rputs     : List Rput := []
  sends     : List Outgoing := []
  postings  : List Posting := []
  queues    : SMap (List Received) := []
  code      : SMap (List CodeLine) := []
  fills     : List (Nat × Bool) := []
  fillFault : Option (Nat × Event) := none
  icyc      : Word := 0
  hcyc      : Word := 0
  fcyc      : Word := 0
  detRead   : Bool := false
  karm      : Word := 0
  semarm    : Word := 0
  done      : List Completion := []
  doneWait  : List Completion := []
  alarms    : List Event := []
  held      : Option Word := none
  holds     : BitVec 8 := 0
  stall     : Option Nat := none
  digest    : Word := 0
  frsel     : Word := 0
  ctxsel    : Word := 0
  jobsel    : Word := 0
  ranksel   : Word := 0
  stretch   : Nat := 0
  lastEvent : Word := 0
  issues    : Nat := 0
  nextId    : Nat := 1
  deriving DecidableEq, Repr

/-- A task switched out of its tile (R244): its context slot, what the swap record holds as the tile it left, and the
time it rejoined the dispatch order. -/
structure Swapped where
  slot     : Nat
  pages    : Nat
  launch   : Nat
  part     : Nat
  index    : Nat
  rejoined : Word
  tile     : Tile
  deriving DecidableEq, Repr

/-- One die (R10, R28, R29, R117, R125, R218, R248). A bad word is a poisoned 64-bit word of its kiln memory. -/
structure Die where
  kiln        : Memory := []
  badWords    : List Nat := []
  pinned      : Bool := false
  ceiling     : Nat := 3300
  noDispatch  : Bool := false
  estr        : Word := 0
  cache       : List CacheEntry := []
  shadow      : List Swapped := []
  swapBase    : Word := 0
  swapPages   : Word := 0
  deriving DecidableEq, Repr

/-- What the home of an access answers (R124, R128, R134, R160, R162): the cause of a fault, zero for none; whether a message
was refused; the bytes read, the glaze bits of their line, and whether they are poisoned; for a write within a memory line, the number
of the line there and its grade (R133). -/
structure Answer where
  cause   : Nat := 0
  refused : Bool := false
  bytes   : List Byte := []
  glaze   : Nat := 0
  poison  : Bool := false
  line    : Option (Nat × Nat) := none
  deriving DecidableEq, Repr

/-- What a flit of classes 0 to 3 carries; the bits of PAYLOAD are the implementation's (log 10). A write holds its runs of bytes by
their displacement, and says whether code below S level makes it, the glaze bits of a line, whether it is a cell add (R147), whether its
data are poisoned and which semaphore counts how many bytes; one without runs only counts. A line tells the home that its eight granules
have all been written, under a grade, and whether with poison (R133). A read says whether it takes a line with its glaze bits, and whether
it is made under the EX right. A latch is the dispatcher's atomic operation on a binding cell, which adds to USE or takes from it (R408). -/
inductive Cargo where
  | notify (va : Word)
  | write (addr : Word) (runs : List (Nat × List Byte)) (user : Bool) (glaze : Option Nat) (add poison : Bool) (sem : Option (Nat × Nat))
  | line (number grade : Nat) (poison : Bool)
  | read (addr : Word) (bytes : Nat) (user glaze code : Bool)
  | latch (cell : Word) (up : Bool)
  | kilnOp (op : KilnOp)
  | link (msg : Outgoing)
  | answer (a : Answer)
  deriving DecidableEq, Repr

/-- A sequenced flit of this module (R22, R25): its class, destination, transaction number and cargo, with the partition, the
job and the launch record it works for; `resent` counts how often its port has sent it again since it last trained (R27). -/
structure Flit where
  seq    : BitVec 16 := 0
  cls    : Nat
  dst    : Nat
  part   : Nat
  job    : Nat
  launch : Nat
  tag    : Nat := 0
  resent : Nat := 0
  cargo  : Cargo
  deriving DecidableEq, Repr

/-- An answer whose data are poisoned and wait for the notifies of these transaction numbers to be acknowledged (R135). -/
structure Held where
  owed : List Nat
  flit : Flit
  deriving DecidableEq, Repr

/-- How an access stands that a step of the dispatcher, an admission or a code fill needs of another module (R124), or that waits for
the notifies of a poisoned line (R135): not yet made, made under these transaction numbers, or answered. -/
inductive AskStage where
  | wanted
  | sent (tags : List Nat)
  | answered (a : Answer)
  deriving DecidableEq, Repr

/-- The step that makes such an access (log 10): a launch becoming READY, a dispatch or resumption of a task by its index, a checkpoint
or replay of a job, the start or retirement of a tile's task, a code fill, a post of a tile, the copies of an import, a request of the
control port by its header; or no step any more. -/
inductive Asker where
  | nobody
  | ready (part addr : Nat)
  | dispatch (part addr index : Nat)
  | job (part job : Nat)
  | task (tile : Nat)
  | fill (tile line : Nat)
  | post (tile : Nat)
  | imports (part : Nat)
  | request (header : BitVec 128)
  deriving DecidableEq, Repr

/-- Such an access: its partition and job, the module it goes to, what it carries, how it stands, the step that makes it, and the level of
the leaf it is made under. -/
structure Awaited where
  part  : Nat
  job   : Nat
  dst   : Nat
  cargo : Cargo
  stage : AskStage
  asker : Asker := .nobody
  level : Nat := 3
  deriving DecidableEq, Repr

/-- One horizon-link port (R21 to R27). `sent` holds every flit it has put on its lanes, as bits; of `replay` the first 1,024
are the replay buffer, and those behind have still to leave. `since` is the time of the last advance of ACKSEQ, or the time when
the replay buffer was last empty, or when the port was last retrained; `lost` the transaction numbers of the flits that its failure
has discarded. -/
structure Port where
  sendSeq  : BitVec 16 := 0
  expect   : BitVec 16 := 0
  replay   : List Flit := []
  sent     : List (BitVec 2048) := []
  nakSent  : Bool := false
  since    : Word := 0
  retrains : Nat := 0
  failed   : Bool := false
  discards : Nat := 0
  lost     : List Nat := []
  deriving DecidableEq, Repr

/-- One route of a partition configuration (R26, R27, R57), with the flits that wait while it is held and the jobs
that have still to come past the failure. -/
structure Route where
  dst     : Nat
  cls     : Nat
  port    : Nat
  standby : Option Nat
  held    : Bool := false
  waiting : List Flit := []
  owed    : List Nat := []
  deriving DecidableEq, Repr

/-- A sharer set (R57, R135). -/
structure Sharer where
  base  : Word
  pages : Nat
  mask  : BitVec 256
  deriving DecidableEq, Repr

/-- A partition configuration (R57). A rank table maps a job to the domain numbers of its ranks. -/
structure PartConfig where
  self   : Option Nat := none
  ranks  : List (Nat × List Nat) := []
  routes : List Route := []
  shares : List Sharer := []
  deriving DecidableEq, Repr

/-- The STATE values of R73. -/
inductive LaunchState where
  | written
  | posted
  | ready
  | dispatching
  | running
  | retired
  | rejected
  | failed
  deriving DecidableEq, Repr

/-- What admission keeps of a code object (R296, R297, R409): where it and its code section lie, and the level of the leaf that its first
line was read under. -/
structure CodeObject where
  addr     : Nat
  level    : Nat := 3
  size     : Nat
  codeBase : Nat
  codeLen  : Nat
  event    : Option Nat
  clusters : BitVec 8
  sections : List (BitVec 128)
  deriving DecidableEq, Repr

/-- A launch the dispatcher knows (R74 to R85): the record latched at READY and the dispatch progress. -/
structure Launch where
  addr       : Nat
  state      : LaunchState
  job        : Nat
  preds      : List Nat
  record     : BitVec 1024 := 0
  readyAt    : Word := 0
  serial     : Bool := false
  detRead    : Bool := false
  dispatched : Nat := 0
  finished   : Nat := 0
  lacc       : Word := 0
  status     : Word := 0
  object     : Option CodeObject := none
  cell       : Option Nat := none
  bound      : Bool := false
  deriving DecidableEq, Repr

/-- The states of a job (R95). -/
inductive JobState where
  | unprotected
  | open_
  | quiescing
  | draining
  | replaying
  | serial
  | failed
  deriving DecidableEq, Repr

/-- The causes of a rollback as INFO of 0x8016 numbers them (R102). -/
inductive RollbackCause where
  | taskFault
  | digest
  | monitor
  | forceStop
  | moduleFault
  deriving DecidableEq, Repr

/-- What the dispatcher has to do to a job: roll it back (R94), or fail it because its log overflowed (R92, with the log
address that failed or zero), a dispatcher write faulted (R76), or the monitor asked (R339); a task that a handler's return has
taken away, or a copy of an ENDed task that is suspended, asks nothing but to look again at what waits for it (R239, R53, R68). -/
inductive JobCause where
  | rollback (cause : RollbackCause)
  | overflow (addr : Nat)
  | writeFault (addr : Nat)
  | failed
  | gone
  deriving DecidableEq, Repr

/-- A cause with the partition and job it concerns and the address its error entry names. -/
structure Cause where
  part  : Nat
  job   : Nat
  addr  : Nat
  what  : JobCause
  deriving DecidableEq, Repr

/-- The log fields of a checkpoint (R72, R89). -/
structure LogFields where
  base    : Nat
  pages   : Nat
  reserve : Nat
  record  : Option Nat
  deriving DecidableEq, Repr

/-- A job (R87 to R99). `asked` holds the checkpoint records that became READY and wait for the job to quiesce, none
for an implicit checkpoint; `filters` the lines each controller or bank has logged in the interval; `draining` the transaction numbers of
its writes to other modules that a rollback waits for. -/
structure Job where
  num       : Nat
  state     : JobState := .unprotected
  log       : Option LogFields := none
  records   : Nat := 0
  filters   : SMap (List Nat) := []
  asked     : List (Option Nat) := []
  stopAsked : Bool := false
  stopped   : Bool := false
  rollbacks : Nat := 0
  mismatch  : Option (Nat × Word) := none
  serialRun : Bool := false
  draining  : List Nat := []
  deriving DecidableEq, Repr

/-- The states of a partition (R51). -/
inductive PartState where
  | free
  | created
  | running
  | stopped
  deriving DecidableEq, Repr

/-- The image a MONITOR_LOAD has begun (R46): its head, with OFFSET and PLEN zero, and the bytes accepted so far. -/
structure PartialImage where
  head  : List Byte
  bytes : List Byte
  deriving DecidableEq, Repr

/-- A STOP that has not been answered (R53). -/
structure Stopping where
  request : BitVec 128
  since   : Word
  limit   : Nat
  deriving DecidableEq, Repr

/-- One partition (R49 to R57, R62, R64, R337). `forced` is the header of a FORCE_STOP that has not been answered, `reserved` the linked
launch that has reserved tiles, with those tiles (R81). -/
structure Partition where
  state     : PartState := .free
  dies      : BitVec 16 := 0
  sealed_   : Bool := false
  xwin      : Word := 0
  keyBase   : Nat := 0
  keyCount  : Nat := 0
  mm        : BitVec 512 := 0
  mc        : BitVec 512 := 0
  mcCount   : Nat := 0
  root      : Word := 0
  mbase     : Word := 0
  svec      : Word := 0
  total     : Nat := 0
  entry     : Nat := 0
  begun     : Bool := false
  image     : Option PartialImage := none
  config    : PartConfig := {}
  staged    : Option PartConfig := none
  dirtyMap  : List Nat := []
  stopping  : Option Stopping := none
  forced    : Option (BitVec 128) := none
  launches  : List Launch := []
  jobs      : List Job := []
  objects   : List CodeObject := []
  tlbi      : List Word := []
  imported  : List (List Byte) := []
  dispatches : Nat := 0
  reserved  : Option (Nat × List Nat) := none
  deriving DecidableEq, Repr

/-- One 16-byte flash record (R34). -/
structure FlashRecord where
  start : BitVec 32
  code  : BitVec 32
  form  : BitVec 8
  unit  : BitVec 16
  step  : BitVec 8
  deriving DecidableEq, Repr

/-- The units bring-up has left out (R32, R35, R36), and the edges that went down since (R17). -/
structure Health where
  recovery     : Bool := false
  noPort       : Bool := false
  noKeys       : Bool := false
  deadDies     : List Nat := []
  deadRouters  : List Nat := []
  downEdges    : List Nat := []
  lostEdges    : List Nat := []
  deadStacks   : List Nat := []
  deadLpddr    : List Nat := []
  deadPorts    : List Nat := []
  badTiles     : List Nat := []
  badChannels  : List (Nat × Nat) := []
  deriving DecidableEq, Repr

/-- A response the control port has sent or kept (R40, R41). -/
structure Response where
  header  : BitVec 128
  payload : List Byte
  deriving DecidableEq, Repr

/-- The control port (R39 to R42, R46): the request that has arrived, the requests kept as SEQ and their response, none
until it is sent, the duplicates that wait for one, the requests that have been accepted and wait, and when each was accepted, by its SEQ. -/
structure Control where
  arrived  : Message := { header := 0, payload := [] }
  next     : Option Lane := none
  kept     : List (Lane × Option Response) := []
  again    : List Lane := []
  sent     : List Response := []
  waiting  : List Message := []
  times    : List (Lane × Word) := []
  firmware : Option PartialImage := none
  deriving DecidableEq, Repr

/-- The snapshot unit (R70, R249): the time T, the event mask that is armed, the tile latched early with its state, and
the latched snapshot: the tiles as they stood and the number of the free values its other blocks hold. -/
structure Snapshot where
  due     : Option Word := none
  mask    : Lane := 0
  early   : Option (Nat × Tile) := none
  latched : Option (SMap Tile × Nat) := none
  deriving DecidableEq, Repr

/-- A happening the outside world brings: the counts of the time base that pass first, the request that arrives with it
when it is a control-port message, and the step (log 3). -/
structure Happening where
  wait    : Nat
  message : Option Message
  what    : Instr
  deriving DecidableEq, Repr

/-- The whole module. `turn` is the partition whose dispatch decisions are served, and `served` how many it has had in its turn
(R82); `awaited` the accesses to other modules that steps wait for or have left behind unanswered, `asker` the step that is being tried,
and `want` the access that it lacks, which no step leaves changed (log 10). -/
structure State where
  timeBase   : Word := 0
  stepping   : Word := 0x0001_0003
  serial     : Word := 0
  flash      : List FlashRecord := []
  startCount : BitVec 32 := 1
  health     : Health := {}
  bootSlot   : Nat := 0
  primary    : Nat := 0
  slots      : SMap (List Byte) := []
  powerCap   : Nat := 4400
  domain     : Option Nat := none
  keys       : SMap (BitVec 512) := []
  mf         : BitVec 512 := 0
  errors     : List (BitVec 256) := []
  errorCount : Nat := 0
  overflow   : Nat := 0
  snapshot   : Snapshot := {}
  control    : Control := {}
  memory     : Memory := []
  glaze      : SMap (BitVec 56) := []
  badLines   : List Nat := []
  grades     : SMap Nat := []
  corrected  : SMap Nat := []
  dies       : SMap Die := []
  ports      : SMap Port := []
  tags       : Nat := 0
  answers    : List Held := []
  awaited    : List Awaited := []
  want       : Option Awaited := none
  asker      : Asker := .nobody
  turn       : Nat := 0
  served     : Nat := 0
  parts      : SMap Partition := []
  tiles      : SMap Tile := []
  causes     : List Cause := []
  agenda     : List Happening := []
  cur        : Nat := 0
  fresh      : Nat := 0
  deriving DecidableEq, Repr

/-- Why the machine stops with a fault. -/
inductive Fault where
  /-- Raised by an event that names a die, tile, port, edge or partition number the module does not have (R10, R21,
  R40). Safe: no run of the hardware meets such an event. -/
  | absent (what : String)
  deriving DecidableEq, Repr

/-- Why a step has no meaning. -/
inductive Refusal where
  /-- Raised by an arm of exec that has no meaning yet. Safe. -/
  | notModelled (mnemonic : String)
  /-- Raised by an event or engine step asked of a state in which the manual does not let it happen (log 4). Safe: the
  hardware takes no such step from such a state. -/
  | notDue (mnemonic : String)
  deriving DecidableEq, Repr

/-- The machine right after reset: bring-up has finished with every unit working (log 1), no partition exists, and
every register whose reset value the manual leaves open holds what log 7 names. -/
def State.reset : State := {}

end Sys2Proof.Machine
end

