-- ==== Sys2Proof/Config.lean ====
section
/-! DEFINITION. What the manual leaves to each implementation or calls undefined: opaque constants without a value, so
that a claim about the machine holds whatever they are. A constant that takes a Nat first is applied to State.fresh, which
every use advances (log 5). -/

namespace Sys2Proof.Config

open Sys2Proof.Machine

/-- A value the manual calls undefined, or does not state, as 64 bits (log 5). -/
opaque freeWord : Nat → Word

/-- A bit the manual calls undefined (log 5). -/
opaque freeBit : Nat → Bool

/-- A byte of undefined data: the use, then the byte's place (log 5). -/
opaque freeByte : Nat → Nat → Byte

/-- How a snapshot writes the level and the FROM of the handler that runs, if any (R251, log 23). -/
opaque levelWord : Nat → Option Nat → Word

/-- The bytes a swap record takes for unfinished copies, waiting messages and further flight records, whose layout is not
architectural (R247). -/
opaque swapBytes : Nat → Nat → Nat → BitVec 32

/-- Whether an RSASSA-PSS signature over the image holds under the firmware key (R46, log 9). -/
opaque signatureHolds : List Byte → Bool

/-- The signature of an attestation report under the identity key, a number of 512 bytes (R63, log 9). -/
opaque sign : List Byte → BitVec 4096

/-- The key a wrapped key unwraps to under the transport key, none when the unwrap fails (R61, log 9). -/
opaque unwrap : List Byte → Option (BitVec 512)

/-- SHA-512 of the transport public key (R63). -/
opaque transportKey : BitVec 512

/-- What the payload of an arriving flit carries: class, LEN, TAG and the 240 bytes (R22, log 10). -/
opaque readCargo : Nat → Nat → Nat → BitVec 1920 → Option Cargo

/-- The partition, the job and the launch record that an arriving flit works for (log 10). -/
opaque cargoOwner : Nat → Nat → Nat → BitVec 1920 → Nat × Nat × Nat

/-- The payload by which a flit carries its cargo for a partition, a job and a launch, and its valid bytes (R22, log 10). -/
opaque writeCargo : Nat → Nat → Nat → Cargo → BitVec 1920 × Fin 241

/-- What the n-th flit of a port holds in PAYLOAD, LEN, DSTMOD, SEQ and TAG when it only acknowledges (R22, R25, log 10). -/
opaque ackOnly : Nat → BitVec 1920 × Fin 241 × BitVec 8 × BitVec 16 × BitVec 24

end Sys2Proof.Config
end

