-- ==== Sys2Proof/Machine/Flags.lean ====
section
/-! DEFINITION. Predicates and lane masks: what a move into one writes, what one reads as (R207 to R209), and the form of
compare results. -/

namespace Sys2Proof.Machine

/-- One bit of a bit vector replaced. -/
def putBit {w : Nat} (x : BitVec w) (i : Nat) (b : Bool) : BitVec w :=
  if b then x ||| BitVec.twoPow w i else x &&& ~~~BitVec.twoPow w i

/-- A predicate read as a source: p0 reads as 1 (R207, R209). -/
def predicate (p : BitVec 16) (k : Nat) : Bool := k == 0 || p.getLsbD k

/-- A move of bit b into predicate k writes the complement into k + 1 when k is even (R209); p0 is not writable. -/
def setPredicate (p : BitVec 16) (k : Nat) (b : Bool) : BitVec 16 :=
  if k = 0 then p
  else if k % 2 = 0 then putBit (putBit p k b) (k + 1) (!b)
  else putBit p k b

/-- A mask as a number of lanes: m0 reads as all ones (R208). -/
def laneMask (m : SMap (BitVec 16)) (k : Nat) : BitVec 16 := if k = 0 then 0xFFFF else mget 0 m k

/-- Bit 0 of every lane of a value, as a mask (R209). -/
def maskBits (v : Vec) : BitVec 16 :=
  (upFrom 0 16).foldl (fun m l => if (lane v l).getLsbD 0 then m ||| BitVec.twoPow 16 l else m) 0

/-- The bits of `new` where the guard has a one, those of `old` elsewhere. -/
def mixMask (guard new old : BitVec 16) : BitVec 16 := (new &&& guard) ||| (old &&& ~~~guard)

/-- A move into mask k under a lane guard writes the complement into k + 1 when k is even (R209); m0 is not writable. -/
def setMask (m : SMap (BitVec 16)) (k : Nat) (guard new : BitVec 16) : SMap (BitVec 16) :=
  if k = 0 then m
  else
    let m1 := mset 0 m k (mixMask guard new (laneMask m k))
    if k % 2 = 0 then mset 0 m1 (k + 1) (mixMask guard (~~~new) (laneMask m (k + 1))) else m1

/-- A mask read as a source: all ones in each lane that is on (R209). -/
def maskValue (m : BitVec 16) : Vec :=
  ofLanes ((upFrom 0 16).map (fun l => if m.getLsbD l then 0xFFFFFFFF else 0))

/-- A compare over elements of width w: ones in every bit of an element for which the relation holds (R352). -/
def elementFlags (w : Nat) (cs : List Bool) : Nat := ofElems w (cs.map (fun c => if c then 2 ^ w - 1 else 0))

end Sys2Proof.Machine
end

