-- ==== Sys2Proof/Machine/Access.lean ====
section
/-! DEFINITION. Reading and replacing the parts of the state: tiles, dies, ports, partitions, jobs and launches; the
numbering of dies, tiles and partitions; the error log; free values. -/

namespace Sys2Proof.Machine

/-! ## Parts of the state -/

def State.tile (s : State) (t : Nat) : Tile := mget {} s.tiles t
def State.setTile (s : State) (t : Nat) (x : Tile) : State := { s with tiles := mset {} s.tiles t x }
/-- The tile the step acts on. -/
def State.here (s : State) : Tile := s.tile s.cur
def State.setHere (s : State) (x : Tile) : State := s.setTile s.cur x
def State.die (s : State) (d : Nat) : Die := mget {} s.dies d
def State.setDie (s : State) (d : Nat) (x : Die) : State := { s with dies := mset {} s.dies d x }
def State.port (s : State) (p : Nat) : Port := mget {} s.ports p
def State.setPort (s : State) (p : Nat) (x : Port) : State := { s with ports := mset {} s.ports p x }
def State.part (s : State) (p : Nat) : Partition := mget {} s.parts p
def State.setPart (s : State) (p : Nat) (x : Partition) : State := { s with parts := mset {} s.parts p x }

/-- The partition a tile's task belongs to. -/
def Tile.part (t : Tile) : Nat := match t.task with | some k => k.part | none => 0

/-- The cluster c of a tile. -/
def Tile.cluster (t : Tile) (c : Nat) : Cluster := mget {} t.clusters c
def Tile.setCluster (t : Tile) (c : Nat) (x : Cluster) : Tile := { t with clusters := mset {} t.clusters c x }

/-- The clusters the task declared in use (R198). -/
def Tile.inUse (t : Tile) : Nat := match t.task with | some k => k.clusters.toNat | none => 0

/-- The set of tile-domain ports, latches and records of a level (R237). -/
def Tile.unitsAt (t : Tile) : Level → UnitSet
  | .task => t.units
  | .user => t.user.units
  | .monitor => t.monitor.units

def Tile.setUnitsAt (t : Tile) (l : Level) (u : UnitSet) : Tile :=
  match l with
  | .task => { t with units := u }
  | .user => { t with user := { t.user with units := u } }
  | .monitor => { t with monitor := { t.monitor with units := u } }

/-- The handler registers of the level that runs; those of the U handler outside a handler. -/
def Tile.handler (t : Tile) : Handler := if t.level = .monitor then t.monitor else t.user

def Tile.setHandler (t : Tile) (h : Handler) : Tile :=
  if t.level = .monitor then { t with monitor := h } else { t with user := h }

/-! ## Fresh free values -/

/-- The use number of the next free value. -/
def State.nextFree (s : State) : State := { s with fresh := s.fresh + 1 }

/-! ## Numbering (R10, R36, R79, R106) -/

def dieOf (tile : Nat) : Nat := tile / 64

/-- The two dies of a shared edge, lower number first (R15's numbering). -/
def edgeDies (e : Nat) : Nat × Nat :=
  if e < 12 then (e / 3 * 4 + e % 3, e / 3 * 4 + e % 3 + 1) else ((e - 12) / 4 * 4 + (e - 12) % 4, (e - 12) / 4 * 4 + (e - 12) % 4 + 4)

/-- An edge is down when its training failed or a router of either die failed its self-test (R35). -/
def edgeDown (h : Health) (e : Nat) : Bool :=
  h.downEdges.contains e || h.deadRouters.contains (edgeDies e).1 || h.deadRouters.contains (edgeDies e).2

/-- A die that bring-up left available (R32, R35). -/
def dieAvailable (h : Health) (d : Nat) : Bool :=
  decide (d < 16) && !h.deadDies.contains d && !h.deadRouters.contains d && !h.deadStacks.contains (d / 2)
    && !(h.deadLpddr.contains (2 * d) && h.deadLpddr.contains (2 * d + 1))
    && !(upFrom 0 24).any (fun e => edgeDown h e && (edgeDies e).2 == d)

/-- The working order of a die (R36). -/
def workingTiles (h : Health) (d : Nat) : List Nat := (upFrom (64 * d) 64).filter (fun t => !h.badTiles.contains t)

/-- The dies of a partition in ascending physical number: its logical dies (R79). -/
def Partition.dieList (p : Partition) : List Nat := (upFrom 0 16).filter (fun d => p.dies.getLsbD d)

/-- The partition working order (R79). -/
def partitionTiles (s : State) (p : Partition) : List Nat := p.dieList.flatMap (workingTiles s.health)

/-- The logical number of a physical die in a partition. -/
def logicalDie (p : Partition) (d : Nat) : Nat := (p.dieList.takeWhile (fun x => decide (x ≠ d))).length

/-- The rank table of a job (R106). -/
def Partition.rankTable (p : Partition) (job : Nat) : Option (List Nat) :=
  (p.config.ranks.find? (fun e => e.1 == job)).map Prod.snd

/-- M, the modules of a job (R106). -/
def Partition.ranks (p : Partition) (job : Nat) : Nat :=
  match p.rankTable job with
  | some r => r.length
  | none => 1

/-- The own rank in a job (R106). -/
def ownRank (s : State) (p : Partition) (job : Nat) : Nat :=
  match p.rankTable job with
  | some r => (r.takeWhile (fun x => some x != s.domain)).length
  | none => 0

/-- The physical domain number of a rank, when it is in the rank table; the own module has none to name (R106). -/
def rankModule (p : Partition) (job rank : Nat) : Option Nat :=
  match p.rankTable job with
  | some r => r[rank]?
  | none => none

/-- A rank that names a module of the job. -/
def rankExists (p : Partition) (job rank : Nat) : Bool := decide (rank < p.ranks job)

/-! ## Jobs and launches of a partition -/

def Partition.job? (p : Partition) (n : Nat) : Option Job := p.jobs.find? (fun j => j.num == n)

/-- A job that has not been met yet is unprotected (R87). -/
def Partition.job (p : Partition) (n : Nat) : Job := (p.job? n).getD { num := n }

/-- A list with the element for which f holds replaced, or with the new one added at the end. -/
def replaceBy {α : Type} (f : α → Bool) (x : α) : List α → List α
  | [] => [x]
  | y :: ys => if f y then x :: ys else y :: replaceBy f x ys

def Partition.setJob (p : Partition) (j : Job) : Partition := { p with jobs := replaceBy (fun x => x.num == j.num) j p.jobs }

def Partition.launch? (p : Partition) (a : Nat) : Option Launch := p.launches.find? (fun l => l.addr == a)

def Partition.setLaunch (p : Partition) (l : Launch) : Partition :=
  { p with launches := replaceBy (fun x => x.addr == l.addr) l p.launches }

def State.mapPart (s : State) (n : Nat) (f : Partition → Partition) : State := s.setPart n (f (s.part n))
def State.mapTile (s : State) (n : Nat) (f : Tile → Tile) : State := s.setTile n (f (s.tile n))
def State.mapHere (s : State) (f : Tile → Tile) : State := s.setHere (f s.here)
def State.mapDie (s : State) (n : Nat) (f : Die → Die) : State := s.setDie n (f (s.die n))

/-- A cause handed to the dispatcher, which the next step acts on (log 3). -/
def State.addCause (s : State) (c : Cause) : State := { s with causes := s.causes ++ [c] }

/-! ## The error log (R69) -/

/-- An error entry. -/
def errorEntry (time addr info code part die tile index : Nat) : BitVec 256 :=
  BitVec.ofNat 256 (index % 2 ^ 16 + 2 ^ 16 * (die % 16) + 2 ^ 20 * (tile % 1024) + 2 ^ 40 * (part % 256)
    + 2 ^ 48 * (code % 2 ^ 16) + 2 ^ 64 * (info % 2 ^ 64) + 2 ^ 128 * (addr % 2 ^ 64) + 2 ^ 192 * (time % 2 ^ 64))

/-- One entry appended to the ring of 4,096; when the ring is full the oldest is lost and the overflow count rises. -/
def State.logError (s : State) (code info addr part die tile : Nat) : State :=
  let e := errorEntry s.timeBase.toNat addr info code part die tile s.errorCount
  let full := decide (4096 ≤ s.errors.length)
  { s with
    errors := (if full then s.errors.tail else s.errors) ++ [e]
    errorCount := s.errorCount + 1
    overflow := if full then s.overflow + 1 else s.overflow }

/-- An entry that concerns no single die (R69). -/
def State.logModule (s : State) (code info addr part : Nat) : State := s.logError code info addr part 0 0x3FE

/-- An entry that concerns a die but no tile (R69). -/
def State.logDie (s : State) (code info addr part die : Nat) : State := s.logError code info addr part die 0x3FF

/-- An entry that concerns a tile (R69). -/
def State.logTile (s : State) (code info addr part tile : Nat) : State :=
  s.logError code info addr part (dieOf tile) (tile % 64)

end Sys2Proof.Machine
end

