-- ==== Sys2Proof/Machine/Wire.lean ====
section
/-! DEFINITION. The horizon links as this module drives them: the flit and its check, a port's sequence numbers, replay buffer
and acknowledgements, the routes of a partition, requests and poison notifies (R22 to R27, R135). -/

namespace Sys2Proof.Machine

/-! ## The flit (R22, R23) -/

/-- The fields of a flit below its CRC. -/
structure FlitFields where
  tag     : Nat
  nak     : Bool := false
  cls     : Nat
  seq     : Nat
  ack     : Nat
  len     : Nat
  src     : Nat
  dst     : Nat
  payload : Nat
  deriving DecidableEq, Repr

/-- Bits [2015:0] of a flit, ACKV set and the reserved fields zero. -/
def FlitFields.low (f : FlitFields) : Nat :=
  f.tag % 2 ^ 24 + 2 ^ 27 * (f.cls % 8) + (if f.nak then 2 ^ 30 else 0) + 2 ^ 31 + 2 ^ 32 * (f.seq % 2 ^ 16)
    + 2 ^ 48 * (f.ack % 2 ^ 16) + 2 ^ 64 * (f.len % 2 ^ 8) + 2 ^ 72 * (f.src % 2 ^ 8) + 2 ^ 80 * (f.dst % 2 ^ 8)
    + 2 ^ 96 * (f.payload % 2 ^ 1920)

/-- The 2,048 bits of a flit: its fields and, in its last four bytes, the CRC over those before. -/
def FlitFields.image (f : FlitFields) : BitVec 2048 := BitVec.ofNat 2048 (f.low + 2 ^ 2016 * crc32 (toBytes 252 f.low))

/-- A flit that passes its check: the CRC, and LEN up to 240. Its reserved bits are not looked at (log 50). -/
def flitGood (f : Nat) : Bool :=
  field f 2047 2016 == crc32 (toBytes 252 (f % 2 ^ 2016)) && decide (field f 71 64 ≤ 240)

/-- The payload that a flit's LEN makes valid, in its 240 bytes. -/
def flitPayload (f : Nat) : BitVec 1920 := BitVec.ofNat 1920 (field f 2015 96 % 2 ^ (8 * field f 71 64))

/-! ## A port (R25, R27) -/

/-- The bits of a sequenced flit as a port sends it from a module, with the acknowledgement that it carries then. -/
def Port.image (p : Port) (src : Nat) (f : Flit) : BitVec 2048 :=
  let x := Config.writeCargo f.part f.job f.launch f.cargo
  { tag := f.tag, cls := f.cls, seq := f.seq.toNat, ack := p.expect.toNat, len := x.2.val, src := src, dst := f.dst,
    payload := x.1.toNat : FlitFields }.image

/-- Flits put on the lanes in their order. -/
def Port.emit (p : Port) (src : Nat) (fs : List Flit) : Port := { p with sent := p.sent ++ fs.map (p.image src) }

/-- A flit that only acknowledges, or asks for what is missing (R25). -/
def Port.acknowledge (p : Port) (src : Nat) (nak : Bool) : Port :=
  let x := Config.ackOnly p.sent.length
  { p with sent := p.sent ++ [
      { tag := x.2.2.2.2.toNat, nak := nak, cls := 7, seq := x.2.2.2.1.toNat, ack := p.expect.toNat, len := x.2.1.val, src := src,
        dst := x.2.2.1.toNat, payload := x.1.toNat : FlitFields }.image] }

/-- A flit numbered and handed to a port at a time, which keeps it until it is acknowledged. It leaves at once while the replay
buffer of 1,024 flits has room. -/
def Port.push (p : Port) (src : Nat) (now : Word) (f : Flit) : Port :=
  let g := { f with seq := p.sendSeq }
  let p1 := { p with
    sendSeq := p.sendSeq + 1, replay := p.replay ++ [g], since := if p.replay.isEmpty then now else p.since }
  if p.replay.length < 1024 then p1.emit src [g] else p1

/-- The flits that an ACKSEQ acknowledges: those of the replay buffer before it. -/
def Port.ackCount (p : Port) (ack : BitVec 16) : Nat :=
  match p.replay with
  | [] => 0
  | f :: _ =>
    let n := (ack - f.seq).toNat
    if min 1024 p.replay.length < n then 0 else n

/-- Acknowledged flits leave the replay buffer. -/
def Port.dropAcked (p : Port) (n : Nat) (now : Word) : Port :=
  if n = 0 then p else { p with replay := p.replay.drop n, since := now, retrains := 0 }

/-- The flits of the replay buffer with another count of how often each has been sent again. -/
def Port.recount (p : Port) (f : Nat → Nat) : Port :=
  { p with replay := (p.replay.take 1024).map (fun x => { x with resent := f x.resent }) ++ p.replay.drop 1024 }

/-- The acknowledgement of a flit that passed its check: new flits take the room that it makes, or on a NAK the flits from ACKSEQ
on are sent again in their order, and new ones behind them. -/
def Port.hear (p : Port) (src : Nat) (now : Word) (f : Nat) : Port :=
  if bit f 31 then
    let n := p.ackCount (BitVec.ofNat 16 (field f 63 48))
    let p1 := p.dropAcked n now
    if bit f 30 then
      (p1.recount (fun n => n + 1)).emit src (p1.replay.take 1024)
    else p1.emit src ((p1.replay.take 1024).drop (1024 - n))
  else p

/-- The transaction numbers of this module that some flits carry; an answer carries one of the module that it goes to. -/
def ownTags (fs : List Flit) : List Nat := (fs.filter (fun f => f.cls != 2)).map Flit.tag

/-- The transaction numbers of the flits that a flit's ACKSEQ acknowledges. -/
def Port.acknowledged (p : Port) (f : Nat) : List Nat :=
  if bit f 31 then ownTags (p.replay.take (p.ackCount (BitVec.ofNat 16 (field f 63 48)))) else []

/-- A discarded flit: the first one after an accepted flit is answered by a NAK. -/
def Port.discard (p : Port) (src : Nat) : Port := if p.nakSent then p else { p with nakSent := true }.acknowledge src true

/-- A port that has flits to acknowledge retrains: one of them has been resent 8 times, or no ACKSEQ advance has come for 100 µs
(R27). A retraining that has failed is followed by the next. -/
def Port.mustRetrain (p : Port) (now : Word) : Bool :=
  !p.replay.isEmpty && (p.replay.any (fun f => decide (8 ≤ f.resent)) || decide (100000 ≤ (now - p.since).toNat) || decide (0 < p.retrains))

/-- A port that has failed: what it held is lost, and so is what never left it for jobs that have stopped (R27, R95). -/
def Port.fails (p : Port) (stops : Flit → Bool) : Port :=
  { p with
    failed := true, replay := []
    lost := p.lost ++ ownTags (p.replay.take 1024 ++ (p.replay.drop 1024).filter stops) }

/-- A port after a successful retraining: replay resumes from ACKSEQ. -/
def Port.resume (p : Port) (src : Nat) (now : Word) : Port :=
  (({ p with since := now, retrains := 0 } : Port).recount (fun _ => 0)).emit src (p.replay.take 1024)

/-- A port of the module that trained and has not failed. -/
def State.portUp (s : State) (p : Nat) : Bool := !s.health.deadPorts.contains p && !(s.port p).failed

/-- The physical domain number that the module's flits carry; zero before it has one (log 32). -/
def State.sourceModule (s : State) : Nat := s.domain.getD 0

/-! ## Routes (R26, R27) -/

/-- The route of a partition for a destination module and a class (R26). -/
def Partition.route (p : Partition) (dst cls : Nat) : Option Route :=
  p.config.routes.find? (fun r => r.dst == dst && r.cls == cls)

def Partition.setRoute (p : Partition) (r : Route) : Partition :=
  { p with config := { p.config with
      routes := p.config.routes.map (fun x => if x.dst = r.dst ∧ x.cls = r.cls then r else x) } }

/-- A flit sent to a module, or left waiting while its route is held, as one over a port that did not train or has failed is;
none when the partition configuration has no route (R26, R27, R32, R37). -/
def State.sendFlit (s : State) (f : Flit) : Option State :=
  match (s.part f.part).route f.dst f.cls with
  | none => none
  | some r =>
    if r.held || !s.portUp r.port then
      some (s.mapPart f.part (fun p => p.setRoute { r with held := true, waiting := r.waiting ++ [f] }))
    else some (s.setPort r.port ((s.port r.port).push s.sourceModule s.timeBase f))

/-! ## Transaction numbers (R22) -/

/-- The transaction numbers that something of a tile goes by. -/
def ChunkMove.tags (m : ChunkMove) : List Nat :=
  m.asked.map Ask.tag ++ m.owed.map Prod.snd ++ m.sent.map Sending.tag ++ m.saving.map Ask.tag
def KilnOp.tag (o : KilnOp) : Option Nat := match o.stage with | .away k => some k | _ => none
def Tile.tags (t : Tile) : List Nat :=
  t.kiln.filterMap KilnOp.tag ++ t.rputs.filterMap Rput.tag ++ t.sends.filterMap Outgoing.tag
    ++ t.copies.flatMap (fun c => c.moves.flatMap ChunkMove.tags)

/-- The transaction numbers under which an access that a step makes has left. -/
def Awaited.tags (q : Awaited) : List Nat := match q.stage with | .sent ks => ks | _ => []

/-- The flits of a partition that wait on held routes. -/
def Partition.waitingFlits (p : Partition) : List Flit := p.config.routes.flatMap Route.waiting

/-- The transaction numbers that something of the module still goes by. -/
def State.tagsInUse (s : State) : List Nat :=
  s.tiles.flatMap (fun t => t.2.tags) ++ s.answers.flatMap Held.owed ++ s.awaited.flatMap Awaited.tags
    ++ s.ports.flatMap (fun p => ownTags p.2.replay ++ p.2.lost)
    ++ s.parts.flatMap (fun p => ownTags p.2.waitingFlits ++ p.2.jobs.flatMap Job.draining)

/-- The first number of 24 bits from k on that is not among the given ones, by fuel. -/
def freeTag (used : List Nat) : Nat → Nat → Nat
  | 0, k => k
  | n + 1, k => if used.contains k then freeTag used n ((k + 1) % 2 ^ 24) else k

/-- The number of the next request: the one after the last, modulo 2^24, passing over those in use (DESIGN CHOICE, log 10). -/
def State.nextTag (s : State) : Nat := freeTag s.tagsInUse (s.tagsInUse.length + 1) (s.tags % 2 ^ 24)

/-- A flit sent under a transaction number of its own: the number and the state (R22). -/
def State.request (s : State) (f : Flit) : Option (Nat × State) :=
  (({ s with tags := (s.nextTag + 1) % 2 ^ 24 } : State).sendFlit { f with tag := s.nextTag }).map (fun t => (s.nextTag, t))

/-- A transaction number whose flit went down with a port: nothing that comes under it any more completes what it carried (R27). -/
def State.lostTag (s : State) (k : Nat) : Bool := s.ports.any (fun p => p.2.lost.contains k)

/-! ## Poison notifies (R135) -/

/-- The sharer set that covers a page (R57, R135). -/
def Partition.sharers (p : Partition) (va : Nat) : List Nat :=
  match p.config.shares.find? (fun x => decide (x.base.toNat ≤ va) && decide (va < x.base.toNat + x.pages * 65536)) with
  | some x => (upFrom 0 256).filter (fun d => x.mask.getLsbD d)
  | none => []

/-- One notify to each of some modules; its transaction numbers. -/
def State.notifyEach (s : State) (part job va : Nat) : List Nat → List Nat × State
  | [] => ([], s)
  | d :: ds =>
    match s.request { cls := 0, dst := d, part := part, job := job, launch := 0, cargo := .notify (BitVec.ofNat 64 va) } with
    | some (k, s1) => let r := s1.notifyEach part job va ds; (k :: r.1, r.2)
    | none => s.notifyEach part job va ds

/-- Poison notifies of a poisoned line of a fabric-shared page, to every other module of its sharer set. -/
def State.notifyPoison (s : State) (part job va : Nat) : List Nat × State :=
  s.notifyEach part job va (((s.part part).sharers va).filter (fun d => some d != s.domain))

end Sys2Proof.Machine
end

