-- ==== Sys2Proof/Machine/Awaits.lean ====
section
/-! DEFINITION. The accesses that a step of this module waits for, those that are left behind when nothing waits for them any more, and
what the 64 bytes of a binding cell say (R27, R124, R126, R135, R407, R408). -/

namespace Sys2Proof.Machine

/-! ## Binding cells (R407, R408) -/

/-- The 64 bytes at CODE: a bundled object, a binding cell, or neither; a cell with a reserved bit set is invalid (R7, R74). -/
inductive CodeKind where
  | object
  | cell (state target stub : Nat)
  | neither
  deriving DecidableEq, Repr

def codeKindOf (addr : Nat) (bs : List Byte) : CodeKind :=
  let x := ofBytes bs
  if field x 95 64 = 0 then .object
  else if field x 95 64 = 0x31574342 ∧ addr % 64 = 0 ∧ field x 511 320 = 0 ∧ field x 127 104 = 0 then .cell (field x 103 96) (field x 63 0) (field x 319 256)
  else .neither

/-- A target that a bound cell may hold (R407). -/
def boundTarget (target : Nat) : Bool := decide (target % 256 = 0) && decide (target < 2 ^ 55)

/-- What the bytes of a cell give: the bound object's address, the stub's, or nothing when the cell is invalid (R407, R408). -/
def cellGives (cell : Nat) (bs : List Byte) : Option (Bool × Nat) :=
  match codeKindOf cell bs with
  | .cell 1 target _ => if boundTarget target then some (true, target) else none
  | .cell 2 _ stub => some (false, stub)
  | .cell 3 _ stub => some (false, stub)
  | _ => none

/-! ## Accesses that a step waits for (log 10) -/

/-- Two accesses are one but for how they stand. -/
def Awaited.same (q r : Awaited) : Bool :=
  q.asker == r.asker && q.part == r.part && q.job == r.job && q.dst == r.dst && q.cargo == r.cargo

/-- An access made: how it stands then, and the state. One without a route finds no module (cause 3); notifies that go nowhere wait
for nothing. -/
def State.ask (s : State) (q : Awaited) : AskStage × State :=
  match q.cargo with
  | .notify va =>
    let r := s.notifyPoison q.part q.job va.toNat
    (if r.1.isEmpty then .answered {} else .sent r.1, r.2)
  | c =>
    match s.request { cls := 1, dst := q.dst, part := q.part, job := q.job, launch := 0, cargo := c } with
    | none => (.answered { cause := 3 }, s)
    | some (tag, s1) => (.sent [tag], s1)

/-- The answer to an access of the step that is being tried, when it has come to this step; else the step cannot be made yet, and the
access is what it wants. -/
def State.await (s : State) (q : Awaited) : Option Answer × State :=
  let mine : Awaited := { q with asker := s.asker }
  if s.want.isSome then (none, s)
  else
    match s.awaited.find? mine.same with
    | some x =>
      match x.stage with
      | .answered a => (some a, { s with awaited := s.awaited.eraseP mine.same })
      | _ => (none, { s with want := some x })
    | none =>
      match (s.ask mine).1 with
      | .answered a => (some a, s)
      | _ => (none, { s with want := some mine })

/-- The end of the last of some runs of bytes. -/
def runsEnd (rs : List (Nat × List Byte)) : Nat := rs.foldl (fun n r => max n (r.1 + r.2.length)) 0

/-! ## Accesses that nothing waits for any more -/

/-- The latch of a cell that came to nothing given back: what it answered says whether USE has risen (R408). -/
def State.giveBack (s : State) (q : Awaited) (a : Answer) : State :=
  match q.cargo with
  | .latch cell true =>
    if a.cause = 0 ∧ a.poison = false ∧ (cellGives cell.toNat a.bytes).any Prod.fst = true then
      let down : Awaited := { q with cargo := .latch cell false, stage := .wanted, asker := .nobody }
      let r := s.ask down
      match r.1 with
      | .sent ks => { r.2 with awaited := r.2.awaited ++ [{ down with stage := .sent ks }] }
      | _ => r.2
    else s
  | _ => s

/-- An access whose step needs it no longer: one that has left goes on and is nobody's. -/
def State.leaveBehind (s : State) (q : Awaited) : State :=
  match q.stage with
  | .wanted => s
  | .sent _ => { s with awaited := s.awaited ++ [{ q with asker := .nobody }] }
  | .answered a => s.giveBack q a

/-- Some of the accesses are needed no longer. -/
def State.abandon (s : State) (which : Awaited → Bool) : State :=
  if s.awaited.any which then
    (s.awaited.filter which).foldl State.leaveBehind { s with awaited := s.awaited.filter (fun q => !which q) }
  else s

/-- The accesses of a step are needed no longer: it has been made, or it begins anew. -/
def State.forget (s : State) (a : Asker) : State := s.abandon (fun q => q.asker == a)

/-- The code fills of a tile that are dropped need nothing any more. -/
def Asker.fills (a : Asker) (tile : Nat) : Bool := match a with | .fill n _ => n == tile | _ => false
def State.forgetFills (s : State) (tile : Nat) : State := s.abandon (fun q => q.asker.fills tile)

/-- Accesses that have left under some numbers, whose askers are gone, are nobody's until they are answered (R126). -/
def State.strand (s : State) (qs : List Awaited) : State := if qs.isEmpty then s else { s with awaited := s.awaited ++ qs }

/-- What a chunk has asked of other modules and sent to them, as accesses that are nobody's. -/
def ChunkMove.strays (c : CopyCmd) (m : ChunkMove) (part job : Nat) : List Awaited :=
  let one (cargo : Cargo) (tag level : Nat) : Awaited :=
    { part := part, job := job, dst := 0, cargo := cargo, stage := .sent [tag], level := level }
  let at_ (off : Nat) : Word := c.src - BitVec.ofNat 64 (field c.src.toNat 54 0) + BitVec.ofNat 64 off
  (m.asked ++ m.saving).map (fun q => one (.read (at_ q.off) q.len c.user false false) q.tag q.level)
    ++ m.sent.map (fun x => one (.write x.addr [] c.user none false false none) x.tag x.level)

/-- The same of everything that a tile has sent to other modules. -/
def Tile.strays (t : Tile) : List Awaited :=
  let job := (t.task.map Task.job).getD 0
  let one (cargo : Cargo) (tag : Option Nat) : List Awaited :=
    (tag.map (fun k => { part := t.part, job := job, dst := 0, cargo := cargo, stage := .sent [k] : Awaited })).toList
  t.copies.flatMap (fun c => c.moves.flatMap (fun m => ChunkMove.strays c m t.part job))
    ++ t.kiln.flatMap (fun o => one (.kilnOp o) o.tag)
    ++ t.rputs.flatMap (fun r => one (.write r.addr [(0, toBytes r.n r.data.toNat)] true none false false none) r.tag)
    ++ t.sends.flatMap (fun m => one (.link m) m.tag)

/-! ## Steps tried -/

/-- What comes of a step that may need other modules: it is made; or it is not, and the first access that it lacks leaves; or that
access has left already and has no answer yet. -/
inductive Attempt where
  | made (s : State)
  | asked (s : State)
  | early
  deriving DecidableEq, Repr

/-- What comes of a step by its outcome, t: nothing of it counts while it lacks an access. What is wanted is known to the attempt only. -/
def State.concluded (s : State) (a : Asker) (t : State) : Attempt :=
  match t.want with
  | none => .made (({ t with want := s.want, asker := s.asker } : State).forget a)
  | some q =>
    match q.stage with
    | .wanted => let r := s.ask q; .asked { r.2 with awaited := r.2.awaited ++ [{ q with stage := r.1 }] }
    | _ => .early

/-- A step tried. It is made whole, once every access that it needs has its answer; answers that it has not needed then go. -/
def State.attempt (s : State) (a : Asker) (f : State → State) : Attempt := s.concluded a (f { s with want := none, asker := a })

/-- The state that an attempt leaves. -/
def Attempt.state (a : Attempt) (s : State) : State := match a with | .made t => t | .asked t => t | .early => s

/-- An access that waits for one answer, under a number. -/
def Awaited.waitsFor (q : Awaited) (tag : Nat) : Bool :=
  match q.cargo with
  | .notify _ => false
  | _ => q.stage == .sent [tag]

/-- The answer to an access that a step waits for; one that is nobody's is gone, and gives back what it has latched. -/
def State.answerAwaited (s : State) (tag : Nat) (a : Answer) : State :=
  match s.awaited.find? (fun q => q.waitsFor tag) with
  | none => s
  | some q =>
    if q.asker = .nobody then
      ({ s with awaited := s.awaited.filter (fun q => !q.waitsFor tag) } : State).giveBack q a
    else { s with awaited := s.awaited.map (fun q => if q.waitsFor tag then { q with stage := .answered a } else q) }

/-- Flits of some transaction numbers have been discarded before they left: what waits for them is never answered, and a poisoned line waits
for such a notify no more (R27, R95). -/
def Awaited.discards (q : Awaited) (tags : List Nat) : Bool :=
  (match q.cargo with | .notify _ => false | _ => true) && q.tags.any tags.contains

/-- The transaction numbers under which an access has left that changes what it goes to. -/
def Awaited.writes (q : Awaited) : List Nat :=
  match q.cargo with
  | .write _ _ _ _ _ _ _ => q.tags
  | .line _ _ _ => q.tags
  | .latch _ _ => q.tags
  | .kilnOp o => if o.k = 14 then [] else q.tags
  | _ => []

/-- Notifies acknowledged: those that wait for no other count as answered. -/
def Awaited.acknowledged (q : Awaited) (tags : List Nat) : Awaited :=
  match q.cargo, q.stage with
  | .notify _, .sent ks =>
    let rest := ks.filter (fun k => !tags.contains k)
    { q with stage := if rest.isEmpty then .answered {} else .sent rest }
  | _, _ => q

/-- An acknowledged notify that nobody waits for is gone. -/
def Awaited.done (q : Awaited) : Bool := q.asker == .nobody && (match q.stage with | .answered _ => true | _ => false)

end Sys2Proof.Machine
end

