-- ==== Sys2Proof/Machine/Crypto.lean ====
section
/-! DEFINITION. SHA-512 and AES-256-XTS, which the manual names without restating them (R59 to R62). They are written from
FIPS 180-4, FIPS 197 and IEEE 1619 (log 8). -/

namespace Sys2Proof.Machine

/-! ## SHA-512 -/

def shaKeysLow : List Word :=
  [0x428A2F98D728AE22, 0x7137449123EF65CD, 0xB5C0FBCFEC4D3B2F, 0xE9B5DBA58189DBBC,
   0x3956C25BF348B538, 0x59F111F1B605D019, 0x923F82A4AF194F9B, 0xAB1C5ED5DA6D8118,
   0xD807AA98A3030242, 0x12835B0145706FBE, 0x243185BE4EE4B28C, 0x550C7DC3D5FFB4E2,
   0x72BE5D74F27B896F, 0x80DEB1FE3B1696B1, 0x9BDC06A725C71235, 0xC19BF174CF692694,
   0xE49B69C19EF14AD2, 0xEFBE4786384F25E3, 0x0FC19DC68B8CD5B5, 0x240CA1CC77AC9C65,
   0x2DE92C6F592B0275, 0x4A7484AA6EA6E483, 0x5CB0A9DCBD41FBD4, 0x76F988DA831153B5,
   0x983E5152EE66DFAB, 0xA831C66D2DB43210, 0xB00327C898FB213F, 0xBF597FC7BEEF0EE4,
   0xC6E00BF33DA88FC2, 0xD5A79147930AA725, 0x06CA6351E003826F, 0x142929670A0E6E70,
   0x27B70A8546D22FFC, 0x2E1B21385C26C926, 0x4D2C6DFC5AC42AED, 0x53380D139D95B3DF,
   0x650A73548BAF63DE, 0x766A0ABB3C77B2A8, 0x81C2C92E47EDAEE6, 0x92722C851482353B]

def shaKeysHigh : List Word :=
  [0xA2BFE8A14CF10364, 0xA81A664BBC423001, 0xC24B8B70D0F89791, 0xC76C51A30654BE30,
   0xD192E819D6EF5218, 0xD69906245565A910, 0xF40E35855771202A, 0x106AA07032BBD1B8,
   0x19A4C116B8D2D0C8, 0x1E376C085141AB53, 0x2748774CDF8EEB99, 0x34B0BCB5E19B48A8,
   0x391C0CB3C5C95A63, 0x4ED8AA4AE3418ACB, 0x5B9CCA4F7763E373, 0x682E6FF3D6B2B8A3,
   0x748F82EE5DEFB2FC, 0x78A5636F43172F60, 0x84C87814A1F0AB72, 0x8CC702081A6439EC,
   0x90BEFFFA23631E28, 0xA4506CEBDE82BDE9, 0xBEF9A3F7B2C67915, 0xC67178F2E372532B,
   0xCA273ECEEA26619C, 0xD186B8C721C0C207, 0xEADA7DD6CDE0EB1E, 0xF57D4F7FEE6ED178,
   0x06F067AA72176FBA, 0x0A637DC5A2C898A6, 0x113F9804BEF90DAE, 0x1B710B35131C471B,
   0x28DB77F523047D84, 0x32CAAB7B40C72493, 0x3C9EBE0A15C9BEBC, 0x431D67C49C100D4C,
   0x4CC5D4BECB3E42B6, 0x597F299CFC657E2A, 0x5FCB6FAB3AD6FAEC, 0x6C44198C4A475817]

def shaStart : List Word :=
  [0x6A09E667F3BCC908, 0xBB67AE8584CAA73B, 0x3C6EF372FE94F82B, 0xA54FF53A5F1D36F1,
   0x510E527FADE682D1, 0x9B05688C2B3E6C1F, 0x1F83D9ABFB41BD6B, 0x5BE0CD19137E2179]

def rotr (x : Word) (n : Nat) : Word := x.rotateRight n

/-- The message schedule, newest first, extended k times. -/
def shaExtend : Nat → List Word → List Word
  | 0, ws => ws
  | k + 1, ws =>
    let a := nth 0 ws 14
    let b := nth 0 ws 1
    let s0 := rotr a 1 ^^^ rotr a 8 ^^^ (a >>> 7)
    let s1 := rotr b 19 ^^^ rotr b 61 ^^^ (b >>> 6)
    shaExtend k ((nth 0 ws 15 + s0 + nth 0 ws 6 + s1) :: ws)

/-- One round: the eight working words and the word and constant of the round. -/
def shaRound (v : List Word) (kw : Word × Word) : List Word :=
  let a := nth 0 v 0
  let e := nth 0 v 4
  let ch := (e &&& nth 0 v 5) ^^^ (~~~e &&& nth 0 v 6)
  let maj := (a &&& nth 0 v 1) ^^^ (a &&& nth 0 v 2) ^^^ (nth 0 v 1 &&& nth 0 v 2)
  let t1 := nth 0 v 7 + (rotr e 14 ^^^ rotr e 18 ^^^ rotr e 41) + ch + kw.1 + kw.2
  let t2 := (rotr a 28 ^^^ rotr a 34 ^^^ rotr a 39) + maj
  [t1 + t2, a, nth 0 v 1, nth 0 v 2, nth 0 v 3 + t1, e, nth 0 v 5, nth 0 v 6]

/-- The big-endian word of eight bytes. -/
def bigWord (bs : List Byte) : Word := BitVec.ofNat 64 (ofBytes bs.reverse)

/-- The words of a byte list, big-endian, eight bytes each, n of them. -/
def bigWords : Nat → List Byte → List Word
  | 0, _ => []
  | n + 1, bs => bigWord (bs.take 8) :: bigWords n (bs.drop 8)

/-- One block of 128 bytes. -/
def shaBlock (h : List Word) (block : List Byte) : List Word :=
  let ws := (shaExtend 64 (bigWords 16 block).reverse).reverse
  List.zipWith (fun x y => x + y) h ((ws.zip (shaKeysLow ++ shaKeysHigh)).foldl shaRound h)

/-- The blocks of a padded message. -/
def shaBlocks : Nat → List Byte → List Word → List Word
  | 0, _, h => h
  | n + 1, bs, h => shaBlocks n (bs.drop 128) (shaBlock h (bs.take 128))

/-- SHA-512 of a byte list, as 64 bytes. -/
def sha512 (bs : List Byte) : List Byte :=
  let n := bs.length
  let pad := (239 - n % 128) % 128
  let msg := bs ++ [0x80] ++ List.replicate pad 0 ++ (toBytes 16 (8 * n)).reverse
  (shaBlocks (msg.length / 128) msg shaStart).flatMap (fun w => (toBytes 8 w.toNat).reverse)

/-- The extension of a measurement by an object (R62). -/
def extend (m : BitVec 512) (x : List Byte) : BitVec 512 :=
  BitVec.ofNat 512 (ofBytes (sha512 (toBytes 64 m.toNat ++ sha512 x)))

/-! ## AES-256 -/

def sboxRows : List (List Nat) :=
  [[0x63, 0x7C, 0x77, 0x7B, 0xF2, 0x6B, 0x6F, 0xC5, 0x30, 0x01, 0x67, 0x2B, 0xFE, 0xD7, 0xAB, 0x76],
   [0xCA, 0x82, 0xC9, 0x7D, 0xFA, 0x59, 0x47, 0xF0, 0xAD, 0xD4, 0xA2, 0xAF, 0x9C, 0xA4, 0x72, 0xC0],
   [0xB7, 0xFD, 0x93, 0x26, 0x36, 0x3F, 0xF7, 0xCC, 0x34, 0xA5, 0xE5, 0xF1, 0x71, 0xD8, 0x31, 0x15],
   [0x04, 0xC7, 0x23, 0xC3, 0x18, 0x96, 0x05, 0x9A, 0x07, 0x12, 0x80, 0xE2, 0xEB, 0x27, 0xB2, 0x75],
   [0x09, 0x83, 0x2C, 0x1A, 0x1B, 0x6E, 0x5A, 0xA0, 0x52, 0x3B, 0xD6, 0xB3, 0x29, 0xE3, 0x2F, 0x84],
   [0x53, 0xD1, 0x00, 0xED, 0x20, 0xFC, 0xB1, 0x5B, 0x6A, 0xCB, 0xBE, 0x39, 0x4A, 0x4C, 0x58, 0xCF],
   [0xD0, 0xEF, 0xAA, 0xFB, 0x43, 0x4D, 0x33, 0x85, 0x45, 0xF9, 0x02, 0x7F, 0x50, 0x3C, 0x9F, 0xA8],
   [0x51, 0xA3, 0x40, 0x8F, 0x92, 0x9D, 0x38, 0xF5, 0xBC, 0xB6, 0xDA, 0x21, 0x10, 0xFF, 0xF3, 0xD2],
   [0xCD, 0x0C, 0x13, 0xEC, 0x5F, 0x97, 0x44, 0x17, 0xC4, 0xA7, 0x7E, 0x3D, 0x64, 0x5D, 0x19, 0x73],
   [0x60, 0x81, 0x4F, 0xDC, 0x22, 0x2A, 0x90, 0x88, 0x46, 0xEE, 0xB8, 0x14, 0xDE, 0x5E, 0x0B, 0xDB],
   [0xE0, 0x32, 0x3A, 0x0A, 0x49, 0x06, 0x24, 0x5C, 0xC2, 0xD3, 0xAC, 0x62, 0x91, 0x95, 0xE4, 0x79],
   [0xE7, 0xC8, 0x37, 0x6D, 0x8D, 0xD5, 0x4E, 0xA9, 0x6C, 0x56, 0xF4, 0xEA, 0x65, 0x7A, 0xAE, 0x08],
   [0xBA, 0x78, 0x25, 0x2E, 0x1C, 0xA6, 0xB4, 0xC6, 0xE8, 0xDD, 0x74, 0x1F, 0x4B, 0xBD, 0x8B, 0x8A],
   [0x70, 0x3E, 0xB5, 0x66, 0x48, 0x03, 0xF6, 0x0E, 0x61, 0x35, 0x57, 0xB9, 0x86, 0xC1, 0x1D, 0x9E],
   [0xE1, 0xF8, 0x98, 0x11, 0x69, 0xD9, 0x8E, 0x94, 0x9B, 0x1E, 0x87, 0xE9, 0xCE, 0x55, 0x28, 0xDF],
   [0x8C, 0xA1, 0x89, 0x0D, 0xBF, 0xE6, 0x42, 0x68, 0x41, 0x99, 0x2D, 0x0F, 0xB0, 0x54, 0xBB, 0x16]]

def sbox (x : Nat) : Nat := nth 0 (nth [] sboxRows (x / 16)) (x % 16)

/-- The place of x in the substitution table. -/
def unsbox (x : Nat) : Nat := ((upFrom 0 256).filter (fun y => sbox y == x)).headD 0

/-- x · 2 in GF(2^8). -/
def xtime (x : Nat) : Nat := if 128 ≤ x then (2 * x) % 256 ^^^ 0x1B else 2 * x

/-- The product in GF(2^8), by the bits of the first factor. -/
def gmul (k x : Nat) : Nat :=
  let x2 := xtime x
  let x4 := xtime x2
  (if bit k 0 then x else 0) ^^^ (if bit k 1 then x2 else 0) ^^^ (if bit k 2 then x4 else 0)
    ^^^ (if bit k 3 then xtime x4 else 0)

def xorList (a b : List Nat) : List Nat := List.zipWith (fun x y => x ^^^ y) a b

/-- The round-key words of four bytes, newest first, extended: word i of 60 from the 8 of the key. -/
def keyExtend : Nat → Nat → Nat → List (List Nat) → List (List Nat)
  | 0, _, _, ws => ws
  | k + 1, i, rcon, ws =>
    let prev := nth [] ws 0
    let t :=
      if i % 8 = 0 then
        match prev with
        | a :: rest => xorList ((rest ++ [a]).map sbox) [rcon, 0, 0, 0]
        | [] => []
      else if i % 8 = 4 then prev.map sbox
      else prev
    keyExtend k (i + 1) (if i % 8 = 0 then xtime rcon else rcon) (xorList (nth [] ws 7) t :: ws)

/-- A list cut into pieces of n, k of them. -/
def cut {α : Type} (n : Nat) : Nat → List α → List (List α)
  | 0, _ => []
  | k + 1, xs => xs.take n :: cut n k (xs.drop n)

/-- The 15 round keys of 16 bytes. -/
def roundKeys (key : List Nat) : List (List Nat) :=
  (cut 4 15 ((keyExtend 52 8 1 (cut 4 8 key).reverse).reverse)).map List.flatten

/-- Byte j of the result is byte f j of the state. -/
def permute (f : Nat → Nat) (s : List Nat) : List Nat := (upFrom 0 16).map (fun j => nth 0 s (f j))

def shiftRows (s : List Nat) : List Nat := permute (fun j => (j + 4 * (j % 4)) % 16) s
def unshiftRows (s : List Nat) : List Nat := permute (fun j => (j + 12 * (j % 4)) % 16) s

/-- A column multiplied by the circulant matrix of four coefficients. -/
def mixColumn (c : List Nat) (col : List Nat) : List Nat :=
  (upFrom 0 4).map (fun i => (upFrom 0 4).foldl (fun a j => a ^^^ gmul (nth 0 c ((j + 4 - i) % 4)) (nth 0 col j)) 0)

def mixColumns (c : List Nat) (s : List Nat) : List Nat := (cut 4 4 s).flatMap (mixColumn c)

/-- AES-256 of one 16-byte block under its round keys. -/
def aesEncrypt (ks : List (List Nat)) (b : List Nat) : List Nat :=
  let s := (upFrom 1 13).foldl
    (fun s i => xorList (mixColumns [2, 3, 1, 1] (shiftRows (s.map sbox))) (nth [] ks i)) (xorList b (nth [] ks 0))
  xorList (shiftRows (s.map sbox)) (nth [] ks 14)

/-- The inverse of aesEncrypt. -/
def aesDecrypt (ks : List (List Nat)) (b : List Nat) : List Nat :=
  let s := (upFrom 1 13).foldl
    (fun s i => mixColumns [14, 11, 13, 9] (xorList ((unshiftRows s).map unsbox) (nth [] ks (14 - i))))
    (xorList b (nth [] ks 14))
  xorList ((unshiftRows s).map unsbox) (nth [] ks 0)

/-! ## XTS -/

/-- The tweak of the next block: times alpha in GF(2^128), little-endian. -/
def nextTweak (t : Nat) : Nat := (2 * t) % 2 ^ 128 ^^^ (if bit t 127 then 0x87 else 0)

def natsOf (bs : List Byte) : List Nat := bs.map BitVec.toNat

def numberOf (ns : List Nat) : Nat := ofBytes (ns.map (BitVec.ofNat 8))

/-- The blocks of one XTS data unit under f, from the first block's tweak. -/
def xtsBlocks (f : List Nat → List Nat) : Nat → Nat → List Byte → List Byte
  | 0, _, _ => []
  | n + 1, t, bs =>
    let tw := natsOf (toBytes 16 t)
    (xorList (f (xorList (natsOf (bs.take 16)) tw)) tw).map (BitVec.ofNat 8) ++ xtsBlocks f n (nextTweak t) (bs.drop 16)

/-- A 64-byte line as one XTS data unit of four blocks (R60): the first half of the key pair encrypts data, the second
the tweak. -/
def xtsLine (decrypt : Bool) (key : BitVec 512) (tweak : Nat) (bs : List Byte) : List Byte :=
  let kb := natsOf (toBytes 64 key.toNat)
  let ks := roundKeys (kb.take 32)
  let t := numberOf (aesEncrypt (roundKeys (kb.drop 32)) (natsOf (toBytes 16 tweak)))
  xtsBlocks (if decrypt then aesDecrypt ks else aesEncrypt ks) 4 t bs

end Sys2Proof.Machine
end

