-- ==== Sys2Proof/Machine/Memory.lean ====
section
/-! DEFINITION. Partition physical addresses, translation, memory and kiln lines with their encryption, grades, glaze bits
and poison, and the bisque log (R89 to R92, R103, R108 to R110, R117, R121 to R135). -/

namespace Sys2Proof.Machine

/-! ## Physical places -/

/-- Half the working capacity of a die's stack: 1 GB, a power of 1,000, for each pseudo-channel (R5, R18, R109). -/
def hbmHalf (h : Health) (d : Nat) : Nat := (64 - (h.badChannels.filter (fun c => c.1 == d / 2)).length) * 500000000

/-- Where a partition physical address lies: stack s from s × 2^36, LPDDR6 channel c from 2^40 + c × 2^35; none when it is
not owned memory (R108, R109). -/
def physicalOf (h : Health) (p : Partition) (a : Nat) : Option Nat :=
  if 2 ^ 42 ≤ a || bit a 40 then none
  else
    match p.dieList[field a 39 36]? with
    | none => none
    | some d =>
      let off := a % 2 ^ 36
      if bit a 41 then
        let c := 2 * d + off / 2 ^ 35
        if h.deadLpddr.contains c then none else some (2 ^ 40 + c * 2 ^ 35 + off % 2 ^ 35)
      else if off < hbmHalf h d then some (d / 2 * 2 ^ 36 + (if d % 2 = 0 then off else hbmHalf h d + off))
      else none

/-- The working pseudo-channels of a stack (R19). -/
def workingChannels (h : Health) (stack : Nat) : List Nat := (upFrom 0 64).filter (fun c => !h.badChannels.contains (stack, c))

/-- Where a byte of a stack lies: its pseudo-channel and its offset there (R19). The model keys memory by stack addresses, of
which this is the place. -/
def stackPlace (h : Health) (stack a : Nat) : Nat × Nat :=
  let w := workingChannels h stack
  (nth 0 w (a / 256 % w.length), a / 256 / w.length * 256 + a % 256)

/-- The controller of a physical address: pseudo-channel c of stack s is 64 × s + c, LPDDR6 channel c is 512 + c (R19,
R20, R168). -/
def controllerOf (h : Health) (a : Nat) : Nat :=
  if 2 ^ 40 ≤ a then 512 + (a - 2 ^ 40) / 2 ^ 35
  else
    let st := a / 2 ^ 36
    64 * st + (stackPlace h st (a % 2 ^ 36)).1

/-- The die that owns a physical address (R50). -/
def ownerDie (h : Health) (a : Nat) : Nat :=
  if 2 ^ 40 ≤ a then (a - 2 ^ 40) / 2 ^ 36
  else 2 * (a / 2 ^ 36) + (if a % 2 ^ 36 < hbmHalf h (2 * (a / 2 ^ 36)) then 0 else 1)

/-! ## Translation -/

/-- Who makes an access: its partition and job, whether code below S level makes it, the die whose translation cache it
uses, and the tile whose copy engine makes it. -/
structure Who where
  part : Nat
  job  : Option Nat
  user : Bool
  die  : Nat
  tile : Option Nat
  deriving DecidableEq, Repr

/-- The right an access needs (R123). -/
inductive Right where
  | read
  | write
  | execute
  deriving DecidableEq, Repr

/-- Where an access under a leaf goes (R123): its partition physical address and place, and what the leaf says of it. A
foreign leaf maps no local memory (R124). -/
structure Leaf where
  ppa     : Nat
  phys    : Nat
  key     : Nat
  grade   : Nat
  shared  : Bool
  home    : Nat
  foreign : Bool
  entry   : Word
  entryAt : Nat
  level   : Nat := 3
  deriving DecidableEq, Repr

/-- An entry found by a walk: its level, the entry and its place. -/
structure Walked where
  level : Nat
  entry : Nat
  place : Nat
  deriving DecidableEq, Repr

/-- The width of a leaf at a level: 42, 29 or 16 bits (R121). -/
def leafBits (lv : Nat) : Nat := 16 + 13 * (3 - lv)

/-- OA of a leaf is a multiple of what the leaf maps (R123). -/
def alignedLeaf (lv e : Nat) : Bool := decide (field e 41 16 * 2 ^ 16 % 2 ^ leafBits lv = 0)

/-- The walk of R123 from a table at a level, by the levels that remain; the error is a cause of R128. An address from 2^55 up is
none of class 0x0 (R103, R105). -/
def walk (s : State) (p : Partition) (va : Nat) : Nat → Nat → Nat → Except Nat Walked
  | 0, _, _ => .error 6
  | n + 1, lv, table =>
    if 2 ^ 55 ≤ va then .error 1
    else
      match physicalOf s.health p (table + 8 * field va (54 - 13 * (lv - 1)) (42 - 13 * (lv - 1))) with
      | none => .error 9
      | some a =>
        if s.badLines.contains (a / 64) then .error 6
        else
          let e := ofBytes (readBytes s.memory a 8)
          if e % 4 = 0 then .error 5
          else if e % 4 = 1 && decide (lv < 3) then
            -- R122: every field of a table entry but TYPE and OA is zero; R7 rejects it otherwise.
            if field e 15 2 ≠ 0 || field e 63 42 ≠ 0 then .error 6 else walk s p va n (lv + 1) (field e 41 16 * 2 ^ 16)
          else if (e % 4 = 2 && decide (lv < 3)) || (e % 4 = 3 && lv = 3) then
            -- R124: OA of a leaf of another rank is ignored; checkLeaf knows whose it is.
            if alignedLeaf lv e || bit e 15 then .ok { level := lv, entry := e, place := a } else .error 6
          else .error 6

/-- The cached entry that maps an address (R125). -/
def cached (c : List CacheEntry) (part va : Nat) : Option CacheEntry :=
  c.find? (fun e => e.part == part && e.page == va / 2 ^ leafBits e.level)

/-- The cached entry an access may use: its copy engine's, else its die's (R125). -/
def State.cachedFor (s : State) (w : Who) (va : Nat) : Option CacheEntry :=
  match w.tile.bind (fun t => cached (s.tile t).copyCache w.part va) with
  | some e => some e
  | none => cached (s.die w.die).cache w.part va

/-- An entry kept in the caches an access fills, in the place of any other for its page (R125). -/
def State.keepEntry (s : State) (w : Who) (va : Nat) (k : Walked) : State :=
  let e : CacheEntry :=
    { part := w.part, level := k.level, page := va / 2 ^ leafBits k.level, entry := BitVec.ofNat 64 k.entry, home := k.place }
  let add (c : List CacheEntry) := e :: c.filter (fun x => !(x.part == w.part && x.page == va / 2 ^ leafBits x.level))
  let s1 := s.mapDie w.die (fun d => { d with cache := (add d.cache).take 16384 })
  match w.tile with
  | some t => s1.mapTile t (fun x => { x with copyCache := (add x.copyCache).take 64 })
  | none => s1

/-- The entry an access translates under, and whether a walk has found it afresh. A cached entry that memory no longer holds may
still serve until it is invalidated, and nothing says when (R126): a free bit chooses. Of two entries that differ in DIRTY alone, or in
nothing, the one in memory serves (DESIGN CHOICE, log 13). -/
def State.entryFor (s : State) (w : Who) (va : Nat) : Except Nat (Walked × Bool) × State :=
  let p := s.part w.part
  let found := walk s p va 3 1 p.root.toNat
  let old := (s.cachedFor w va).map (fun e => ({ level := e.level, entry := e.entry.toNat, place := e.home } : Walked))
  match old with
  | none => (found.map (fun k => (k, true)), s)
  | some k =>
    let same := match found with
      | .ok f => f.level == k.level && f.place == k.place && f.entry / 2 ^ 13 == k.entry / 2 ^ 13 && f.entry % 2 ^ 12 == k.entry % 2 ^ 12
      | .error _ => false
    if same then (found.map (fun k => (k, false)), s)
    else if Config.freeBit s.fresh then (.ok (k, false), s.nextFree)
    else (found.map (fun k => (k, true)), s.nextFree)

/-- A leaf checked in the order of R123; the error is a cause of R128. Of a fabric-shared leaf of another rank OA, KEY and GRADE are
ignored (R124). An access for no job has the own rank 0 (log 52). -/
def checkLeaf (s : State) (w : Who) (r : Right) (va : Nat) (k : Walked) : Except Nat Leaf :=
  let p := s.part w.part
  let e := k.entry
  let right := match r with | .read => bit e 8 | .write => bit e 9 | .execute => bit e 10
  let key := field e 55 44
  let ppa := field e 41 16 * 2 ^ 16 + va % 2 ^ leafBits k.level
  let foreign := bit e 15 && decide (field e 63 56 ≠ (match w.job with | some j => ownRank s p j | none => 0))
  let leaf : Leaf :=
    { ppa := ppa, phys := 0, key := key, grade := field e 14 13, shared := bit e 15, home := field e 63 56,
      foreign := foreign, entry := BitVec.ofNat 64 e, entryAt := k.place, level := k.level }
  if field e 43 42 ≠ 0 || field e 7 2 ≠ 0 || (!foreign && (field e 14 13 == 3 || !alignedLeaf k.level e)) then .error 6
  else if !right || (w.user && bit e 11) then .error 7
  else if !foreign && key != 0 && (decide (key < p.keyBase) || decide (p.keyBase + p.keyCount ≤ key) || (mfind key s.keys).isNone) then .error 8
  else if foreign then .ok leaf
  else
    match physicalOf s.health p ppa with
    | none => .error 9
    | some a => .ok { leaf with phys := a }

/-- The translation of one address of class 0x0 (R121 to R126). An entry is cached when the translation that found it does not
fault (R125). -/
def translate (s : State) (w : Who) (r : Right) (va : Nat) : Except Nat Leaf × State :=
  match s.entryFor w va with
  | (.error c, s1) => (.error c, s1)
  | (.ok (k, walked), s1) =>
    match checkLeaf s1 w r va k with
    | .error c => (.error c, s1)
    | .ok l => (.ok l, if walked then s1.keepEntry w va k else s1)

/-- An entry that becomes dirty in every cache that holds it (R127). -/
def dirtyCache (place : Nat) (c : List CacheEntry) : List CacheEntry :=
  c.map (fun e => if e.home = place then { e with entry := e.entry ||| 0x1000 } else e)

/-- A range of numbers put into a rising list. -/
def addRange (a n : Nat) (l : List Nat) : List Nat :=
  l.filter (fun x => decide (x < a)) ++ upFrom a n ++ l.filter (fun x => decide (a + n ≤ x))

/-- The 512 MiB regions that a leaf reaches into: the first and how many (R64). -/
def leafRegions (level va : Nat) : Nat × Nat := (va / 2 ^ leafBits level * 2 ^ leafBits level / 2 ^ 29, 2 ^ (leafBits level - 29))

/-- The first write through a leaf with DIRTY 0 sets it in memory and in the dirty map, for every region that the entry maps (R64,
R127). -/
def State.setDirty (s : State) (w : Who) (va : Nat) (l : Leaf) : State :=
  if l.foreign || l.entry.getLsbD 12 then s
  else
    let b := readByte s.memory (l.entryAt + 1)
    let s1 := { s with memory := writeByte s.memory (l.entryAt + 1) (b ||| 0x10) }
    let r := leafRegions l.level va
    let s2 := s1.mapPart w.part (fun p => { p with dirtyMap := addRange r.1 r.2 p.dirtyMap })
    { s2 with
      dies := s2.dies.map (fun d => (d.1, { d.2 with cache := dirtyCache l.entryAt d.2.cache }))
      tiles := s2.tiles.map (fun t => (t.1, { t.2 with copyCache := dirtyCache l.entryAt t.2.copyCache })) }

/-! ## Memory lines -/

/-- The stored bytes of a line (R60): line n holds addresses 64n to 64n + 63. -/
def State.rawLine (s : State) (line : Nat) : List Byte := readBytes s.memory (64 * line) 64

/-- The tweak of a virtual address (R60). -/
def tweakOf (va : Nat) : Nat := field va 54 6

/-- How many glaze bits a grade gives a line (R129). -/
def glazeBits (grade : Nat) : Nat := if grade = 1 then 28 else if grade = 2 then 56 else 0

/-- A line as read: its plain bytes, its glaze bits and whether it is poisoned. -/
structure Line where
  bytes  : List Byte
  glaze  : Nat
  poison : Bool
  deriving DecidableEq, Repr

/-- A line read under a leaf. One not written in full under the leaf's grade gives undefined data and may report poison
(R131, log 17). -/
def State.readLine (s : State) (l : Leaf) (va : Nat) : Line × State :=
  let line := l.phys / 64
  let poison := s.badLines.contains line
  let glaze := (mget 0 s.glaze line).toNat % 2 ^ glazeBits l.grade
  if mget 0 s.grades line ≠ l.grade then
    ({ bytes := (upFrom 0 64).map (Config.freeByte s.fresh), glaze := (Config.freeWord s.fresh).toNat % 2 ^ glazeBits l.grade,
       poison := poison || Config.freeBit s.fresh }, s.nextFree)
  else
    let raw := s.rawLine line
    ({ bytes := if l.key = 0 then raw else xtsLine true (mget 0 s.keys l.key) (tweakOf va) raw, glaze := glaze,
       poison := poison }, s)

/-- The bytes of `new` where the mask is true, those of `old` elsewhere. -/
def mixBytes : List Bool → List Byte → List Byte → List Byte
  | k :: ks, n :: ns, o :: os => (if k then n else o) :: mixBytes ks ns os
  | _, _, _ => []

/-- A line stored under a leaf, with its glaze bits when the write carries any (R60, R129 to R133). -/
def State.storeLine (s : State) (l : Leaf) (va : Nat) (mask : List Bool) (bytes : List Byte) (poison : Bool)
    (glaze : Option Nat) : State :=
  let line := l.phys / 64
  let full := mask.all id
  let key := mget 0 s.keys l.key
  let old := if full || l.key = 0 then s.rawLine line else xtsLine true key (tweakOf va) (s.rawLine line)
  let plain := mixBytes mask bytes old
  let raw := if l.key = 0 then plain else xtsLine false key (tweakOf va) plain
  let bad := poison || (!full && s.badLines.contains line)
  { s with
    memory := writeBytes s.memory (64 * line) raw
    badLines := if bad then addTo line s.badLines else dropFrom line s.badLines
    grades := if full then mset 0 s.grades line l.grade else s.grades
    glaze := match glaze with
      | none => s.glaze
      | some g => mset 0 s.glaze line (BitVec.ofNat 56 (g % 2 ^ glazeBits l.grade)) }

/-- The pieces of a byte range by lines: address and length of each. -/
def linePieces (a n : Nat) : List (Nat × Nat) :=
  if n = 0 then []
  else
    (upFrom (a / 64) ((a + n - 1) / 64 - a / 64 + 1)).map
      (fun l => (max a (64 * l), min (a + n) (64 * l + 64) - max a (64 * l)))

/-- The mask of a piece in its line. -/
def pieceMask (a n : Nat) : List Bool := (upFrom 0 64).map (fun i => decide (a % 64 ≤ i) && decide (i < a % 64 + n))

/-- Bytes moved to their place in a line. -/
def padLine (a : Nat) (bs : List Byte) : List Byte :=
  let xs := List.replicate (a % 64) (0 : Byte) ++ bs
  xs ++ List.replicate (64 - xs.length) 0

/-! ## The bisque log -/

/-- A job in an interval, whose writes are logged (R87, R90, R95). -/
def Job.logged (j : Job) : Bool := j.log.isSome && decide (j.state ≠ .unprotected) && decide (j.state ≠ .failed)

/-- How many records a log holds (R89). -/
def LogFields.capacity (f : LogFields) : Nat := (f.pages - 1) * 65536 / 80

/-- The place of record k of a log (R89). -/
def LogFields.place (f : LogFields) (k : Nat) : Nat := f.base + 65536 + 80 * k

/-- A leaf the log may use: LPDDR6 of grade S that can be read and written (R92). -/
def logLeaf (s : State) (w : Who) (va : Nat) : Option Leaf × State :=
  match translate s { w with user := false } .write va with
  | (.ok l, s1) => if l.entry.getLsbD 8 && bit l.ppa 41 && l.grade = 0 && !l.foreign then (some l, s1) else (none, s1)
  | (.error _, s1) => (none, s1)

/-- Bytes written into the log, or the log address that fails when some page of them does (R92). -/
def writeLog (s : State) (w : Who) : List (Nat × Nat) → List Byte → Except Nat State
  | [], _ => .ok s
  | (a, n) :: ps, bs =>
    match logLeaf s w a with
    | (none, _) => .error a
    | (some l, s1) =>
      writeLog ((s1.setDirty w a l).storeLine l a (pieceMask a n) (padLine a (bs.take n)) false none) w ps (bs.drop n)

/-- One log record (R91): the header and the 64 bytes of the line. -/
def logRecord (kind : Nat) (poison : Bool) (glaze addr : Nat) (line : List Byte) : List Byte :=
  toBytes 16 (kind + (if poison then 16 else 0) + 2 ^ 8 * (glaze % 2 ^ 56) + 2 ^ 64 * (addr % 2 ^ 64)) ++ line

/-- A job that begins to quiesce, when it runs (R95). -/
def Job.quiesce (j : Job) : Job := if j.state = .open_ ∨ j.state = .serial then { j with state := .quiescing } else j

/-- A record appended to a job's log; when none can be written the write goes on unlogged and the job fails (R92). -/
def State.appendLog (s : State) (w : Who) (job : Nat) (rec : List Byte) : State :=
  let p := s.part w.part
  let j := p.job job
  match j.log with
  | none => s
  | some f =>
    if f.capacity ≤ j.records then s.addCause { part := w.part, job := job, addr := 0, what := .overflow 0 }
    else
      match writeLog s w (linePieces (f.place j.records) 80) rec with
      | .error a => s.addCause { part := w.part, job := job, addr := a, what := .overflow a }
      | .ok s1 =>
        let full := decide ((f.pages - f.reserve) * 65536 < 65536 + 80 * (j.records + 1)) && !j.asked.contains none
        let j1 := { j with records := j.records + 1 }
        s1.mapPart w.part (fun p => p.setJob (if full then { j1.quiesce with asked := j1.asked ++ [none] } else j1))

/-- The pre-image of a line logged before the job's first write to it in the interval (R90). `key` numbers the line among
all lines, `home` its controller or bank. -/
def State.logLine (s : State) (w : Who) (key home : Nat) (rec : List Byte) : State :=
  match w.job with
  | none => s
  | some n =>
    let j := (s.part w.part).job n
    let known := mget [] j.filters home
    if !j.logged || known.contains key then s
    else
      let j1 := if known.length < 32768 then { j with filters := mset [] j.filters home (addTo key known) } else j
      (s.mapPart w.part (fun p => p.setJob j1)).appendLog w n rec

/-! ## Virtual reads and writes -/

/-- A fault of an access: the address and the cause of R128. -/
structure MemFault where
  addr  : Nat
  cause : Nat
  deriving DecidableEq, Repr

/-- What a read of several lines gives: the bytes, the address of the first poisoned line met, and the poisoned lines of
fabric-shared pages, whose notifies are acknowledged before the data are released (R135); and the level of the leaf of the first. -/
structure Got where
  bytes  : List Byte
  poison : Option Nat
  shared : List Nat := []
  level  : Nat := 3
  deriving DecidableEq, Repr

/-! ## Lines of another module (R124) -/

/-- The job of an access and the module of its foreign leaf's home rank; none when the job has no such module. -/
def State.homeOf (s : State) (w : Who) (l : Leaf) : Option (Nat × Nat) :=
  w.job.bind (fun j => (rankModule (s.part w.part) j l.home).map (fun d => (j, d)))

/-- A request under a foreign leaf leaves for the module of its home rank; none when the job has no such module or the partition
no route to it. -/
def State.askHome (s : State) (w : Who) (l : Leaf) (c : Cargo) : Option (Nat × State) :=
  match s.homeOf w l with
  | some (j, d) => s.request { cls := 1, dst := d, part := w.part, job := j, launch := 0, cargo := c }
  | none => none

/-- What the home answers to an access of the dispatcher, of admission or of a code fill under a foreign leaf; none while the step
waits for it (log 10). -/
def State.awaitHome (s : State) (w : Who) (l : Leaf) (c : Cargo) : Option Answer × State :=
  match s.homeOf w l with
  | some (j, d) => s.await { part := w.part, job := j, dst := d, cargo := c, stage := .wanted, level := l.level }
  | none => (some { cause := 3 }, s)

/-- One piece of a line written by a writer: dirty bit, log, then the store. -/
def State.writePiece (s : State) (w : Who) (l : Leaf) (a : Nat) (mask : List Bool) (bytes : List Byte) (poison : Bool)
    (glaze : Option Nat) : State :=
  let line := l.phys / 64
  let s1 := s.setDirty w a l
  let rec_ := logRecord 1 (s1.badLines.contains line) (mget 0 s1.glaze line).toNat (l.ppa / 64 * 64) (s1.rawLine line)
  (s1.logLine w line (controllerOf s1.health l.phys) rec_).storeLine l a mask bytes poison glaze

/-- A write of the pieces of a range under translation; it stops at the first fault (R110). -/
def State.writePieces (s : State) (w : Who) (poison : Bool) : List (Nat × Nat) → List Byte → Option MemFault × State
  | [], _ => (none, s)
  | (a, n) :: ps, bs =>
    match translate s w .write a with
    | (.error c, s1) => (some { addr := a, cause := c }, s1)
    | (.ok l, s1) =>
      if l.foreign then
        match s1.awaitHome w l (.write (BitVec.ofNat 64 a) [(0, bs.take n)] w.user none false poison none) with
        | (some x, s2) => if x.cause ≠ 0 then (some { addr := a, cause := x.cause }, s2) else s2.writePieces w poison ps (bs.drop n)
        | (none, s2) => (none, s2)
      else (s1.writePiece w l a (pieceMask a n) (padLine a (bs.take n)) poison none).writePieces w poison ps (bs.drop n)

/-- A fault of an access at an address: past the end of the space its cause is RANGE, from there on CLASS (R105). -/
def MemFault.from_ (f : MemFault) (va : Nat) : MemFault := if f.cause = 1 ∧ va < 2 ^ 55 then { f with cause := 2 } else f

/-- A write within one line that nothing waits for: a fault drops it, and one under a foreign leaf leaves for its home (R87). -/
def State.writeUnawaited (s : State) (w : Who) (va : Nat) (bs : List Byte) : State :=
  match translate s w .write va with
  | (.error _, s1) => s1
  | (.ok l, s1) =>
    let cargo : Cargo := .write (BitVec.ofNat 64 va) [(0, bs)] w.user none false false none
    if l.foreign then
      match s1.askHome w l cargo with
      | some (tag, s2) =>
        let q : Awaited := { part := w.part, job := w.job.getD 0, dst := 0, cargo := cargo, stage := .sent [tag], level := l.level }
        s2.strand [q]
      | none => s1
    else s1.writePiece w l va (pieceMask va bs.length) (padLine va bs) false none

def State.writeVirtual (s : State) (w : Who) (va : Nat) (bs : List Byte) (poison : Bool) : Option MemFault × State :=
  let r := s.writePieces w poison (linePieces va bs.length) bs
  (r.1.map (fun f => f.from_ va), r.2)

/-- Two pieces read one after the other. -/
def Got.append (x y : Got) : Got :=
  { bytes := x.bytes ++ y.bytes, poison := if x.poison.isSome then x.poison else y.poison, shared := x.shared ++ y.shared,
    level := x.level }

/-- One line piece of this module read under its leaf: its bytes, whether they are poisoned, and whether notifies are due (R135). -/
def State.readHere (s : State) (l : Leaf) (a n : Nat) : Got × State :=
  let x := s.readLine l a
  ({ bytes := (x.1.bytes.drop (a % 64)).take n
     poison := if x.1.poison then some (a / 64 * 64) else none
     shared := if x.1.poison && l.shared then [a / 64 * 64] else [], level := l.level }, x.2)

/-- One line piece read under its leaf (R124). A foreign one that has no answer yet gives no bytes. -/
def State.readPiece (s : State) (w : Who) (r : Right) (l : Leaf) (a n : Nat) : Except Nat Got × State :=
  if l.foreign then
    match s.awaitHome w l (.read (BitVec.ofNat 64 a) n w.user false (r == .execute)) with
    | (some x, s1) =>
      if x.cause ≠ 0 then (.error x.cause, s1)
      else
        (.ok { bytes := (x.bytes ++ List.replicate n 0).take n, poison := if x.poison then some (a / 64 * 64) else none, level := l.level }, s1)
    | (none, s1) => (.ok { bytes := List.replicate n 0, poison := none }, s1)
  else
    let x := s.readHere l a n
    (.ok x.1, x.2)

/-- A read of the pieces of a range under translation (R110, R124, R135). -/
def State.readPieces (s : State) (w : Who) (r : Right) : List (Nat × Nat) → Except MemFault Got × State
  | [] => (.ok { bytes := [], poison := none }, s)
  | (a, n) :: ps =>
    match translate s w r a with
    | (.error c, s1) => (.error { addr := a, cause := c }, s1)
    | (.ok l, s1) =>
      match s1.readPiece w r l a n with
      | (.error c, s2) => (.error { addr := a, cause := c }, s2)
      | (.ok x, s2) =>
        match s2.readPieces w r ps with
        | (.error f, s3) => (.error f, s3)
        | (.ok g, s3) => (.ok (x.append g), s3)

/-- A read of a range, whose data are at hand at once. -/
def State.readRange (s : State) (w : Who) (r : Right) (va n : Nat) : Except MemFault Got × State :=
  match s.readPieces w r (linePieces va n) with
  | (.ok g, s1) => (.ok g, s1)
  | (.error f, s1) => (.error (f.from_ va), s1)

/-- The notifies of poisoned lines that a step waits for (R135). -/
def State.awaitNotifies (s : State) (w : Who) : List Nat → State
  | [] => s
  | a :: as =>
    (s.await { part := w.part, job := w.job.getD 0, dst := 0, cargo := .notify (BitVec.ofNat 64 a), stage := .wanted }).2.awaitNotifies
      w as

/-- A read of the dispatcher, of admission, of a code fill or of the control port, which waits for what the data wait for. -/
def State.readVirtual (s : State) (w : Who) (r : Right) (va n : Nat) : Except MemFault Got × State :=
  match s.readRange w r va n with
  | (.ok g, s1) => (.ok g, s1.awaitNotifies w g.shared)
  | (.error f, s1) => (.error f, s1)

/-- The pieces of a byte range by 64 KiB pages: address and length of each. -/
def pagePieces (va n : Nat) : List (Nat × Nat) :=
  if n = 0 then []
  else
    (upFrom (va / 65536) ((va + n - 1) / 65536 - va / 65536 + 1)).map
      (fun p => (max va (65536 * p), min (va + n) (65536 * p + 65536) - max va (65536 * p)))

/-- The first address of a range in each of its 64 KiB pages. -/
def pagesOf (va n : Nat) : List Nat := (pagePieces va n).map Prod.fst

/-- The first byte of a piece of a page that is not owned memory, when its first byte is: the owned half of a stack may end inside
a page (R18, R109). -/
def firstUnowned (h : Health) (p : Partition) (ppa n : Nat) : Option Nat :=
  if (physicalOf h p (ppa + n - 1)).isSome then none
  else (p.dieList[field ppa 39 36]?).map (fun d => hbmHalf h d - ppa % 2 ^ 36)

/-- A piece of a page with the leaf that maps it. -/
structure PageLeaf where
  addr : Nat
  len  : Nat
  leaf : Leaf
  deriving DecidableEq, Repr

/-- The leaves that map the pages of a range, or the first fault among them, with no effect on memory (R55). A leaf of another module
serves an access for a job only (log 52). -/
def State.mapPages (s : State) (w : Who) (r : Right) : List (Nat × Nat) → Except MemFault (List PageLeaf) × State
  | [] => (.ok [], s)
  | (a, n) :: as =>
    match translate s w r a with
    | (.error c, s1) => (.error { addr := a, cause := c }, s1)
    | (.ok l, s1) =>
      let bad : Option MemFault :=
        if l.foreign then (if w.job.isNone then some { addr := a, cause := 3 } else none)
        else (firstUnowned s1.health (s1.part w.part) l.ppa n).map (fun k => { addr := a + k, cause := 9 })
      match bad with
      | some f => (.error f, s1)
      | none =>
        match s1.mapPages w r as with
        | (.error f, s2) => (.error f, s2)
        | (.ok ls, s2) => (.ok ({ addr := a, len := n, leaf := l } :: ls), s2)

/-- The first fault among the pages of a range. -/
def State.checkPages (s : State) (w : Who) (r : Right) (as : List (Nat × Nat)) : Option MemFault × State :=
  match s.mapPages w r as with
  | (.error f, s1) => (some f, s1)
  | (.ok _, s1) => (none, s1)

/-- The leaf of an address that lies in the page of another. -/
def PageLeaf.at_ (x : PageLeaf) (a : Nat) : Leaf :=
  { x.leaf with ppa := x.leaf.ppa + (a - x.addr), phys := x.leaf.phys + (a - x.addr) }

/-- The line pieces of mapped pages, each with its leaf. -/
def lineLeaves (ls : List PageLeaf) : List PageLeaf :=
  ls.flatMap (fun x => (linePieces x.addr x.len).map (fun p => { addr := p.1, len := p.2, leaf := x.at_ p.1 }))

/-- Bytes written by a writer under mapped lines of this module, with no further translation (R55). -/
def State.writeMapped (s : State) (w : Who) (poison : Bool) : List PageLeaf → List Byte → State
  | [], _ => s
  | x :: xs, bs =>
    (s.writePiece w x.leaf x.addr (pieceMask x.addr x.len) (padLine x.addr (bs.take x.len)) poison none).writeMapped w poison xs
      (bs.drop x.len)

/-- Mapped lines of this module read, with no further translation (R55). -/
def State.readMapped (s : State) : List PageLeaf → Got × State
  | [] => ({ bytes := [], poison := none }, s)
  | x :: xs =>
    let g := s.readHere x.leaf x.addr x.len
    let r := g.2.readMapped xs
    (g.1.append r.1, r.2)

/-! ## Kiln lines (R117, R133) -/

/-- The poisoned words in a kiln range. -/
def Die.kilnPoison (d : Die) (off n : Nat) : Bool :=
  d.badWords.any (fun w => decide (off / 8 ≤ w) && decide (w ≤ (off + n - 1) / 8))

/-- Words whose every byte is written are clean unless the data are poisoned; a word written in part keeps its poison. -/
def wordsAfter (bad : List Nat) (off n : Nat) (poison : Bool) : List Nat :=
  (upFrom (off / 8) ((off + n + 7) / 8 - off / 8)).foldl
    (fun b w =>
      if poison then addTo w b
      else if decide (off ≤ 8 * w) && decide (8 * w + 8 ≤ off + n) then dropFrom w b else b) bad

/-- Bytes stored into kiln memory, with the pre-images of their lines logged first (R90, R119). -/
def State.writeKiln (s : State) (w : Who) (die off : Nat) (bs : List Byte) (poison : Bool) : State :=
  let lg := logicalDie (s.part w.part) die
  let s1 := (linePieces off bs.length).foldl
    (fun s p =>
      let base := p.1 / 64 * 64
      let d := s.die die
      s.logLine w (2 ^ 40 + die * 2 ^ 19 + base / 64) (1024 + 64 * die + field base 12 7)
        (logRecord 2 (d.kilnPoison base 64) 0 (lg * 2 ^ 25 + base) (readBytes d.kiln base 64))) s
  s1.mapDie die (fun d =>
    { d with kiln := writeBytes d.kiln off bs, badWords := wordsAfter d.badWords off bs.length poison })

end Sys2Proof.Machine
end

