-- ==== Sys2Proof/Machine/Ops.lean ====
section
/-! DEFINITION. The named operations over a tile: registers, ports, latches, tokens, semaphores, completions, the tile
store, the reservation table and the digest; taking an event and returning from one (R226 to R242). -/

namespace Sys2Proof.Machine

/-! ## Registers (R207 to R210, R236) -/

/-- The physical register behind window register j (R210). -/
def physicalReg (wb j : Nat) : Nat := (wb + j) % 160

/-- s0 to s31 as the running level sees them (R236). -/
def Tile.readS (t : Tile) (r : Nat) : Word :=
  if r < 8 then mget 0 t.sGlobal r
  else if t.level ≠ .task && decide (24 ≤ r) then mget 0 t.handler.s (r - 24)
  else mget 0 t.sWindow (physicalReg t.wb (r - 8))

def Tile.writeS (t : Tile) (r : Nat) (v : Word) : Tile :=
  if r < 8 then { t with sGlobal := mset 0 t.sGlobal r v }
  else if t.level ≠ .task && decide (24 ≤ r) then
    t.setHandler { t.handler with s := mset 0 t.handler.s (r - 24) v }
  else { t with sWindow := mset 0 t.sWindow (physicalReg t.wb (r - 8)) v }

/-- p0 to p15 as the running level sees them (R236). -/
def Tile.readP (t : Tile) (k : Nat) : Bool :=
  if t.level ≠ .task && k = 14 then t.handler.p14
  else if t.level ≠ .task && k = 15 then t.handler.p15
  else predicate t.p k

/-- A move of bit b into predicate k (R209). -/
def Tile.writeP (t : Tile) (k : Nat) (b : Bool) : Tile :=
  if t.level ≠ .task && k = 14 then t.setHandler { t.handler with p14 := b, p15 := !b }
  else if t.level ≠ .task && k = 15 then t.setHandler { t.handler with p15 := b }
  else { t with p := setPredicate t.p k b }

/-! ## Ports and latches -/

/-- A tile operand port of the running level, by its code (R199, R237). -/
def Tile.port (t : Tile) (c : Nat) : Word := mget 0 (t.unitsAt t.level).ports c

def Tile.setPort (t : Tile) (c : Nat) (v : Word) : Tile :=
  let u := t.unitsAt t.level
  t.setUnitsAt t.level { u with ports := mset 0 u.ports c v }

/-- A tile result latch of the running level, by its code. -/
def Tile.result (t : Tile) (c : Nat) : Word := mget 0 (t.unitsAt t.level).results c

def Tile.setResult (t : Tile) (l : Level) (c : Nat) (v : Word) : Tile :=
  let u := t.unitsAt l
  t.setUnitsAt l { u with results := mset 0 u.results c v }

/-- A cluster operand port, by its code. -/
def Tile.vport (t : Tile) (c p : Nat) : Vec := mget 0 (t.cluster c).ports p

/-- The lanes of a cluster operand port that are on take the value (R203). -/
def Tile.setVport (t : Tile) (c p : Nat) (lanes : BitVec 16) (v : Vec) : Tile :=
  let k := t.cluster c
  t.setCluster c { k with ports := mset 0 k.ports p (mixLanes lanes v (mget 0 k.ports p)) }

/-- A cluster result latch takes the lanes that were on (R203). -/
def Tile.setVresult (t : Tile) (c p : Nat) (lanes : BitVec 16) (v : Vec) : Tile :=
  let k := t.cluster c
  t.setCluster c { k with results := mset 0 k.results p (mixLanes lanes v (mget 0 k.results p)) }

/-- A flight record added on the units of the running level. -/
def Tile.launchFlight (t : Tile) (f : Flight) : Tile :=
  let u := t.unitsAt t.level
  t.setUnitsAt t.level { u with flights := u.flights ++ [f] }

/-! ## Whose code runs -/

/-- The monitor instance that MONITOR_LOAD or RESUME started (R52). -/
def Tile.isMonitorTask (t : Tile) : Bool := match t.task with | some k => k.work == .monitor | none => false

/-- Code that runs at S level (R58). -/
def Tile.isS (t : Tile) : Bool := t.level == .monitor || t.isMonitorTask

/-- Code of a handler (R236). -/
def Tile.inHandler (t : Tile) : Bool := t.level != .task

/-- The deterministic mode of R100 and R348, to which S-level code is not subject. -/
def Tile.deterministic (t : Tile) : Bool :=
  !t.isS && (match t.task with | some k => k.determ | none => false)

def Tile.clock (t : Tile) : Nat := match t.task with | some k => k.clock | none => 0

/-- A serial re-execution (R99). -/
def Tile.serial (t : Tile) : Bool := match t.task with | some k => k.serial | none => false

/-- Fixed timing (R220, R99). -/
def Tile.fixed (t : Tile) : Bool := decide (t.clock ≠ 0) || t.serial

/-- The base and length of the code section that code targets name (R317). -/
def State.codeSection (s : State) : Nat × Nat :=
  let t := s.here
  if t.isS then ((s.part t.part).mbase.toNat, (s.part t.part).total)
  else match t.task with
    | some k => (k.codeBase, k.codeLen)
    | none => (0, 0)

/-- A legal code target (R317). -/
def State.legalTarget (s : State) (x : Word) : Bool := decide (x.toNat % 4 = 0) && decide (x.toNat < s.codeSection.2)

/-- Who makes the accesses of a tile's code. -/
def Tile.who (t : Tile) (n : Nat) : Who :=
  { part := t.part, job := t.task.map Task.job, user := !t.isS, die := dieOf n, tile := some n }

/-- The clock cycles that a tile has counted (R218). -/
def Tile.cycles (t : Tile) : Word := t.icyc + t.hcyc + t.fcyc

/-! ## Completions, tokens and semaphores -/

/-- A user completion queued, or left waiting for room (R157, R240), while the task runs or waits for its switch-out. After
END none is (R242). -/
def Tile.complete (t : Tile) (c : Completion) : Tile :=
  if t.phase ≠ .running ∧ t.phase ≠ .leaving then t
  else if t.done.length < 16 && t.doneWait.isEmpty then { t with done := t.done ++ [c] }
  else { t with doneWait := t.doneWait ++ [c] }

def Tile.token (t : Tile) (k : Nat) : Token := mget .empty t.tokens k

/-- The completion of an armed token (R240). -/
def tokenCompletion (k : Nat) (x : Token) : Completion :=
  { cause := 1, info := BitVec.ofNat 64 (k * 2 ^ 8 + (if x = .faulted then 2 ^ 16 else 0)) }

/-- A token takes a state; an armed token that leaves PENDING queues its event (R152, R240). -/
def Tile.setToken (t : Tile) (k : Nat) (x : Token) : Tile :=
  let t1 := { t with tokens := mset .empty t.tokens k x }
  if t.token k = .pending ∧ x ≠ .pending ∧ t.karm.getLsbD k then
    { t1 with karm := putBit t1.karm k false }.complete (tokenCompletion k x)
  else t1

def Tile.sema (t : Tile) (k : Nat) : Lane := mget 0 t.semas k

/-- Whether a count has reached a threshold (R240, R333). -/
def reached (count threshold : Lane) : Bool := decide ((count - threshold).toNat < 2 ^ 31)

/-- The arming condition tested (R240). -/
def Tile.testSemarm (t : Tile) : Tile :=
  let k := field t.semarm.toNat 37 32
  if t.semarm.getLsbD 38 && reached (t.sema k) (BitVec.setWidth 32 t.semarm) then
    { t with semarm := putBit t.semarm 38 false }.complete
      { cause := 2, info := BitVec.ofNat 64 (k * 2 ^ 32 + (t.sema k).toNat) }
  else t

/-- A semaphore takes a count, and the arming rule is tested (R343). -/
def Tile.setSema (t : Tile) (k : Nat) (v : Lane) : Tile := { t with semas := mset 0 t.semas k v }.testSemarm

def Tile.addSema (t : Tile) (k n : Nat) : Tile := t.setSema k (t.sema k + BitVec.ofNat 32 n)

/-! ## The tile store (R111 to R116, R324) -/

/-- The bank of an offset (R111). -/
def bankOf (o : Nat) : Nat := field o 10 6

/-- The banks that a byte range touches, as a set. -/
def banksOf (o n : Nat) : BitVec 32 :=
  (upFrom (o / 64) ((o + n + 63) / 64 - o / 64)).foldl (fun m l => m ||| BitVec.twoPow 32 (l % 32)) 0

/-- The banks in the reservation table (R115). -/
def Tile.reservedBanks (t : Tile) : BitVec 32 := t.reserved.foldl (fun m r => m ||| r.2) 0

/-- Whether a range meets a poisoned word. -/
def Tile.poisonedAt (t : Tile) (o n : Nat) : Bool :=
  t.badWords.any (fun w => decide (o / 8 ≤ w) && decide (w ≤ (o + n - 1) / 8))

/-- The line of the lowest poisoned word a range meets: the one that INFO names where a range holds several poisoned lines, as that of a qld may
(R360, DESIGN CHOICE, log 78). -/
def Tile.poisonLine (t : Tile) (o n : Nat) : Nat :=
  ((t.badWords.filter (fun w => decide (o / 8 ≤ w) && decide (w ≤ (o + n - 1) / 8))).headD 0) / 8 * 64

/-- Bytes stored into the tile store; a whole word written is clean (R324). -/
def Tile.storeBytes (t : Tile) (o : Nat) (bs : List Byte) : Tile :=
  { t with store := writeBytes t.store o bs, badWords := wordsAfter t.badWords o bs.length false }

/-! ## Digests (R96, R97) -/

/-- The bytes of a write that fall into one granule, unwritten bytes zero, and the mask of those written. -/
def granuleOf (a : Nat) (bs : List Byte) (g : Nat) : List Byte × Nat :=
  let inside (i : Nat) := decide (a ≤ g + i) && decide (g + i < a + bs.length)
  ((upFrom 0 8).map (fun i => if inside i then nth 0 bs (g + i - a) else 0),
    ((upFrom 0 8).map (fun i => if inside i then 2 ^ i else 0)).sum)

/-- The fold of one write into a digest: the sum of the CRC-64 of each granule's record (R96). -/
def foldWrite (a : Nat) (bs : List Byte) (kind operand : Nat) : Word :=
  if bs.isEmpty then 0
  else
    (upFrom (a / 8) ((a + bs.length - 1) / 8 - a / 8 + 1)).foldl
      (fun d g =>
        let (data, mask) := granuleOf a bs (8 * g)
        d + BitVec.ofNat 64 (crc64 (toBytes 8 (8 * g) ++ data ++ toBytes 8 (mask + 2 ^ 8 * kind + 2 ^ 16 * operand)))) 0

/-- The tile whose task digest a tile's writes fold into: the one its spawners lead to (R85), by fuel. -/
def State.digestTile (s : State) : Nat → Nat → Nat
  | 0, n => n
  | k + 1, n =>
    match (s.tile n).task.map Task.work with
    | some (.spawned b) => s.digestTile k b
    | _ => n

/-- A value folded into the digest of a tile's task. -/
def State.fold (s : State) (n : Nat) (d : Word) : State :=
  s.mapTile (s.digestTile 64 n) (fun t => { t with digest := t.digest + d })

/-! ## Events (R226 to R242) -/

/-- The code of an event (R226). -/
def EventCode.number : EventCode → Nat
  | .illegalEncoding => 0x01
  | .illegalOperation => 0x02
  | .tileStoreBounds => 0x03
  | .misalignment => 0x04
  | .invalidShapeRecord => 0x05
  | .invalidCopyIssue => 0x06
  | .copyFault => 0x07
  | .poisonConsumed => 0x08
  | .waitTimeout => 0x09
  | .spillMapFull => 0x0A
  | .spawnTargetBusy => 0x0B
  | .matrixOperandOverlap => 0x0C
  | .codeFetchFixed => 0x0D
  | .strictTimingHold => 0x0E
  | .trap => 0x0F
  | .userCompletion => 0x10
  | .preemption => 0x11
  | .privilege => 0x12
  | .quireOverflow => 0x13
  | .tokenFault => 0x14

/-- The resume rule at entry: continue after a trap, none after poison, else retry (R226, R230). -/
def EventCode.resume : EventCode → Nat
  | .trap => 1
  | .poisonConsumed => 2
  | _ => 0

/-- The event word (R230). -/
def eventWord (e : Event) (fromUser : Bool) : Word :=
  BitVec.ofNat 64 (e.code.number + 2 ^ 8 * e.cause.toNat + (if fromUser then 2 ^ 20 else 0) + 2 ^ 22 * e.code.resume
    + 2 ^ 24 * e.bus.toNat + 2 ^ 32 * e.trig.toNat)

/-- The level that handles an event (R226): U for a completion when the object declares a handler, else S. -/
def Tile.handlingLevel (t : Tile) (e : Event) : Level :=
  if e.code = .userCompletion ∧ (t.task.bind Task.handler).isSome then .user else .monitor

/-- A cause that rolls back the job of a tile's task (R86, R94). -/
def State.rollTask (s : State) (n : Nat) (c : RollbackCause) : State :=
  match (s.tile n).task with
  | none => s
  | some k =>
    if k.work = .monitor then s
    else s.addCause { part := k.part, job := k.job, addr := 0, what := .rollback c }

/-- Entry 0x8023 of a COPY_FAULT of cause 1 to 10 (R137). -/
def State.logCopyFault (s : State) (n : Nat) (e : Event) : State :=
  if e.code = .copyFault ∧ e.cause ≠ 0 then
    let idx := match (s.tile n).task with | some k => k.index | none => 0
    s.logTile 0x8023 (e.cause.toNat + 2 ^ 32 * (idx % 2 ^ 24)) e.info.toNat (s.tile n).part n
  else s

/-- The first armed event latches its tile and sets T for every other block (R249). -/
def State.snapshotEvent (s : State) (e : Event) : State :=
  if s.snapshot.mask.getLsbD e.code.number then
    { s with snapshot := { s.snapshot with mask := 0, due := some (s.timeBase + 1000), early := some (s.cur, s.here) } }
  else s

/-- A synchronous event in an S handler or a monitor instance stops the tile (R239). -/
def State.doubleFault (s : State) (e : Event) : State :=
  let t := s.here
  let s1 := s.logTile 0x8030 (eventWord e (t.level == .user)).toNat 0 t.part s.cur
  let s2 := s1.mapHere (fun t => { t with phase := .halted, lastEvent := eventWord e (t.level == .user), held := none, holds := 0 })
  s2.rollTask s.cur .taskFault

/-- An address as pc holds it, a multiple of 4 (R276). -/
def wordAligned (v : Word) : Word := v &&& ~~~3

/-- Entry into a handler level (R229): EPC, event word and INFO saved, the level's port set zeroed, 4 frozen cycles, pc at
the level's vector. -/
def Tile.enter (t : Tile) (l : Level) (e : Event) (epc vector : Word) : Tile :=
  let w := eventWord e (t.level == .user)
  let old := if l = .monitor then t.monitor else t.user
  let h : Handler :=
    { active := true, s := mset 0 (mset 0 old.s 6 w) 7 e.info, p14 := old.p14, p15 := old.p15, epc := epc, word := w,
      info := e.info, units := {} }
  let t1 := { t with
    level := l, pc := vector, fcyc := t.fcyc + 4, lastEvent := w, held := none, holds := 0 }
  if l = .monitor then { t1 with monitor := h } else { t1 with user := h }

/-- The copy commands that an event reports, and those whose handler returns (R128). -/
def Tile.reportCopy (t : Tile) (id : Nat) : Tile :=
  { t with copies := t.copies.map (fun c => if c.id = id ∧ c.phase = .suspended then { c with phase := .reported } else c) }

/-- The bank set of a command that goes on enters the reservation table again, when it had left it (R115). -/
def Tile.reenter (t : Tile) (id : Nat) (banks : BitVec 32) : Tile :=
  { t with
    matrix := { t.matrix with leaving := t.matrix.leaving.filter (fun x => x != id) }
    reserved := if banks = 0 ∨ t.reserved.any (fun r => r.1 == id) = true then t.reserved else t.reserved ++ [(id, banks)] }

/-- A suspended command restarts at its faulting chunk: it redoes every chunk from there whose bit is 0, while those started below
go on (R128, R160). What has been folded is not folded again (R96, log 54). -/
def CopyCmd.restart (c : CopyCmd) : CopyCmd :=
  { c with
    phase := .running
    started := min c.started c.redo
    lost := c.lost &&& BitVec.ofNat 256 (2 ^ c.redo - 1)
    moves := c.moves.map (fun m => if m.chunk < c.redo then m else { chunk := m.chunk, folded := m.folded }) }

def Tile.resumeCopies (t : Tile) : Tile :=
  (t.copies.filter (fun c => c.phase == .reported)).foldl (fun t c => t.reenter c.id (BitVec.ofNat 32 (field c.shape.toNat 159 128)))
    { t with copies := t.copies.map (fun c => if c.phase = .reported then c.restart else c) }

/-- Taking an event, with EPC given (R226 to R231, R239): the one way in which any event is taken. An asynchronous one enters
the S handler of a monitor instance, in which no handler runs; any other event stops it. -/
def takeEvent (e : Event) (epc : Word) (s : State) : State :=
  let t := s.here
  let s1 := (s.logCopyFault s.cur e).snapshotEvent e
  if t.level = .monitor ∨ (t.isMonitorTask ∧ e.late = false) then s1.doubleFault e
  else
    let l := t.handlingLevel e
    let vector :=
      if l = .user then (match t.task with
        | some k => BitVec.ofNat 64 (k.codeBase + k.handler.getD 0)
        | none => 0)
      else (s.part t.part).svec
    let s2 := s1.mapHere (fun t => (t.enter l e epc vector).reportCopy e.cmd)
    if e.code = .poisonConsumed then s2.rollTask s.cur .taskFault else s2

/-- The task of a tile ends without retiring (R86). -/
def State.terminate (s : State) (n : Nat) : State :=
  (s.mapTile n (fun t => { t with phase := .terminated, level := .task, done := [], doneWait := [] })).rollTask n .taskFault

/-- Whether a job is being stopped by a rollback or has failed (R87, R95). -/
def Job.stopsTasks (j : Job) : Bool := j.state == .draining || j.state == .replaying || j.state == .failed

/-- Code of a stopped job that goes on in its U handler: its remote writes and posts are discarded like those that stood in its queues
(R95 step 1, R239). -/
def State.silent (s : State) : Bool :=
  s.here.level == .user && s.here.task.any (fun k => ((s.part k.part).job k.job).stopsTasks)

/-- A tile with its task and everything of it discarded (R95 step 1). Its code store stays. -/
def Tile.discarded (t : Tile) : Tile :=
  { code := t.code.map (fun x => (x.1, x.2.map (fun l => { l with pinned := false }))), stretch := t.stretch,
    user := { s := t.user.s }, monitor := { s := t.monitor.s } }

/-- Return from the running handler (R229, R231, R239, R332): its records and ports go, 3 frozen cycles pass, and the
interrupted code goes on at EPC, unless RES ends the task, the task has ended, or a rollback takes the tile. -/
def returnFromEvent (s : State) : State :=
  let t := s.here
  let h := t.handler
  let back := if t.level = .monitor ∧ h.word.getLsbD 20 then Level.user else Level.task
  let h1 := { h with active := false, units := {} }
  let t1 := { (t.setHandler h1) with level := back, pc := h.epc, fcyc := t.fcyc + 3 }
  let s1 := s.setHere (if t.level = .monitor then t1.resumeCopies else t1)
  let stops : Bool := match t.task with | some k => ((s.part k.part).job k.job).stopsTasks && decide (k.work ≠ .monitor) | none => false
  if stops then
    ((s1.strand s1.here.strays).setHere s1.here.discarded).addCause { part := t.part, job := (t.task.map Task.job).getD 0, addr := 0, what := .gone }
  else if 2 ≤ field h.word.toNat 23 22 then s1.terminate s.cur
  else s1

/-! ## Helpers for checks -/

/-- ILLEGAL_OPERATION of a cause; its INFO is the D field, which the bundle fills in (R226, R241). -/
def illegalOp (cause : Nat) : Event := { code := .illegalOperation, cause := BitVec.ofNat 8 cause }

def misaligned (info : Word) : Event := { code := .misalignment, info := info }

def copyFaultEvent (cause : Nat) (info : Word) : Event := { code := .copyFault, cause := BitVec.ofNat 8 cause, info := info }

/-- The events whose condition holds, in order. -/
def eventsOf (cs : List (Bool × Event)) : List Event := (cs.filter Prod.fst).map Prod.snd

/-- The first event of a list of checks, as the only one. -/
def firstEvent (cs : List (Bool × Event)) : List Event := (eventsOf cs).take 1

end Sys2Proof.Machine
end

