-- ==== Sys2Proof/Machine/Operands.lean ====
section
/-! DEFINITION. What a move carries: its guard, its source in each domain, and its write into a register or operand port
(R196 to R203, R209, R281 to R285). -/

namespace Sys2Proof.Machine

/-- What a move carries: the value of a tile bus, or for each cluster it reaches the value and the lanes that are on. -/
structure Moved where
  word  : Word
  parts : List (Nat × Vec × BitVec 16)
  deriving DecidableEq, Repr

/-- The value and lanes a move carries in a cluster. -/
def Moved.part (v : Moved) (c : Nat) : Option (Vec × BitVec 16) := (v.parts.find? (fun x => x.1 == c)).map Prod.snd

/-- The immediate of a short or long form as a signed number of 64 bits (R283). -/
def immediate : Source → Word
  | .short v => BitVec.signExtend 64 v
  | .long v => BitVec.signExtend 64 v
  | _ => 0

/-- A source of the tile domain (R209, R303, R305). -/
def Tile.source (t : Tile) : Source → Word
  | .reg r => if r.val < 0x20 then t.readS r.val else flagWord (t.readP (r.val - 0x20))
  | .result p =>
    if p.toNat < 0x40 then t.result (0x100 + p.toNat)
    else BitVec.setWidth 64 (mget 0 (t.cluster ((p.toNat - 0x40) / 4)).results (0x100 + (p.toNat - 0x40) % 4))
  | .short v => immediate (.short v)
  | .long v => immediate (.long v)

/-- A source of the cluster domain in one cluster (R209, R283, R305). -/
def Cluster.source (k : Cluster) : Source → Vec
  | .reg r => if r.val < 0x20 then mget 0 k.v r.val else maskValue (laneMask k.m (r.val - 0x20))
  | .result p => mget 0 k.results (0x100 + p.toNat)
  | .short v => splat (BitVec.setWidth 32 (immediate (.short v)))
  | .long v => splat v

/-- A guard on a tile bus (R281). -/
def Tile.guard (t : Tile) : Guard → Bool
  | .always => true
  | .test k inv => t.readP k.val != inv

/-- A guard in a cluster: the lanes that are on (R281). -/
def Cluster.guard (k : Cluster) : Guard → BitVec 16
  | .always => 0xFFFF
  | .test i inv => if inv then ~~~laneMask k.m i.val else laneMask k.m i.val

/-- The clusters a bus reaches: its own, or every cluster in use for a fan bus (R198). -/
def Tile.reach (t : Tile) : Bus → List Nat
  | .tile _ => []
  | .cluster c _ => [c.val]
  | .fan _ => (upFrom 0 8).filter (fun c => t.inUse.testBit c)

/-- What a move carries; none when its tile-bus guard is false (R203). -/
def Tile.moved (t : Tile) (m : Move) : Option Moved :=
  if m.bus.isTile then
    if t.guard m.guard then some { word := t.source m.src, parts := [] } else none
  else
    some { word := 0, parts := (t.reach m.bus).map (fun c => (c, (t.cluster c).source m.src, (t.cluster c).guard m.guard)) }

/-- A tile-bus write of the register or port with a destination code (R209, R304). -/
def Tile.writeCode (t : Tile) (d : Nat) (v : Word) : Tile :=
  if d < 0x20 then t.writeS d v
  else if d < 0x30 then t.writeP (d - 0x20) (v.getLsbD 0)
  else if d < 0x140 then t.setPort d v
  else t.setVport ((d - 0x140) / 8) (tileWritable ((d - 0x140) % 8)) 0xFFFF (splat (BitVec.setWidth 32 v))

/-- A cluster-bus write of the register or port with a destination code, under the lanes that are on (R203, R209). -/
def Tile.writeCluster (t : Tile) (c d : Nat) (v : Vec) (lanes : BitVec 16) : Tile :=
  let k := t.cluster c
  if d < 0x20 then t.setCluster c { k with v := mset 0 k.v d (mixLanes lanes v (mget 0 k.v d)) }
  else if d < 0x30 then t.setCluster c { k with m := setMask k.m (d - 0x20) lanes (maskBits v) }
  else t.setVport c d lanes v

/-- The write of a move that triggers nothing. -/
def Tile.write (t : Tile) (m : Move) (d : Nat) (v : Moved) : Tile :=
  if m.bus.isTile then t.writeCode d v.word
  else v.parts.foldl (fun t x => t.writeCluster x.1 d x.2.1 x.2.2) t

/-- The write of a trigger into its unit's port a (R200, R349); units without one keep nothing (R311). -/
def Tile.writePortA (t : Tile) (m : Move) (d : Nat) (v : Moved) : Tile :=
  match (unitOf m.bus.isTile d).bind portA with
  | some p => if m.bus.isTile then t.setPort p v.word else v.parts.foldl (fun t x => t.setVport x.1 p x.2.2 x.2.1) t
  | none => t

/-- The write of any move of a bundle: a register, a port, or the port a of what it triggers. -/
def Tile.writeMove (t : Tile) (m : Move) (d : Nat) (v : Moved) : Tile :=
  if d < 0x180 then t.write m d v else t.writePortA m d v

end Sys2Proof.Machine
end

