-- ==== Sys2Proof/Machine/Flights.lean ====
section
/-! DEFINITION. Work in flight: the quires as vq operations make them visible, tile-store perform points, arrivals,
deferred events and redirects (R171 to R173, R191, R202, R205, R211 to R214, R227, R324, R357 to R361, R367). -/

namespace Sys2Proof.Machine

/-! ## Quires (R357 to R361) -/

/-- The quires of every cluster. -/
abbrev Quires := SMap (SMap Quire)

def quireAt (qs : Quires) (c q l : Nat) : Quire := mget 0 (mget [] qs c) (16 * q + l)

def setQuire (qs : Quires) (c q l : Nat) (v : Quire) : Quires :=
  mset [] qs c (mset 0 (mget [] qs c) (16 * q + l) v)

/-- The quires as the clusters hold them. -/
def Tile.baseQuires (t : Tile) : Quires :=
  (upFrom 0 8).foldl (fun qs c => mset [] qs c (t.cluster c).q) []

/-- A field of the format word (R307). -/
def fmtField (w : Lane) (i : Nat) : Nat := field w.toNat (4 * i + 3) (4 * i)

/-- The decoded elements of lane l of a vector in a format. -/
def laneValues (f : Nat) (v : Vec) (l : Nat) : List Value :=
  (upFrom (32 / fmtWidth f * l) (32 / fmtWidth f)).map (fun e => decodePosit (elem (fmtWidth f) v e) f)

def sumValues (vs : List Value) : Value := vs.foldl vadd (some (Dyadic.ofInt 0))

/-- The exact total of a list of quires, by qadd from zero (R359). -/
def quireTotal (qs : List Quire) : Quire := qs.foldl (fun t q => qadd t (qval q)) 0

/-- What a vq operation puts into lane l of its quire (R358 to R360), seeing `cur` of its own cluster and, for qxadd,
`pre` of every cluster in use. -/
def quireEffect (inUse : Nat) (pre cur : Quires) (k : QuireStep) (l : Nat) : Quire :=
  let q := quireAt cur k.clus k.q l
  match k.op with
  | .qclr => 0
  | .qmac =>
    qadd q (sumValues (List.zipWith vmul (laneValues (fmtField k.fmt 1) k.a l) (laneValues (fmtField k.fmt 2) k.b l)))
  | .qadd => qadd q (sumValues (laneValues (fmtField k.fmt 1) k.a l))
  | .qsub => qadd q (vneg (sumValues (laneValues (fmtField k.fmt 1) k.a l)))
  | .qld => match k.image with | some qs => nth 0 qs l | none => q
  | .qxadd => quireTotal (((upFrom 0 8).filter (fun c => inUse.testBit c)).map (fun c => quireAt pre c k.q l))
  | .qred => quireTotal ((upFrom 0 16).map (fun l => quireAt cur k.clus k.q l))
  | .qrnd | .qsav | .qovf => q

/-- One operation applied to the lanes that are on. -/
def quireStep (inUse : Nat) (pre cur : Quires) (k : QuireStep) : Quires :=
  (upFrom 0 16).foldl
    (fun qs l => if k.lanes.getLsbD l then setQuire qs k.clus k.q l (quireEffect inUse pre cur k l) else qs) cur

/-- The quires before and after a list of operations in trigger order: those before the bundle of the last one, and those
after it (R357, R359). -/
structure QuireFold where
  issue : Nat
  pre   : Quires
  cur   : Quires
  deriving DecidableEq, Repr

def foldQuire (inUse : Nat) (f : QuireFold) (k : QuireStep) : QuireFold :=
  let pre := if k.issue = f.issue then f.pre else f.cur
  { issue := k.issue, pre := pre, cur := quireStep inUse pre f.cur k }

def Tile.foldQuires (t : Tile) (ks : List QuireStep) : QuireFold :=
  ks.foldl (foldQuire t.inUse) { issue := 0, pre := t.baseQuires, cur := t.baseQuires }

/-- What the i-th pending operation sees: the quires before its bundle and before itself. -/
def Tile.quiresFor (t : Tile) (i : Nat) : QuireFold :=
  let f := t.foldQuires (t.quires.take i)
  match t.quires[i]? with
  | some k => if k.issue = f.issue then f else { f with pre := f.cur }
  | none => f

/-- The quires a tile's clusters would hold once every pending operation has taken effect (R357). -/
def Tile.visibleQuires (t : Tile) : Quires := (t.foldQuires t.quires).cur

/-- An operation that writes its quire (R358). -/
def QuireOp.changes (o : QuireOp) : Bool := o != .qrnd && o != .qsav && o != .qovf

/-- The i-th operation of a tile's list has taken effect: its effect point has passed, and so has that of every earlier one
that writes its quire (R232, R357). -/
def Tile.tookEffect (t : Tile) (i : Nat) : Bool :=
  match t.quires[i]? with
  | some k => k.done && !(t.quires.take i).any (fun x => !x.done && x.op.changes && x.clus == k.clus && x.q == k.q)
  | none => false

/-- One lane of a quire as the operations that have taken effect leave it. -/
def Tile.shownQuire (t : Tile) (c q l : Nat) : Quire :=
  (List.range t.quires.length).foldl
    (fun v i =>
      match t.quires[i]? with
      | some k =>
        if t.tookEffect i && k.clus == c && k.q == q && k.lanes.getLsbD l then
          quireEffect t.inUse (t.quiresFor i).pre (t.quiresFor i).cur k l
        else v
      | none => v) (quireAt t.baseQuires c q l)

/-- A lane of a quire set: operations that have not taken effect still come after it (R341). -/
def Tile.putQuire (t : Tile) (c q l : Nat) (v : Quire) : Tile :=
  let passed := (List.range t.quires.length).filter (fun i =>
    t.tookEffect i && (match t.quires[i]? with | some k => k.clus == c && k.q == q | none => false))
  match passed.getLast?.bind (fun i => (t.quires[i]?).map (fun k => (i, k))) with
  | none =>
    let k := t.cluster c
    t.setCluster c { k with q := mset 0 k.q (16 * q + l) v }
  | some (i, k) =>
    let put : QuireStep :=
      { k with op := .qld, lanes := BitVec.twoPow 16 l, remain := 0, perf := none, image := some (List.replicate 16 v), done := true }
    { t with quires := t.quires.take (i + 1) ++ put :: t.quires.drop (i + 1) }

/-- One value rounded and repeated in every element of a lane (R358). -/
def repeatLane (f : Nat) (x : Value) : Lane :=
  BitVec.ofNat 32 (ofElems (fmtWidth f) (List.replicate (32 / fmtWidth f) (roundPosit x f)))

/-- What a vq operation delivers into vq.res, when it does (R358, R359, R361). -/
def quireResult (inUse : Nat) (f : QuireFold) (k : QuireStep) : Option Vec :=
  let each (g : Nat → Lane) : Option Vec := some (ofLanes ((upFrom 0 16).map g))
  match k.op with
  | .qrnd => each (fun l => repeatLane (fmtField k.fmt 3) (qval (quireAt f.cur k.clus k.q l)))
  | .qxadd | .qred => each (fun l => repeatLane (fmtField k.fmt 3) (qval (quireEffect inUse f.pre f.cur k l)))
  | .qovf => each (fun l => if quireAt f.cur k.clus k.q l = quireNar then 0xFFFFFFFF else 0)
  | _ => none

/-- qovf raises its event: EN is set and some lane that is on holds NaR (R361). -/
def quireOverflow (f : QuireFold) (k : QuireStep) : Bool :=
  k.op == .qovf && k.a.getLsbD 0
    && (upFrom 0 16).any (fun l => k.lanes.getLsbD l && decide (quireAt f.cur k.clus k.q l = quireNar))

/-- The offset of a save or load (R360). -/
def QuireStep.offset (k : QuireStep) : Nat := (lane k.a 0).toNat

/-- The leading operations whose effect points have all passed, by whole bundles, go into the clusters' quires. -/
def Tile.commitQuires (t : Tile) : Tile :=
  let open_ := (t.quires.filter (fun k => !k.done)).map QuireStep.issue
  match open_.head? with
  | none =>
    let qs := t.visibleQuires
    { (if t.quires.isEmpty then t else
        (upFrom 0 8).foldl (fun t c => t.setCluster c { t.cluster c with q := mget [] qs c }) t) with quires := [] }
  | some n =>
    let front := t.quires.takeWhile (fun k => decide (k.issue < n))
    if front.isEmpty then t
    else
      let qs := (t.foldQuires front).cur
      { ((upFrom 0 8).foldl (fun t c => t.setCluster c { t.cluster c with q := mget [] qs c }) t) with
        quires := t.quires.drop front.length }

/-! ## Perform points (R112, R171 to R173) -/

/-- The order in which stores of one bundle take effect: a fan move counts as its cluster's own bus (R172). -/
def storeRank (bus clus : Nat) : Nat := if 40 ≤ bus then 4 * clus + (bus - 40) else bus

/-- A store that performs: its rank and its byte runs in order. -/
structure StoreRun where
  rank : Nat
  runs : List (Nat × List Byte)
  deriving DecidableEq, Repr

/-- Whether the runs write every byte of a 64-bit word. -/
def StoreRun.covers (r : StoreRun) (w : Nat) : Bool :=
  (upFrom (8 * w) 8).all (fun b => r.runs.any (fun x => decide (x.1 ≤ b) && decide (b < x.1 + x.2.length)))

/-- One store access performed; it clears the poison of each word that it writes whole (R324, R367). -/
def Tile.performRun (t : Tile) (r : StoreRun) : Tile :=
  let t1 := r.runs.foldl (fun t x => t.storeBytes x.1 x.2) t
  { t1 with badWords := t1.badWords.filter (fun w => !r.covers w) }

/-- Insertion by rank; equal ranks keep their order. -/
def insertRun (r : StoreRun) : List StoreRun → List StoreRun
  | [] => [r]
  | x :: xs => if r.rank < x.rank then r :: x :: xs else x :: insertRun r xs

def Flight.due (f : Flight) : Bool := f.perf == some 0

/-- What a flight record's store writes. -/
def Flight.run (f : Flight) : Option StoreRun :=
  match f.body with
  | .store o n v => some { rank := storeRank f.bus.toNat f.clus, runs := [(o, toBytes n v.toNat)] }
  | .scatter os lanes v =>
    some { rank := storeRank f.bus.toNat f.clus,
           runs := ((upFrom 0 16).filter (fun l => lanes.getLsbD l)).map
             (fun l => ((nth 0 os l).toNat, toBytes 4 (lane v l).toNat)) }
  | _ => none

/-- What a flight record's load has read once it performs: the result, or the poison it met (R324, R367). Of several poisoned lines that
the lanes of a vm load meet, INFO names that of the lowest lane (DESIGN CHOICE, log 78). -/
def Flight.loaded (t : Tile) (f : Flight) : Flight :=
  match f.body with
  | .load o n sg =>
    let v := ofBytes (readBytes t.store o n)
    { f with
      perf := none
      body := if t.poisonedAt o n then .poisoned (BitVec.ofNat 64 (t.poisonLine o n))
        else .result 0x103 (BitVec.ofNat 64 (if sg then wrap 64 (signed (8 * n) v) else v)) }
  | .gather os lanes =>
    let bad := os.filter (fun o => t.poisonedAt o.toNat 4)
    { f with
      perf := none
      body := match bad with
        | o :: _ => .poisoned (BitVec.ofNat 64 (t.poisonLine o.toNat 4))
        | [] => .vector 0x104 lanes (ofLanes (os.map (fun o => BitVec.ofNat 32 (ofBytes (readBytes t.store o.toNat 4))))) }
  | _ => f

/-- The bytes a save writes: the lane images that are on (R360). -/
def saveRuns (f : QuireFold) (k : QuireStep) : List (Nat × List Byte) :=
  ((upFrom 0 16).filter (fun l => k.lanes.getLsbD l)).map
    (fun l => (k.offset + 128 * l, quireBytes (quireAt f.cur k.clus k.q l)))

/-- What a load of a quire reads; a poisoned word makes every lane NaR (R360). -/
def loadImage (t : Tile) (k : QuireStep) : List Quire :=
  (upFrom 0 16).map
    (fun l => if t.poisonedAt k.offset 2048 then quireNar else quireOfBytes (readBytes t.store (k.offset + 128 * l) 128))

/-- Every load of the cycle reads, then every store of the cycle writes (R171, R172). -/
def Tile.perform (t : Tile) (l : Level) : Tile :=
  let u := t.unitsAt l
  let own := l == .task
  let saves := if own then
      (List.range t.quires.length).filterMap (fun i =>
        match t.quires[i]? with
        | some k =>
          if k.op = .qsav ∧ k.perf = some 0 then
            some ({ rank := storeRank k.bus.toNat k.clus, runs := saveRuns (t.quiresFor i) k } : StoreRun)
          else none
        | none => none)
    else []
  let stores := ((u.flights.filter Flight.due).filterMap Flight.run ++ saves).foldl (fun rs r => insertRun r rs) []
  let left := (u.flights.filter (fun f => !(f.due && f.run.isSome))).map (fun f => if f.due then f.loaded t else f)
  let qs := t.quires.map (fun k =>
    if own && k.perf == some 0 then
      if k.op = .qld then
        { k with perf := none, image := some (loadImage t k)
                 bad := if t.poisonedAt k.offset 2048 then some (BitVec.ofNat 64 (t.poisonLine k.offset 2048)) else none }
      else { k with perf := none, done := k.done || k.op == .qsav }
    else k)
  let t1 := { (t.setUnitsAt l { u with flights := left }) with quires := qs }
  stores.foldl Tile.performRun t1

/-! ## Accesses before a command's first access (R115, R178) -/

/-- An access still to perform that touches a bank of a set. -/
def Flight.touches (banks : BitVec 32) (f : Flight) : Bool :=
  match f.body with
  | .load o n _ => (banksOf o n &&& banks) != 0
  | .store o n _ => (banksOf o n &&& banks) != 0
  | .gather os _ => os.any (fun o => (banksOf o.toNat 4 &&& banks) != 0)
  | .scatter os _ _ => os.any (fun o => (banksOf o.toNat 4 &&& banks) != 0)
  | _ => false

def QuireStep.touches (banks : BitVec 32) (k : QuireStep) : Bool := (banksOf k.offset 2048 &&& banks) != 0

/-- The perform counts of the task's accesses changed. -/
def Tile.shiftAccesses (t : Tile) (g : Nat → Nat) : Tile :=
  { t with
    units := { t.units with flights := t.units.flights.map (fun f => { f with perf := f.perf.map g }) }
    quires := t.quires.map (fun k => { k with perf := k.perf.map g }) }

/-- The latest perform point of the task's accesses to a set of banks; none when none is to perform there. -/
def Tile.lastAccess (t : Tile) (banks : BitVec 32) : Option Nat :=
  ((t.units.flights.filter (Flight.touches banks)).filterMap Flight.perf
    ++ (t.quires.filter (QuireStep.touches banks)).filterMap QuireStep.perf).max?

/-- The accesses to a command's banks that were issued before its set entered the table perform before its first access.
Later ones are held, so these are all that touch its banks (R115, R116, R178). The accesses whose perform points come no
later go before them, so that program order stands (R173). -/
def Tile.performBefore (t : Tile) (banks : BitVec 32) : Tile :=
  match t.lastAccess banks with
  | none => t
  | some n =>
    let one (t : Tile) : Tile := (t.perform .task).shiftAccesses (fun p => p - 1)
    let kept (p : Nat) : Nat := if p ≤ n then p else p + 8
    let first := (upFrom 0 (n + 1)).foldl (fun t _ => one t) (t.shiftAccesses kept)
    first.shiftAccesses (fun p => p - (8 - (n + 1)))

/-! ## Arrivals (R202) -/

/-- What reaches its latch or register when its count ends. Redirects and ENDs are applied by the sequencer. -/
def Tile.deliver (t : Tile) (l : Level) (f : Flight) : Tile :=
  match f.body with
  | .result p v => t.setResult l p v
  | .message d s => (t.setResult l 0x108 d).setResult l 0x109 s
  | .vector p lanes v => t.setVresult f.clus p lanes v
  | .scale v => t.setCluster f.clus { t.cluster f.clus with scale := v }
  | _ => t

/-- Records that the sequencer applies itself. -/
def Flight.isSequence (f : Flight) : Bool := match f.body with | .redirect _ _ => true | .ending => true | _ => false

/-- The cluster latch that a record's result enters. -/
def Flight.latch (f : Flight) : Option (Nat × Nat) := match f.body with | .vector p _ _ => some (f.clus, p) | _ => none

/-- The results that arrive in one cycle: of two for one latch only the later trigger's (R202). -/
def prevailing : List Flight → List Flight
  | [] => []
  | f :: fs => if f.latch.isSome && fs.any (fun g => g.latch == f.latch) then prevailing fs else f :: prevailing fs

/-- A vq operation whose effect point has come and is not passed. -/
def QuireStep.due (k : QuireStep) : Bool := k.remain == 0 && !k.done && k.perf.isNone

/-- An operation that delivers into vq.res (R358). -/
def QuireOp.delivers (o : QuireOp) : Bool := o == .qrnd || o == .qxadd || o == .qred || o == .qovf

/-- Results of vq operations that fall due, delivered and marked done. Of two for one latch in a cycle only the later
trigger's is seen (R202). -/
def Tile.arriveQuire (t : Tile) (i : Nat) : Tile :=
  match t.quires[i]? with
  | none => t
  | some k =>
    if k.due then
      let hidden := (t.quires.drop (i + 1)).any (fun x => x.due && x.op.delivers && x.clus == k.clus)
      let t1 := match quireResult t.inUse (t.quiresFor i) k with
        | some v => if hidden then t else t.setVresult k.clus 0x102 k.lanes v
        | none => t
      { t1 with quires := setNth { k with done := true } t.quires i }
    else t

/-- The start of an issue cycle: perform points, then arrivals in trigger order. -/
def Tile.arrive (t : Tile) (l : Level) : Tile :=
  let t1 := t.perform l
  let u := t1.unitsAt l
  let isDue (f : Flight) := f.remain == 0 && f.perf.isNone && !f.isSequence
  let t2 := (prevailing (u.flights.filter isDue)).foldl (fun t f => t.deliver l f)
    (t1.setUnitsAt l { u with flights := u.flights.filter (fun f => !isDue f) })
  if l = .task then
    ((upFrom 0 t2.quires.length).foldl (fun t i => t.arriveQuire i) t2).commitQuires
  else t2

/-! ## Deferred events (R227, R241 item 1) -/

/-- A deferred event due in this cycle: what the records become, and its place in the order of R241. -/
structure Deferred where
  unit  : Nat
  clus  : Nat
  event : Event
  tile  : Tile
  deriving DecidableEq, Repr

def deferredEvent (code : EventCode) (info bundle : Word) (bus : BitVec 8) : Event :=
  { code := code, info := info, bus := bus, trig := BitVec.setWidth 32 bundle }

/-- The poisoned results that arrive in this cycle. -/
def Tile.deferredFlights (t : Tile) (l : Level) : List Deferred :=
  let u := t.unitsAt l
  (List.range u.flights.length).filterMap (fun i =>
    match u.flights[i]? with
    | some f =>
      match f.body with
      | .poisoned info =>
        if f.remain = 0 then
          some { unit := f.unit, clus := f.clus, event := deferredEvent .poisonConsumed info f.bundle f.bus,
                 tile := t.setUnitsAt l { u with flights := delNth u.flights i } }
        else none
      | _ => none
    | none => none)

/-- A quire load that meets poison at its perform point, or met it before a command's first access (R115) and has come to that
point, four cycles before its effect; and an overflow report that finds NaR (R360, R361). -/
def Tile.deferredQuires (t : Tile) : List Deferred :=
  (List.range t.quires.length).filterMap (fun i =>
    match t.quires[i]? with
    | some k =>
      if k.op = .qld ∧ k.perf = some 0 ∧ t.poisonedAt k.offset 2048 then
        some { unit := 18, clus := k.clus,
               event := deferredEvent .poisonConsumed (BitVec.ofNat 64 (t.poisonLine k.offset 2048)) k.bundle k.bus,
               tile := { t with quires := setNth { k with perf := none, image := some (loadImage t k) } t.quires i } }
      else if k.remain ≤ 4 ∧ k.bad.isSome then
        some { unit := 18, clus := k.clus, event := deferredEvent .poisonConsumed (k.bad.getD 0) k.bundle k.bus,
               tile := { t with quires := setNth { k with bad := none } t.quires i } }
      else if k.remain = 0 ∧ k.done = false ∧ quireOverflow ((t.perform .task).quiresFor i) k then
        some { unit := 18, clus := k.clus,
               event := deferredEvent .quireOverflow (BitVec.ofNat 64 (k.q + 2 * k.clus)) k.bundle k.bus,
               tile := { t with quires := setNth { k with done := true } t.quires i } }
      else none
    | none => none)

/-- The least of a list of deferred events by unit and cluster; an earlier one prevails. -/
def leastDeferred : List Deferred → Option Deferred
  | [] => none
  | d :: ds =>
    match leastDeferred ds with
    | none => some d
    | some e => if e.unit < d.unit || (e.unit == d.unit && decide (e.clus < d.clus)) then some e else some d

/-- The deferred event a tile takes in this cycle. Results whose load performs in this very cycle arrive later. -/
def Tile.deferred (t : Tile) : Option Deferred :=
  leastDeferred (t.deferredFlights t.level ++ (if t.level = .task then t.deferredQuires else []))

/-! ## Redirects, windows and the spill engine (R191, R210 to R214) -/

/-- The registers that resident records and the visible window hold (R212). -/
def Tile.occupied (t : Tile) : Nat := 24 + t.frames.sum

/-- The spill slots in the order in which they are taken (R212). -/
def Tile.slots (t : Tile) : List SpillEntry :=
  ((upFrom 0 8).filter (fun c => !t.inUse.testBit c)).flatMap
      (fun c => (upFrom 0 8).map (fun k => { f := 0, loc := false, clus := c, slot := k, off := 0 }))
    ++ (match t.task with
      | some k => k.spill.flatMap (fun r => (upFrom 0 (r.2 / 256)).map
          (fun j => { f := 0, loc := true, clus := 0, slot := 0, off := r.1 + 256 * j }))
      | none => [])

def sameSlot (a b : SpillEntry) : Bool := a.loc == b.loc && a.clus == b.clus && a.slot == b.slot && a.off == b.off

/-- The first free slot. -/
def Tile.freeSlot (t : Tile) : Option SpillEntry :=
  t.slots.find? (fun x => !t.spillMap.any (fun e => decide (e.f ≠ 0) && sameSlot e x))

/-- The spill-map entry that the oldest resident record would take; none when the map is full or no slot is free. -/
def Tile.parkEntry (t : Tile) : Option SpillEntry :=
  match t.frames with
  | [] => none
  | f :: _ =>
    if 16 ≤ t.spillMap.length then none
    else if f = 0 then some { f := 0, loc := false, clus := 0, slot := 0, off := 0 }
    else t.freeSlot.map (fun x => { x with f := f })

/-- The registers of a record: f words from a physical base. -/
def Tile.recordWords (t : Tile) (base f : Nat) : List Word := (upFrom 0 f).map (fun j => mget 0 t.sWindow (physicalReg base j))

/-- The physical base of the oldest resident record. -/
def Tile.oldestBase (t : Tile) : Nat := (t.wb + 160 * 48 - t.frames.sum) % 160

/-- The vector of a slot as its 256 bytes, or the tile-store bytes. -/
def Tile.writeSlot (t : Tile) (e : SpillEntry) (ws : List Word) : Tile :=
  let bs := ws.flatMap (fun w => toBytes 8 w.toNat)
  if e.loc then t.storeBytes e.off bs
  else
    let k := t.cluster e.clus
    let old := (upFrom 0 4).flatMap (fun i => toBytes 64 (mget 0 k.v (4 * e.slot + i)).toNat)
    let new := bs ++ old.drop bs.length
    let put (v : SMap Vec) (i : Nat) := mset 0 v (4 * e.slot + i) (BitVec.ofNat 512 (ofBytes ((new.drop (64 * i)).take 64)))
    t.setCluster e.clus { k with v := (upFrom 0 4).foldl put k.v }

def Tile.readSlot (t : Tile) (e : SpillEntry) : List Word :=
  let bs := if e.loc then readBytes t.store e.off (8 * e.f)
    else (upFrom 0 4).flatMap (fun i => toBytes 64 (mget 0 (t.cluster e.clus).v (4 * e.slot + i)).toNat)
  (upFrom 0 e.f).map (fun j => BitVec.ofNat 64 (ofBytes ((bs.drop (8 * j)).take 8)))

/-- The oldest resident record parked (R212). -/
def Tile.park (t : Tile) : Tile :=
  match t.parkEntry with
  | none => t
  | some e =>
    let t1 := if e.f = 0 then t else t.writeSlot e (t.recordWords t.oldestBase e.f)
    { t1 with frames := t.frames.drop 1, spillMap := t.spillMap ++ [e] }

/-- A call of frame size f needs room (R212). -/
def Tile.mustPark (t : Tile) (f : Nat) : Bool :=
  !t.frames.isEmpty && (decide (160 < t.occupied + f) || decide (48 < t.frames.length + 1))

/-- Records parked while a call needs room, by fuel. -/
def Tile.parkFor (t : Tile) (f : Nat) : Nat → Tile
  | 0 => t
  | n + 1 => if t.mustPark f then (if t.parkEntry.isSome then t.park.parkFor f n else t) else t


/-- A call takes effect at its target: the record, the window and the link in the callee's s31 (R211, R326). -/
def Tile.applyCall (t : Tile) (f : Nat) (link : Word) : Tile :=
  let t1 := t.parkFor f 48
  ({ t1 with frames := t1.frames ++ [f], wb := (t1.wb + f) % 160 }).writeS 31 link

/-- A return takes effect at its target: the newest record, resident or filled from the spill map (R211, R213). -/
def Tile.applyRet (t : Tile) : Tile :=
  match t.frames.getLast? with
  | some f => { t with frames := t.frames.dropLast, wb := (t.wb + 160 - f) % 160 }
  | none =>
    match t.spillMap.getLast? with
    | none => t
    | some e =>
      let wb := (t.wb + 160 - e.f) % 160
      let ws := if e.f = 0 then [] else t.readSlot e
      { t with
        spillMap := t.spillMap.dropLast, wb := wb
        sWindow := (List.range ws.length).foldl (fun m j => mset 0 m (physicalReg wb j) (nth 0 ws j)) t.sWindow }

/-- A redirect applied at the start of its issue cycle (R191). -/
def Tile.applyRedirect (t : Tile) (f : Flight) : Tile :=
  match f.body with
  | .redirect target turn =>
    let t1 : Tile := { t with pc := target }
    match turn with
    | .jump => t1
    | .call n link => t1.applyCall n link
    | .ret => t1.applyRet
  | _ => t

/-- The records, window and map as the redirects on their way will leave them. -/
def Tile.afterRedirects (t : Tile) : Tile := (t.unitsAt t.level).flights.foldl Tile.applyRedirect t

/-- Room for a call cannot be made, once the calls and returns triggered before it have taken effect (R213). -/
def Tile.spillFull (t : Tile) (f : Nat) : Bool := (t.afterRedirects.parkFor f 48).mustPark f

/-- The redirects due in this cycle. -/
def Tile.dueRedirects (t : Tile) : List Flight :=
  (t.unitsAt t.level).flights.filter (fun f => f.remain == 0 && (match f.body with | .redirect _ _ => true | _ => false))

/-- The bytes of the tile store that parking or filling a map entry accesses. -/
def SpillEntry.range (e : SpillEntry) : List (Nat × Nat) := if e.loc && decide (e.f ≠ 0) then [(e.off, 8 * e.f)] else []

/-- Whether the redirect due holds the tile to park or to fill (R213), and the bytes of the tile store that this accesses. -/
def Tile.spillHold (t : Tile) : Option (List (Nat × Nat)) :=
  match t.dueRedirects.map Flight.body with
  | .redirect _ (.call f _) :: _ =>
    if t.mustPark f && t.parkEntry.isSome then
      some (((t.parkFor f 48).spillMap.drop t.spillMap.length).flatMap SpillEntry.range)
    else none
  | .redirect _ .ret :: _ =>
    if t.frames.isEmpty then
      match t.spillMap.getLast? with
      | some e => some e.range
      | none => none
    else none
  | _ => none

/-- The whole start of an issue cycle: perform points, arrivals, redirects. -/
def Tile.start (t : Tile) : Tile :=
  let t1 := t.arrive t.level
  let u := t1.unitsAt t1.level
  let due := t1.dueRedirects
  due.foldl Tile.applyRedirect
    (t1.setUnitsAt t1.level
      { u with flights := u.flights.filter (fun f => !(f.remain == 0 && (match f.body with | .redirect _ _ => true | _ => false))) })

/-- The return address of a call whose redirect is now due: the pc its delay bundles leave, as an offset into its code
section, whose base the record held until then (R326). -/
def Flight.linked (pc : Word) (f : Flight) : Flight :=
  match f.body with
  | .redirect target (.call n base) => if f.remain = 0 then { f with body := .redirect target (.call n (pc - base)) } else f
  | _ => f

def Tile.linkCalls (t : Tile) : Tile :=
  let u := t.unitsAt t.level
  t.setUnitsAt t.level { u with flights := u.flights.map (Flight.linked t.pc) }

/-- One issue cycle counted off every record of the running level (R232, R235). -/
def Flight.counted (f : Flight) : Flight := { f with remain := f.remain - 1, perf := f.perf.map (fun p => p - 1) }

def Tile.countDown (t : Tile) : Tile :=
  let u := t.unitsAt t.level
  let t1 := t.setUnitsAt t.level { u with flights := u.flights.map Flight.counted }
  if t.level = .task then
    { t1 with quires := t1.quires.map (fun k => { k with remain := k.remain - 1, perf := k.perf.map (fun p => p - 1) }) }
  else t1

end Sys2Proof.Machine
end

