-- ==== Sys2Proof/Machine/Engine.lean ====
section
/-! DEFINITION. What the engines of a tile share: tokens bound and produced (R152, R153), the reservation table, and the
matrix engine's commands, channel, arithmetic and drain (R115, R219, R261 to R265, R372 to R385). -/

namespace Sys2Proof.Machine

/-! ## Tokens of commands (R152, R153) -/

/-- The consumed tokens of a control word: NC in [25:24], then C0, C1 and C2 (R140, R375). -/
def consumed (ctl : Word) : List Nat :=
  ([field ctl.toNat 11 6, field ctl.toNat 17 12, field ctl.toNat 23 18]).take (field ctl.toNat 25 24)

def produced (ctl : Word) : Nat := field ctl.toNat 5 0

/-- The producers that consumed tokens bind to, and whether one of the tokens is FAULTED (R153). -/
def Tile.bindTokens (t : Tile) (ks : List Nat) : List Nat × Bool :=
  ((ks.filter (fun k => t.token k == .pending)).map (fun k => mget 0 t.producers k), ks.any (fun k => t.token k == .faulted))

/-- A consumed token EMPTY, else the produced one PENDING (R150, R383): the token that takes TOKEN_FAULT. -/
def Tile.tokenFault (t : Tile) (ctl : Word) : Option Nat :=
  match (consumed ctl).find? (fun k => t.token k == .empty) with
  | some k => some k
  | none => if t.token (produced ctl) = .pending then some (produced ctl) else none

/-- A command issued: its produced token becomes PENDING under its number. -/
def Tile.produce (t : Tile) (k id : Nat) : Tile :=
  let t1 := t.setToken k .pending
  { t1 with producers := mset 0 t1.producers k id, nextId := t.nextId + 1 }

/-- A producer that has completed, as its consumers see it. -/
def release (id : Nat) (ok : Bool) (waits : List Nat) (doomed : Bool) : List Nat × Bool :=
  (waits.filter (fun w => decide (w ≠ id)), doomed || (!ok && waits.contains id))

def MatrixCmd.released (c : MatrixCmd) (id : Nat) (ok : Bool) : MatrixCmd :=
  { c with waits := (release id ok c.waits c.doomed).1, doomed := (release id ok c.waits c.doomed).2 }

def CopyCmd.released (c : CopyCmd) (id : Nat) (ok : Bool) : CopyCmd :=
  { c with waits := (release id ok c.waits c.doomed).1, doomed := (release id ok c.waits c.doomed).2 }

/-- A command completes: its token becomes PRESENT or FAULTED and its consumers learn of it (R152, R153). -/
def Tile.finish (t : Tile) (id k : Nat) (ok : Bool) : Tile :=
  let t1 := t.setToken k (if ok then .present else .faulted)
  { t1 with
    copies := t1.copies.map (fun c => c.released id ok)
    matrix := { t1.matrix with
      channel := t1.matrix.channel.map (fun x => (x.1.released id ok, x.2))
      shadow := t1.matrix.shadow.map (fun c => c.released id ok) } }

/-- A command has made its last tile-store access, or has completed: its banks leave the table as the cycle ends (R115, R116). -/
def Tile.leave (t : Tile) (id : Nat) : Tile :=
  if t.matrix.leaving.contains id then t else { t with matrix := { t.matrix with leaving := t.matrix.leaving ++ [id] } }

/-- A bank set enters the reservation table (R115). -/
def Tile.reserve (t : Tile) (id : Nat) (banks : BitVec 32) : Tile :=
  if banks = 0 then t else { t with reserved := t.reserved ++ [(id, banks)] }

/-- A command leaves the reservation table. -/
def Tile.unreserve (t : Tile) (id : Nat) : Tile := { t with reserved := t.reserved.filter (fun r => decide (r.1 ≠ id)) }

/-! ## Fields of a matrix command (R374 to R377) -/

def MatrixCmd.klen (c : MatrixCmd) : Nat := field c.geo.toNat 15 0
def MatrixCmd.bank (c : MatrixCmd) : Nat := field c.geo.toNat 16 16
def MatrixCmd.asel (c : MatrixCmd) : Nat := field c.geo.toNat 18 18
def MatrixCmd.bsel (c : MatrixCmd) : Nat := 2 + field c.geo.toNat 19 19
def MatrixCmd.dr (c : MatrixCmd) : Nat := field c.geo.toNat 25 20
def MatrixCmd.dc (c : MatrixCmd) : Nat := field c.geo.toNat 31 26
def MatrixCmd.aoff (c : MatrixCmd) : Nat := field c.geo.toNat 47 32
def MatrixCmd.boff (c : MatrixCmd) : Nat := field c.geo.toNat 63 48
def MatrixCmd.fa (c : MatrixCmd) : Nat := field c.fmt.toNat 3 0
def MatrixCmd.fb (c : MatrixCmd) : Nat := field c.fmt.toNat 7 4
def MatrixCmd.ka (c : MatrixCmd) : Nat := field c.fmt.toNat 13 8
def MatrixCmd.kb (c : MatrixCmd) : Nat := field c.fmt.toNat 19 14
def MatrixCmd.pa (c : MatrixCmd) : Nat := field c.fmt.toNat 25 20
def MatrixCmd.pb (c : MatrixCmd) : Nat := field c.fmt.toNat 31 26
def MatrixCmd.df (c : MatrixCmd) : Nat := field c.fmt.toNat 35 32
def MatrixCmd.rf (c : MatrixCmd) : Nat := field c.fmt.toNat 39 36
def MatrixCmd.rv (c : MatrixCmd) : Bool := bit c.fmt.toNat 40
def MatrixCmd.pd (c : MatrixCmd) : Nat := field c.fmt.toNat 46 41
def MatrixCmd.dord (c : MatrixCmd) : Bool := bit c.fmt.toNat 47
def MatrixCmd.banks (c : MatrixCmd) : BitVec 32 := BitVec.setWidth 32 c.bnk
/-- A narrow pair has a 64 × 64 block, a wide pair 32 × 32 (R378). -/
def MatrixCmd.narrow (c : MatrixCmd) : Bool := pairNarrow c.fa c.fb
def MatrixCmd.side (c : MatrixCmd) : Nat := if c.narrow then 64 else 32
def MatrixCmd.width (c : MatrixCmd) : Nat := if c.narrow then 256 else 1024
def MatrixCmd.weight (c : MatrixCmd) : Nat := pairS c.fa c.fb
/-- Operations by their trigger codes: mma, mmd, mdrn, mclr, msave, mload (R374). -/
def MatrixCmd.multiplies (c : MatrixCmd) : Bool := c.op == 0x210 || c.op == 0x211
def MatrixCmd.drains (c : MatrixCmd) : Bool := c.op == 0x211 || c.op == 0x212
def MatrixCmd.toStore (c : MatrixCmd) : Bool := field c.dst.toNat 63 60 == 8
/-- Pitches in bytes, packed when zero (R381). -/
def MatrixCmd.pitch (c : MatrixCmd) : Nat :=
  let p := field c.bnk.toNat 47 32
  if p = 0 then (c.dc + 1) * (fmtWidth c.df / 8) else p
def MatrixCmd.residualPitch (c : MatrixCmd) : Nat :=
  let p := field c.bnk.toNat 63 48
  if p = 0 then (c.dc + 1) * (fmtWidth c.rf / 8) else p

/-- The closed form L (R219, R374). -/
def MatrixCmd.latency (c : MatrixCmd) : Nat :=
  let k := if c.narrow then c.klen else ceilDiv c.klen 4
  (if c.multiplies then 12 + ceilDiv k 8 * c.ka * ceilDiv c.kb 16 else 12)
    + (if c.drains || c.op == 0x214 || c.op == 0x215 then 64 else 0)

/-- Whether an operation's row names the bank port, whose set enters the table (R373, R374). -/
def MatrixCmd.entersBanks (c : MatrixCmd) : Bool := c.drains || c.op == 0x214 || c.op == 0x215

/-! ## Tile memory ranges a command touches -/

/-- The ranges of the tile store that a command writes, each by its offset and length (R381, R382). -/
def MatrixCmd.writes (c : MatrixCmd) : List (Nat × Nat) :=
  let o := c.dst.toNat % 2 ^ 21
  if c.drains && c.toStore then (upFrom 0 (c.dr + 1)).map (fun i => (o + i * c.pitch, (c.dc + 1) * (fmtWidth c.df / 8)))
  else if c.op = 0x214 then [(o, 131072)]
  else []

/-- The ranges of the tile store that a command reads. -/
def MatrixCmd.reads (c : MatrixCmd) : List (Nat × Nat) :=
  let o := c.rsd.toNat % 2 ^ 21
  if c.drains && c.rv then (upFrom 0 (c.dr + 1)).map (fun i => (o + i * c.residualPitch, (c.dc + 1) * (fmtWidth c.rf / 8)))
  else if c.op = 0x215 then [(o, 131072)]
  else []

/-- The bytes of a buffer that the groups of an operand take: n elements in groups of 64, p planes each (R379). -/
def groupBytes (n p : Nat) : Nat := ceilDiv n 64 * p * 8

/-! ## Arithmetic -/

/-- The extended addresses of R384's poisoned words: buffer b from 2^21 + 2^16 × b, accumulator slices after them. -/
def bufferBase (b : Nat) : Nat := 2 ^ 21 + 65536 * b
def sliceBase (bank slot : Nat) : Nat := 2 ^ 21 + 2 ^ 18 + 32 * (4096 * bank + slot)

/-- One element read in plane form (R265, R379). -/
def planeElement (buf : Memory) (base p off k es n : Nat) : Value :=
  let g := base + off + n / 64 * p * 8
  let b (j : Nat) := (readByte buf (g + 8 * j + n % 64 / 8)).getLsbD (n % 8)
  planeValue k es (b 0) ((upFrom 1 (k - 1)).foldl (fun m j => 2 * m + (if b j then 1 else 0)) 0)

/-- The accumulator bits of output (i, j): a slice or a gang of four (R263). -/
def MatrixCmd.slots (c : MatrixCmd) (i j : Nat) : List Nat :=
  if c.narrow then [64 * i + j] else upFrom (4 * (32 * i + j)) 4

def Tile.accumulator (t : Tile) (c : MatrixCmd) (i j : Nat) : Nat :=
  ofElems 256 ((c.slots i j).map (fun k => (mget 0 t.acc (4096 * c.bank + k)).toNat))

def putSlots (acc : SMap Slice) (bank : Nat) : List Nat → Nat → SMap Slice
  | [], _ => acc
  | k :: ks, v => putSlots (mset 0 acc (4096 * bank + k) (BitVec.ofNat 256 v)) bank ks (v / 2 ^ 256)

/-- One output accumulated over KLEN products (R380). -/
def Tile.multiply (t : Tile) (c : MatrixCmd) (i j : Nat) : Nat :=
  let start := if c.z.getLsbD 0 then some (Dyadic.ofInt 0) else accValue c.width c.weight (t.accumulator c i j)
  let total := (upFrom 0 c.klen).foldl
    (fun a k =>
      let x := planeElement t.buffers (65536 * c.asel) c.pa c.aoff c.ka (fmtEs c.fa) (k * c.side + i)
      let y := planeElement t.buffers (65536 * c.bsel) c.pb c.boff c.kb (fmtEs c.fb) (k * c.side + j)
      accValue c.width c.weight (accOf c.width c.weight (vadd a (vmul x y)))) start
  accOf c.width c.weight total

/-- The places of a block, row by row. -/
def places (rows cols : Nat) : List (Nat × Nat) := (upFrom 0 rows).flatMap (fun i => (upFrom 0 cols).map (fun j => (i, j)))

/-- The accumulation of mx.mma and mx.mmd, which writes every slice of the bank (R263, R380). -/
def Tile.accumulate (t : Tile) (c : MatrixCmd) : Tile :=
  let put (acc : SMap Slice) (p : Nat × Nat) : SMap Slice := putSlots acc c.bank (c.slots p.1 p.2) (t.multiply c p.1 p.2)
  { t with
    acc := (places c.side c.side).foldl put t.acc
    badWords := wordsAfter t.badWords (sliceBase c.bank 0) 131072 false }

/-- One drained output (R273, R381). -/
def Tile.output (t : Tile) (c : MatrixCmd) (i j : Nat) : Nat :=
  let rs := fmtWidth c.rf / 8
  let b := if c.rv then
      decodePosit (ofBytes (readBytes t.store (c.rsd.toNat % 2 ^ 21 + i * c.residualPitch + j * rs) rs)) c.rf
    else some (Dyadic.ofInt 0)
  let keep := !c.drp.getLsbD 24 ||
    keepbit c.seed.toNat ((field c.org.toNat 31 0 + i) % 2 ^ 32) ((field c.org.toNat 63 32 + j) % 2 ^ 32)
      (field c.drp.toNat 23 16) (field c.drp.toNat 15 0)
  drainOut (accValue c.width c.weight (t.accumulator c i j)) b
    (decodePosit (field c.scl.toNat 31 0) (field c.scl.toNat 35 32)) keep c.df

/-- One bit of a byte memory. -/
def writeMemBit (m : Memory) (byte i : Nat) (b : Bool) : Memory := writeByte m byte (putBit (readByte m byte) i b)

/-- Element n written into a buffer as its first p planes (R144, R381). -/
def putPlanes (buf : Memory) (base p n w x : Nat) : Memory :=
  (upFrom 0 p).foldl (fun m j => writeMemBit m (base + n / 64 * p * 8 + 8 * j + n % 64 / 8) (n % 8) (planeBit w x j)) buf

/-- A word of the tile store that a command writes whole, in a granule (R382). -/
def MatrixCmd.covers (c : MatrixCmd) (w : Nat) : Bool :=
  (upFrom (8 * w) 8).all (fun a => c.writes.any (fun r => decide (r.1 ≤ a) && decide (a < r.1 + r.2)))

/-- The drain, which reads every residual, in the tile as the command reads it, before it writes (R381). A poisoned word that it writes
whole is clean (R133). -/
def Tile.drain (t r : Tile) (c : MatrixCmd) : Tile :=
  let outs := (places (c.dr + 1) (c.dc + 1)).map (fun p => (p, r.output c p.1 p.2))
  let w := fmtWidth c.df
  if c.toStore then
    let t1 := outs.foldl (fun t o => t.storeBytes (c.dst.toNat % 2 ^ 21 + o.1.1 * c.pitch + o.1.2 * (w / 8)) (toBytes (w / 8) o.2)) t
    { t1 with badWords := t1.badWords.filter (fun w => !c.covers w) }
  else
    let b := field c.dst.toNat 17 16
    let base := 65536 * b + c.dst.toNat % 65536
    let put (m : Memory) (o : (Nat × Nat) × Nat) : Memory :=
      putPlanes m base c.pd (if c.dord then o.1.1 * c.side + o.1.2 else o.1.2 * c.side + o.1.1) w o.2
    { t with
      buffers := outs.foldl put t.buffers
      badWords := wordsAfter t.badWords (bufferBase b + c.dst.toNat % 65536) (groupBytes (c.side * c.side) c.pd) false }

/-- Save, load and clear of a bank (R382). -/
def Tile.saveBank (t : Tile) (c : MatrixCmd) : Tile :=
  (upFrom 0 4096).foldl
    (fun t k => t.storeBytes (c.dst.toNat % 2 ^ 21 + 32 * k) (toBytes 32 (mget 0 t.acc (4096 * c.bank + k)).toNat)) t

def Tile.loadBank (t r : Tile) (c : MatrixCmd) : Tile :=
  let put (a : SMap Slice) (k : Nat) : SMap Slice :=
    mset 0 a (4096 * c.bank + k) (BitVec.ofNat 256 (ofBytes (readBytes r.store (c.rsd.toNat % 2 ^ 21 + 32 * k) 32)))
  { t with
    acc := (upFrom 0 4096).foldl put t.acc
    badWords := wordsAfter t.badWords (sliceBase c.bank 0) 131072 false }

def Tile.clearBank (t : Tile) (c : MatrixCmd) : Tile :=
  { t with
    acc := clearTable t.acc (4096 * c.bank) (4096 * c.bank + 4096)
    badWords := wordsAfter t.badWords (sliceBase c.bank 0) 131072 false }
where
  clearTable (m : SMap Slice) (lo hi : Nat) : SMap Slice := m.filter (fun e => !(decide (lo ≤ e.1) && decide (e.1 < hi)))

/-- The words of the planes that a command reads of an operand: of each group of p planes the first k (R265, R379). -/
def planeWords (base n k p : Nat) : List (Nat × Nat) := (upFrom 0 (ceilDiv n 64)).map (fun g => (base + g * p * 8, 8 * k))

/-- The slices of the outputs that a drain reads, row by row (R381). -/
def MatrixCmd.drained (c : MatrixCmd) : List (Nat × Nat) :=
  (upFrom 0 (c.dr + 1)).map (fun i => (sliceBase c.bank ((c.slots i 0).headD 0), 32 * (if c.narrow then c.dc + 1 else 4 * (c.dc + 1))))

/-- The ranges a command reads, by extended address: residuals and an mload source, the planes in use of its operands, and
the slices it goes on from, drains or saves (R384). -/
def MatrixCmd.sources (c : MatrixCmd) : List (Nat × Nat) :=
  c.reads
    ++ (if c.multiplies then
          planeWords (bufferBase c.asel + c.aoff) (c.klen * c.side) c.ka c.pa
            ++ planeWords (bufferBase c.bsel + c.boff) (c.klen * c.side) c.kb c.pb
        else [])
    ++ (if (c.multiplies && !c.z.getLsbD 0) || c.op == 0x214 then [(sliceBase c.bank 0, 131072)]
        else if c.op = 0x212 then c.drained else [])

/-! ## What a running command reads (R177 to R179) -/

def Tile.opening (t : Tile) : Opened := { store := t.store, buffers := t.buffers, badWords := t.badWords }

/-- The tile with the memories of an opening, to read it by extended addresses. -/
def Opened.over (o : Opened) (t : Tile) : Tile := { t with store := o.store, buffers := o.buffers, badWords := o.badWords }

/-- The bytes of a range of the tile store or the operand buffers, by extended address. -/
def Tile.sourceBytes (t : Tile) (r : Nat × Nat) : List Byte :=
  if r.1 < 2 ^ 21 then readBytes t.store r.1 r.2 else readBytes t.buffers (r.1 - 2 ^ 21) r.2

/-- What a command reads stands as it stood at its start. -/
def Opened.steady (o : Opened) (t : Tile) (c : MatrixCmd) : Bool :=
  c.sources.all (fun r => (o.over t).sourceBytes r == t.sourceBytes r
    && (r.2 == 0 || (o.over t).poisonedAt r.1 r.2 == t.poisonedAt r.1 r.2))

/-- Each 8-byte granule from one of two memories. -/
def mixMemory (chosen : Nat → Bool) (old new : Memory) : Memory :=
  (old.filter (fun x => chosen (x.1 / 8))).foldl (fun m x => writeByte m x.1 x.2) (new.filter (fun x => !chosen (x.1 / 8)))

/-- The tile with each granule wholly old or wholly new by a free bit of its own. -/
def Tile.mixed (t : Tile) (o : Opened) (fresh : Nat) : Tile :=
  let old (w : Nat) : Bool := Config.freeBit (fresh + w)
  { t with
    store := mixMemory old o.store t.store
    buffers := mixMemory (fun w => old (2 ^ 18 + w)) o.buffers t.buffers
    badWords := o.badWords.filter (fun w => decide (w < 2 ^ 18 + 2 ^ 15) && old w)
                  ++ t.badWords.filter (fun w => decide (2 ^ 18 + 2 ^ 15 ≤ w) || !old w) }

/-- The tile as a command reads it: granules that another command has written since its start are old or new (R179). -/
def Tile.asRead (t : Tile) (c : MatrixCmd) (fresh : Nat) : Tile :=
  match t.matrix.opened with
  | some o => if o.steady t c then t else t.mixed o fresh
  | none => t

/-- The effect of a command on the tile t, read as the tile r. -/
def Tile.applyMatrix (t r : Tile) (c : MatrixCmd) : Tile :=
  let acc := (r.accumulate c).acc
  let wrote (t : Tile) : Tile := { t with acc := acc, badWords := wordsAfter t.badWords (sliceBase c.bank 0) 131072 false }
  if c.op = 0x210 then wrote t
  else if c.op = 0x211 then (wrote t).drain (wrote r) c
  else if c.op = 0x212 then t.drain r c
  else if c.op = 0x213 then t.clearBank c
  else if c.op = 0x214 then t.saveBank c
  else t.loadBank r c

/-- The ranges that a command writes in the tile store and the operand buffers, by extended address (R381, R382). -/
def MatrixCmd.written (c : MatrixCmd) : List (Nat × Nat) :=
  c.writes
    ++ (if c.drains && !c.toStore then
          [(bufferBase (field c.dst.toNat 17 16) + c.dst.toNat % 65536, groupBytes (c.side * c.side) c.pd)]
        else [])

/-- No other command has written a granule that a command writes since its start. -/
def Opened.untouched (o : Opened) (c : MatrixCmd) : Bool :=
  !c.written.any (fun r => o.touched.any (fun w => decide (r.1 < 8 * w + 8) && decide (8 * w < r.1 + r.2)))

def Tile.uncontested (t : Tile) (c : MatrixCmd) : Bool := match t.matrix.opened with | some o => o.untouched c | none => true

/-- Another command writes a range, by extended address, while a matrix command runs. -/
def Tile.touch (t : Tile) (a n : Nat) : Tile :=
  { t with matrix := { t.matrix with opened := t.matrix.opened.map (fun o =>
      { o with touched := addRange (a / 8) (ceilDiv (a + n) 8 - a / 8) o.touched }) } }

/-- The tile u that a command's results make of the tile t: a granule that another command has written since the start, and that this one
writes too, holds the whole of one of the two writes, by a free bit (R177, R382, log 16). -/
def Tile.contested (t u : Tile) (c : MatrixCmd) (fresh : Nat) : Tile :=
  if t.uncontested c then u
  else
    match t.matrix.opened with
    | none => u
    | some o =>
      let keeps (w : Nat) : Bool := o.touched.contains w && Config.freeBit (fresh + w)
      { u with
        store := mixMemory keeps t.store u.store
        buffers := mixMemory (fun w => keeps (2 ^ 18 + w)) t.buffers u.buffers
        badWords := (t.badWords.filter (fun w => decide (w < 2 ^ 18 + 2 ^ 15) && keeps w)).foldl (fun b w => addTo w b)
          (u.badWords.filter (fun w => decide (2 ^ 18 + 2 ^ 15 ≤ w) || !keeps w)) }

/-- Undefined bytes in a range of the tile store (log 16). -/
def Tile.scramble (t : Tile) (fresh : Nat) (r : Nat × Nat) : Tile :=
  { t with store := writeBytes t.store r.1 ((upFrom r.1 r.2).map (Config.freeByte fresh)) }

/-- The outcome of a command that read poison: the bank and the destination bytes are undefined (R384, log 16). -/
def Tile.poisonMatrix (t : Tile) (c : MatrixCmd) (fresh : Nat) : Tile :=
  let put (a : SMap Slice) (k : Nat) : SMap Slice :=
    mset 0 a k (BitVec.ofNat 256 (ofBytes ((upFrom (32 * k) 32).map (Config.freeByte (fresh + 1)))))
  let t1 : Tile := { t with acc := (upFrom (4096 * c.bank) 4096).foldl put t.acc }
  let t2 := c.writes.foldl (fun t r => t.scramble fresh r) t1
  if c.drains && !c.toStore then
    let a := 65536 * field c.dst.toNat 17 16 + c.dst.toNat % 65536
    { t2 with buffers := writeBytes t2.buffers a ((upFrom a (groupBytes (c.side * c.side) c.pd)).map (Config.freeByte fresh)) }
  else t2

/-- An asynchronous S-level event queued on a tile (R227). -/
def Tile.alarm (t : Tile) (e : Event) : Tile := { t with alarms := t.alarms ++ [e] }

/-- A tile's store with every local access to the banks of a command performed (R115, R178). -/
def Tile.entered (t : Tile) (c : MatrixCmd) : Tile := if c.entersBanks then t.performBefore c.banks else t

/-- A command retires at S + L (R373, R384). -/
def State.retireMatrix (s : State) (n : Nat) (c : MatrixCmd) : State :=
  let t := (s.tile n).entered c
  let r := t.asRead c s.fresh
  let fresh := if r = t then s.fresh else s.fresh + 2 ^ 19
  let t0 := ({ t with matrix := { t.matrix with channel := none, opened := none } } : Tile).leave c.id
  match c.sources.find? (fun x => r.poisonedAt x.1 x.2) with
  | some x =>
    let e : Event := { code := .poisonConsumed, info := BitVec.ofNat 64 (r.poisonLine x.1 x.2) }
    { s with fresh := fresh + 2 }.setTile n (((t0.poisonMatrix c fresh).finish c.id (produced c.ctl) false).alarm e)
  | none =>
    let u := t.contested (t0.applyMatrix r c) c fresh
    { s with fresh := if t.uncontested c then fresh else fresh + 2 ^ 19 }.setTile n (u.finish c.id (produced c.ctl) true)

/-- The next command moves from the shadow set into an empty channel (R372). -/
def Tile.advanceShadow (t : Tile) : Tile :=
  match t.matrix.channel, t.matrix.shadow with
  | none, c :: cs => { t with matrix := { t.matrix with channel := some (c, none), shadow := cs } }
  | _, _ => t

/-- A command in the channel starts when its tokens are satisfied and no pre-emption is asked (R373, R243). -/
def Tile.startMatrix (t : Tile) : Tile :=
  match t.matrix.channel with
  | some (c, none) =>
    if c.waits.isEmpty && !c.doomed && !t.matrix.preempt then
      { (if c.entersBanks then t.reserve c.id c.banks else t) with
        matrix := { t.matrix with channel := some (c, some c.latency), opened := some (t.entered c).opening } }
    else t
  | _ => t

/-- Commands whose token ended FAULTED retire faulted as they reach the channel (R384), by fuel. -/
def Tile.dropDoomed (t : Tile) : Nat → Tile
  | 0 => t
  | k + 1 =>
    match t.matrix.channel with
    | some (c, none) =>
      if c.doomed then
        (({ t with matrix := { t.matrix with channel := none } }.finish c.id (produced c.ctl) false).advanceShadow).dropDoomed k
      else t
    | _ => t

/-- The banks of the commands that completed leave the table. -/
def Tile.releaseBanks (t : Tile) : Tile :=
  t.matrix.leaving.foldl (fun t id => t.unreserve id) { t with matrix := { t.matrix with leaving := [] } }

/-- The commands that may start next, before a completion of this cycle reaches its consumers (R373). -/
def Tile.mayStart (t : Tile) (id : Nat) : Bool :=
  (match t.matrix.channel with | some (c, none) => c.id == id && c.waits.isEmpty | _ => false)
    || t.matrix.shadow.any (fun c => c.id == id && c.waits.isEmpty)

/-- The first count of a running command: the store that it reads holds every local access issued up to its entry (R178). -/
def Tile.firstCount (t : Tile) (c : MatrixCmd) (left : Nat) : Tile :=
  let o := (t.entered c).opening
  if left = c.latency then
    { t with matrix := { t.matrix with opened := t.matrix.opened.map (fun x => { o with buffers := x.buffers, touched := x.touched }) } }
  else t

/-- One cycle of the tile's clock for the matrix engine (R219, R373): the running command counts down and retires, and the
next one starts, if its tokens were satisfied before the cycle. -/
def State.matrixTick (s : State) (n : Nat) (before : Tile) : State :=
  let t := s.tile n
  let s2 :=
    match t.matrix.channel with
    | some (c, some left) =>
      if left ≤ 1 then s.retireMatrix n c
      else s.setTile n ({ t with matrix := { t.matrix with channel := some (c, some (left - 1)) } }.firstCount c left)
    | _ => s
  let t2 := ((s2.tile n).advanceShadow).dropDoomed 4
  match t2.matrix.channel with
  | some (c, none) => s2.setTile n (if before.mayStart c.id then t2.startMatrix else t2)
  | _ => s2.setTile n t2

end Sys2Proof.Machine
end

