-- ==== Sys2Proof/Machine/Context.lean ====
section
/-! DEFINITION. Flight records and the tile context as the manual lays them out, and writes into the context (R214, R232 to
R234, R246, R302 to R306, R340, R341, R385). -/

namespace Sys2Proof.Machine

/-! ## Flight records (R233, R234) -/

/-- One access, result or command as its records hold it: AUX and the payload of each part. -/
structure Record where
  unit   : Nat
  clus   : Nat
  op     : Nat
  kind   : Nat
  remain : Nat
  perf   : Nat
  parts  : List (Word × List Word)
  deriving DecidableEq, Repr

/-- A lane mask in its place in AUX: bits [79:64] of the header. -/
def laneAux (m : BitVec 16) : Word := BitVec.setWidth 64 m

/-- The bytes of the lanes that are on, as a byte mask. -/
def laneBytes (m : BitVec 16) : Word :=
  (upFrom 0 16).foldl (fun w l => if m.getLsbD l then w ||| BitVec.ofNat 64 (15 * 2 ^ (4 * l)) else w) 0

/-- A vector as the eight words of a payload. -/
def vecWords (v : Vec) : List Word := (upFrom 0 8).map (fun i => BitVec.extractLsb' (64 * i) 64 v)

/-- Lane offsets as a payload. -/
def offsetWords (os : List Lane) : List Word := vecWords (ofLanes os)

/-- The eight words of 64 bytes. -/
def byteWords (bs : List Byte) : List Word := vecWords (BitVec.ofNat 512 (ofBytes (bs.take 64)))

/-- Eight bytes or more cut into parts of 64. -/
def imageParts (aux : Nat → Word) (bs : List Byte) : List (Word × List Word) :=
  (upFrom 0 32).map (fun k => (aux k, byteWords (bs.drop (64 * k))))

/-- KIND and parts of a tile or cluster flight record; poisoned data are a free value, under AUX 0, and a message on its way to lk.res
and lk.src is one record with both (DESIGN CHOICE, log 61). -/
def Flight.shape (fresh : Nat) (f : Flight) : Nat × List (Word × List Word) :=
  match f.body with
  | .result _ v => (1, [(0, [v])])
  | .message d s => (1, [(0, [d, s])])
  | .vector _ lanes v => (1, [(laneAux lanes, vecWords v)])
  | .load o _ _ => (2, [(0, [BitVec.ofNat 64 o])])
  | .store o n v => (2, [(BitVec.ofNat 64 (2 ^ n - 1), [v, BitVec.ofNat 64 o])])
  | .gather os lanes => (2, [(laneAux lanes, offsetWords os)])
  | .scatter os lanes v => (2, [(laneBytes lanes, vecWords v), (0, offsetWords os)])
  | .scale v => (4, [(0, [BitVec.setWidth 64 v])])
  | .divider => (5, [(0, [])])
  | .redirect a _ => (3, [(0, [a])])
  | .ending => (7, [(0, [])])
  | .poisoned _ => (1, [(0, (upFrom 0 8).map (fun i => Config.freeWord (fresh + i)))])

def Flight.record (fresh : Nat) (f : Flight) : Record :=
  { unit := f.unit, clus := f.clus, op := f.op, kind := (f.shape fresh).1, remain := f.remain, perf := f.perf.getD 0
    parts := (f.shape fresh).2 }

/-- The trigger code of a vq operation (R310). -/
def QuireOp.code : QuireOp → Nat
  | .qclr => 0
  | .qmac => 1
  | .qadd => 2
  | .qsub => 3
  | .qrnd => 4
  | .qsav => 5
  | .qld => 6
  | .qxadd => 7
  | .qred => 8
  | .qovf => 9

/-- KIND and parts of a pending vq operation (R234). -/
def QuireStep.shape (t : Tile) (i : Nat) (k : QuireStep) : Nat × List (Word × List Word) :=
  match k.op with
  | .qsav =>
    let f := t.quiresFor i
    let bytes := (upFrom 0 16).flatMap (fun l => quireBytes (quireAt f.cur k.clus k.q l))
    (2, imageParts (fun p => if k.lanes.getLsbD (p / 2) then BitVec.allOnes 64 else 0) bytes ++ [(0, [BitVec.ofNat 64 k.offset])])
  | .qld =>
    match k.image with
    | none => (2, [(laneAux k.lanes, [BitVec.ofNat 64 k.offset])])
    | some qs => (1, imageParts (fun _ => laneAux k.lanes) (qs.flatMap quireBytes))
  | .qrnd | .qovf => (1, [(laneAux k.lanes, vecWords ((quireResult t.inUse (t.quiresFor i) k).getD 0))])
  | op =>
    let aux := laneAux k.lanes ||| BitVec.ofNat 64 (k.fmt.toNat * 2 ^ 32)
    (1, [(aux, vecWords k.a), (aux, if op = .qmac then vecWords k.b else [])])

def QuireStep.record (t : Tile) (i : Nat) (k : QuireStep) : Record :=
  { unit := 18, clus := k.clus, op := 0x1D0 + 16 * k.q + k.op.code, kind := (k.shape t i).1, remain := k.remain
    perf := k.perf.getD 0, parts := (k.shape t i).2 }

/-- The two records of a shadow-set command (R385), each of one part (R234). -/
def MatrixCmd.records (c : MatrixCmd) : List Record :=
  [[c.z, c.ctl, c.geo, c.fmt, c.bnk, c.dst, c.rsd, c.scl], [c.seed, c.drp, c.org]].map (fun ws =>
    { unit := 7, clus := 15, op := c.op, kind := 6, remain := 0, perf := 0, parts := [(0, ws)] })

/-- The order in which records are read: tile domain, then clusters; within a unit by REMAIN (R233). The units of one domain come by
their numbers (DESIGN CHOICE, log 61). -/
def Record.before (a b : Record) : Bool :=
  let key (r : Record) := ((if r.clus = 15 then 0 else r.clus + 1) * 32 + r.unit) * 64 + r.remain
  decide (key a < key b)

def insertRecord (r : Record) : List Record → List Record
  | [] => [r]
  | x :: xs => if r.before x then r :: x :: xs else x :: insertRecord r xs

/-- The live records of a tile's task (R232). -/
def Tile.records (t : Tile) (fresh : Nat) : List Record :=
  (t.units.flights.map (Flight.record fresh)
    ++ (List.range t.quires.length).filterMap (fun i =>
        match t.quires[i]? with
        | some k => if t.tookEffect i || (k.done && !k.op.changes) then none else some (k.record t i)
        | none => none)
    ++ t.matrix.shadow.flatMap MatrixCmd.records).foldl (fun rs r => insertRecord r rs) []

/-- One part of a record as ten words: header, AUX, payload (R233). -/
def Record.words (r : Record) (part : Nat) (p : Word × List Word) : List Word :=
  BitVec.ofNat 64 (r.kind + 2 ^ 4 * r.parts.length + 2 ^ 12 * r.clus + 2 ^ 16 * r.unit + 2 ^ 30 * r.op + 2 ^ 40 * r.remain
    + 2 ^ 48 * r.perf + 2 ^ 56 * part) :: p.1 :: (p.2 ++ List.replicate (8 - p.2.length) 0)

/-- Every 80-byte flight record of a tile's task, in the order read. -/
def Tile.flightRecords (t : Tile) (fresh : Nat) : List (List Word) :=
  (t.records fresh).flatMap (fun r => List.zipWith (fun i p => r.words i p) (upFrom 0 r.parts.length) r.parts)

/-! ## The context (R246) -/

/-- The operand ports of a cluster and of the tile domain in the order of their slots (R302, R304). -/
def clusterPorts : List Nat :=
  [0x100, 0x101, 0x102, 0x104, 0x105, 0x106, 0x108, 0x109, 0x10C, 0x10D, 0x110, 0x114, 0x118]
def tilePorts : List Nat :=
  [0x100, 0x101, 0x102, 0x104, 0x105, 0x106, 0x108, 0x109, 0x10C, 0x10D, 0x110, 0x111, 0x112, 0x114, 0x115, 0x116,
   0x118, 0x119, 0x11A, 0x11C, 0x11D, 0x11E, 0x120, 0x121, 0x122] ++ upFrom 0x128 18

/-- The word at a byte offset of a wide value. -/
def wordAt (x o : Nat) : Word := BitVec.ofNat 64 (x / 2 ^ (8 * o))

def putWordAt (x o : Nat) (v : Word) : Nat :=
  x / 2 ^ (8 * o + 64) * 2 ^ (8 * o + 64) + v.toNat * 2 ^ (8 * o) + x % 2 ^ (8 * o)

/-- The pc at which a tile's task goes on: the EPC of the handler that interrupted it, its pc outside handlers. -/
def Tile.taskPc (t : Tile) : Word :=
  match t.level with
  | .task => t.pc
  | .user => t.user.epc
  | .monitor => if t.monitor.word.getLsbD 20 then t.user.epc else t.monitor.epc

/-- A spill-map entry as its 8 bytes (R214). -/
def SpillEntry.image (e : SpillEntry) : Word :=
  BitVec.ofNat 64 (e.off + 2 ^ 21 * e.slot + 2 ^ 24 * e.clus + (if e.loc then 2 ^ 29 else 0) + 2 ^ 32 * e.f + 2 ^ 63)

/-- The masks, two bytes each, from index k up. -/
def maskWord (m : SMap (BitVec 16)) (k : Nat) : Nat :=
  ofElems 16 ((upFrom k 4).map (fun i => (laneMask m i).toNat))

def tokenByte : Token → Nat
  | .empty => 0
  | .pending => 1
  | .present => 2
  | .faulted => 3

/-- The words of the control area from 0xF700: the order is the manual's, one word each, a queued completion's word free. -/
def Tile.controlWords (t : Tile) (fresh : Nat) : List Word :=
  let k0 (f : Task → Nat) : Word := match t.task with | some k => BitVec.ofNat 64 (f k) | none => 0
  [t.taskPc, t.icyc, t.hcyc, t.fcyc, flagWord t.detRead, t.karm, t.semarm]
    ++ (upFrom 0 16).map (fun i => if i < t.done.length then Config.freeWord (fresh + 16 + i) else 0)
    ++ [k0 Task.launch, k0 Task.index, k0 (fun k => (nth 0 k.start 1).toNat), k0 (fun k => (nth 0 k.start 2).toNat)]

/-- The 8 bytes of the context at an offset below 0xF000, where its state can be written (R341). -/
def Tile.contextLow (t : Tile) (o : Nat) : Word :=
  if o < 0x4000 then wordAt (mget 0 (t.cluster (o / 0x800)).v (o % 0x800 / 64)).toNat (o % 64)
  else if o < 0xC000 then wordAt (t.shownQuire ((o - 0x4000) / 0x1000) (o % 0x1000 / 128 / 16) (o % 0x1000 / 128 % 16)).toNat (o % 128)
  else if o < 0xE800 then
    let k := t.cluster ((o - 0xC000) / 0x500)
    let slot := (o - 0xC000) % 0x500 / 64
    wordAt (if slot < 13 then mget 0 k.ports (nth 0 clusterPorts slot) else mget 0 k.results (0x100 + (slot - 13))).toNat (o % 64)
  else if o < 0xE900 then BitVec.ofNat 64 (maskWord (t.cluster ((o - 0xE800) / 32)).m ((o - 0xE800) % 32 / 2))
  else if o < 0xE910 then
    BitVec.ofNat 64 (ofElems 16 ((upFrom ((o - 0xE900) / 2) 4).map (fun c => (t.cluster c).scale.toNat)))
  else if o < 0xEA00 then 0
  else if o < 0xEF00 then mget 0 t.sWindow ((o - 0xEA00) / 8)
  else if o < 0xEF40 then mget 0 t.sGlobal ((o - 0xEF00) / 8)
  else if o < 0xEF80 then mget 0 t.user.s ((o - 0xEF40) / 8)
  else if o < 0xEF88 then
    BitVec.ofNat 64 ((t.p ||| 1).toNat + (if t.user.p14 then 2 ^ 16 else 0) + (if t.user.p15 then 2 ^ 17 else 0))
  else 0

/-- The 8 bytes of the context at an offset from 0xF000 up. -/
def Tile.contextHigh (t : Tile) (fresh : Nat) (o : Nat) : Word :=
  if o < 0xF200 then
    let slot := (o - 0xF000) / 8
    if slot < 43 then mget 0 t.units.ports (nth 0 tilePorts slot)
    else if slot < 53 then mget 0 t.units.results (0x100 + (slot - 43)) else 0
  else if o < 0xF240 then
    BitVec.ofNat 64 (ofElems 8 ((upFrom (o - 0xF200) 8).map (fun k => tokenByte (t.token k))))
  else if o < 0xF340 then
    BitVec.ofNat 64 (ofElems 32 ((upFrom ((o - 0xF240) / 4) 2).map (fun k => (t.sema k).toNat)))
  else if o < 0xF400 then 0
  else if o < 0xF600 then
    wordAt ((mfind ((o - 0xF400) / 32) t.newest).map (fun n => n.map.toNat) |>.getD 0) (o % 32)
  else if o < 0xF608 then BitVec.ofNat 64 t.wb
  else if o < 0xF638 then BitVec.ofNat 64 (ofElems 8 ((upFrom (o - 0xF608) 8).map (fun i => nth 0xFF t.frames i)))
  else if o < 0xF640 then BitVec.ofNat 64 t.frames.length
  else if o < 0xF6C0 then ((t.spillMap[(o - 0xF640) / 8]?).map SpillEntry.image).getD 0
  else if o < 0xF700 then 0
  else if o < 0xF800 then nth 0 (t.controlWords fresh) ((o - 0xF700) / 8)
  else
    let rs := t.flightRecords fresh
    if o = 0xF800 then BitVec.ofNat 64 rs.length
    else if o < 0xF810 then 0
    else if 25 ≤ (o - 0xF810) / 80 then 0
    else nth 0 (nth [] rs ((o - 0xF810) / 80)) ((o - 0xF810) % 80 / 8)

/-- The 8 bytes that the context would hold at an offset (R341). -/
def Tile.contextWord (t : Tile) (fresh : Nat) (o : Nat) : Word :=
  if o < 0xF000 then t.contextLow o else t.contextHigh fresh o

/-- A write of 8 bytes of the context: it changes the state behind offsets below 0xF000 and nothing elsewhere (R341). -/
def Tile.writeContext (t : Tile) (o : Nat) (v : Word) : Tile :=
  if o < 0x4000 then
    let c := o / 0x800
    let k := t.cluster c
    let i := o % 0x800 / 64
    t.setCluster c { k with v := mset 0 k.v i (BitVec.ofNat 512 (putWordAt (mget 0 k.v i).toNat (o % 64) v)) }
  else if o < 0xC000 then
    let c := (o - 0x4000) / 0x1000
    let i := o % 0x1000 / 128
    t.putQuire c (i / 16) (i % 16) (BitVec.ofNat 1024 (putWordAt (t.shownQuire c (i / 16) (i % 16)).toNat (o % 128) v))
  else if o < 0xE800 then
    let c := (o - 0xC000) / 0x500
    let k := t.cluster c
    let slot := (o - 0xC000) % 0x500 / 64
    let put (m : SMap Vec) (i : Nat) := mset 0 m i (BitVec.ofNat 512 (putWordAt (mget 0 m i).toNat (o % 64) v))
    t.setCluster c (if slot < 13 then { k with ports := put k.ports (nth 0 clusterPorts slot) }
      else { k with results := put k.results (0x100 + (slot - 13)) })
  else if o < 0xE900 then
    let c := (o - 0xE800) / 32
    let k := t.cluster c
    let i := (o - 0xE800) % 32 / 2
    let put (m : SMap (BitVec 16)) (j : Nat) :=
      if i + j = 0 then m else mset 0 m (i + j) (BitVec.ofNat 16 (v.toNat / 2 ^ (16 * j)))
    t.setCluster c { k with m := (upFrom 0 4).foldl put k.m }
  else if o < 0xE910 then
    let i := (o - 0xE900) / 2
    (upFrom 0 4).foldl
      (fun t j => t.setCluster (i + j) { t.cluster (i + j) with scale := BitVec.ofNat 16 (v.toNat / 2 ^ (16 * j)) }) t
  else if o < 0xEA00 then t
  else if o < 0xEF00 then { t with sWindow := mset 0 t.sWindow ((o - 0xEA00) / 8) v }
  else if o < 0xEF40 then { t with sGlobal := mset 0 t.sGlobal ((o - 0xEF00) / 8) v }
  else if o < 0xEF80 then { t with user := { t.user with s := mset 0 t.user.s ((o - 0xEF40) / 8) v } }
  else if o < 0xEF88 then
    { t with p := BitVec.setWidth 16 v &&& 0xFFFE, user := { t.user with p14 := v.getLsbD 16, p15 := v.getLsbD 17 } }
  else t

end Sys2Proof.Machine
end

