-- ==== Sys2Proof/Machine/Links.lean ====
section
/-! DEFINITION. Where a task's addresses lead (R79, R103 to R107). -/

namespace Sys2Proof.Machine

/-! ## Where an address leads -/

/-- The tile on which the task of a logical index of a job's launch is resident (R79). -/
def State.resident (s : State) (part launch job index : Nat) : Option Nat :=
  (s.tiles.find? (fun t =>
    match t.2.task with
    | some k =>
      k.part == part && k.launch == launch && k.job == job && k.index == index && k.work == .dispatched
    | none => false)).map Prod.fst

/-- What an access of a class names (R103, R104). -/
inductive Place where
  | own
  | tile (n : Nat)
  | buffer (n b : Nat)
  | kiln (die : Nat)
  | memory
  | away (domain : Nat)
  deriving DecidableEq, Repr

/-- The bits of an address that its class requires to be zero (R103). -/
def mustBeZero (a : Nat) : Bool :=
  match field a 63 60 with
  | 0x0 => decide (field a 59 55 ≠ 0)
  | 0x8 => decide (field a 59 21 ≠ 0)
  | 0x9 => decide (field a 59 56 ≠ 0) || decide (field a 47 42 ≠ 0) || decide (field a 31 21 ≠ 0)
  | 0xA => decide (field a 59 56 ≠ 0) || decide (field a 43 25 ≠ 0)
  | 0xB => decide (field a 59 56 ≠ 0) || decide (field a 47 42 ≠ 0) || decide (field a 31 18 ≠ 0)
  | _ => true

/-- The offset field of an address and the size of its space (R103). -/
def offsetOf (a : Nat) : Nat × Nat :=
  match field a 63 60 with
  | 0x0 => (field a 54 0, 2 ^ 55)
  | 0x8 => (field a 20 0, 2 ^ 21)
  | 0x9 => (field a 20 0, 2 ^ 21)
  | 0xA => (field a 24 0, 2 ^ 25)
  | _ => (field a 15 0, 65536)

/-- The peer tile that a rank and logical index name for a task: the tile itself or another on the own module, another
module's domain number, or cause 3 (R79, R105, R106). -/
def State.peer (s : State) (k : Task) (rank index : Nat) : Except Nat (Option Nat × Nat) :=
  let p := s.part k.part
  if !rankExists p k.job rank then .error 3
  else if rank = ownRank s p k.job then
    match s.resident k.part k.launch k.job index with
    | some n => .ok (some n, 0)
    | none => .error 3
  else
    match rankModule p k.job rank with
    | some d => .ok (none, d)
    | none => .error 3

/-- Where n bytes at a displacement from a device address lie for the task of a tile, or a cause of R128 (R103 to R106). -/
def State.resolve (s : State) (_tile : Nat) (k : Task) (a : Nat) (disp : Int) (n : Nat) : Except Nat (Place × Nat) :=
  let cls := field a 63 60
  let (base, size) := offsetOf a
  let off := Int.ofNat base + disp
  let at_ := off.toNat
  if mustBeZero a then .error 1
  else if off < 0 || size < at_ + n then .error 2
  else if cls = 0x0 then .ok (.memory, at_)
  else if cls = 0x8 then .ok (.own, at_)
  else if cls = 0xA then
    let p := s.part k.part
    let rank := field a 55 48
    if p.dieList.length ≤ field a 47 44 then .error 2
    else if !rankExists p k.job rank then .error 3
    else if rank = ownRank s p k.job then .ok (.kiln (nth 0 p.dieList (field a 47 44)), at_)
    else match rankModule p k.job rank with
      | some d => .ok (.away d, at_)
      | none => .error 3
  else
    match s.peer k (field a 55 48) (field a 41 32) with
    | .error c => .error c
    | .ok (some m, _) => .ok (if cls = 0x9 then .tile m else .buffer m (field a 17 16), at_)
    | .ok (none, d) => .ok (.away d, at_)

end Sys2Proof.Machine
end

