-- ==== Sys2Proof/Machine/Copies.lean ====
section
/-! DEFINITION. The copy engine: shape records, element visits, checks, the movement of chunks, and how commands start,
land, fault and complete (R110, R128, R134, R138 to R160, R165). -/

namespace Sys2Proof.Machine

/-! ## Shape records (R142, R143) -/

/-- A shape record as a number. -/
abbrev Shape := Nat

namespace Shape

def ndim (r : Shape) : Nat := field r 1 0 + 1
def esz (r : Shape) : Nat := field r 10 8
def mode (r : Shape) : Nat := field r 13 12
def dkind (r : Shape) : Nat := field r 18 16
def glaze (r : Shape) : Nat := field r 21 20
def sfmt (r : Shape) : Nat := field r 27 24
def dfmt (r : Shape) : Nat := field r 31 28
def planes (r : Shape) : Nat := field r 39 34
def extent (r : Shape) (d : Nat) : Nat := field r (79 + 16 * d) (64 + 16 * d)
def banks (r : Shape) : BitVec 32 := BitVec.ofNat 32 (field r 159 128)
/-- Stride of source dimension d, from 1 to 3. -/
def srcStride (r : Shape) (d : Nat) : Int := signed 32 (field r (191 + 32 * d) (160 + 32 * d))
def dstStride (r : Shape) (d : Nat) : Int := signed 32 (field r (319 + 32 * d) (288 + 32 * d))

/-- X[d] of R143. -/
def x (r : Shape) (d : Nat) : Nat := if d < r.ndim then r.extent d else 1

/-- Element sizes of source and destination in bytes (R143). -/
def elementSize (e : Nat) : Nat := if e = 4 then 128 else 2 ^ e
def ssz (r : Shape) : Nat :=
  if r.mode ≠ 0 then fmtWidth r.sfmt / 8 else if r.glaze = 0 then elementSize r.esz else if r.glaze = 3 then 72 else 64
def dsz (r : Shape) : Nat :=
  if r.mode = 2 then (if r.dkind = 4 then 128 else fmtWidth r.dfmt / 8)
  else if r.glaze = 0 then elementSize r.esz else if r.glaze = 2 then 72 else 64

/-- Alignment units of source and destination (R143). -/
def us (r : Shape) : Nat := if r.glaze = 3 then 8 else r.ssz
def ud (r : Shape) : Nat := if r.mode = 1 || r.glaze == 2 then 8 else r.dsz

/-- A unit is an element, or a group of 64 under plane packing: how many lie along dimension 0, and its source and
destination bytes (R143, R144). -/
def along (r : Shape) : Nat := if r.mode = 1 then r.x 0 / 64 else r.x 0
def srcLen (r : Shape) : Nat := if r.mode = 1 then 64 * r.ssz else r.ssz
def dstLen (r : Shape) : Nat := if r.mode = 1 then r.planes * 8 else r.dsz
def units (r : Shape) : Nat := r.along * r.x 1 * r.x 2 * r.x 3

/-- The destination size D (R143). -/
def size (r : Shape) : Nat := r.units * r.dstLen
def chunks (r : Shape) : Nat := ceilDiv r.size 512

/-- The fields that R142 reserves. -/
def reserved (r : Shape) : Bool :=
  [(7, 2), (11, 11), (15, 14), (19, 19), (23, 22), (33, 32), (63, 40), (191, 160), (319, 288), (511, 416)].any
    (fun x => decide (field r x.1 x.2 ≠ 0))

/-- Extents and strides agree with NDIM, and strides with the alignment units (R149). -/
def dimensions (r : Shape) : Bool :=
  (upFrom 0 4).all (fun d =>
    if d < r.ndim then decide (r.extent d ≠ 0)
    else decide (r.extent d = 0) && decide (r.srcStride d = 0) && decide (r.dstStride d = 0))
    && (upFrom 1 3).all (fun d => decide (r.srcStride d % Int.ofNat r.us = 0) && decide (r.dstStride d % Int.ofNat r.ud = 0))

/-- The pairings of R149 and the rows of R143. -/
def pairings (r : Shape) : Bool :=
  match r.mode with
  | 0 =>
    decide (r.sfmt = 0) && decide (r.dfmt = 0) && decide (r.planes = 0)
      && (match r.glaze with
          | 0 => decide (r.esz < 5) && ((r.esz == 4) == (r.dkind == 4))
          | 2 => decide (r.esz = 0) && [0, 2, 3].contains r.dkind
          | _ => decide (r.esz = 0) && decide (r.dkind = 5))
  | 1 =>
    decide (r.glaze = 0) && decide (r.esz = 0) && fmtValid r.sfmt && decide (2 ≤ r.planes) && decide (r.planes ≤ fmtWidth r.sfmt)
      && decide (r.extent 0 % 64 = 0) && decide (r.dfmt = 0) && decide (r.dkind < 3)
  | 2 =>
    decide (r.glaze = 0) && decide (r.esz = 0) && fmtValid r.sfmt && decide (r.planes = 0)
      && (if r.dkind = 4 then decide (r.dfmt = 0) else fmtValid r.dfmt)
  | _ => false

/-- A record that cp.defs accepts (R149). -/
def valid (r : Shape) : Bool :=
  !r.reserved && decide (r.dkind < 6) && r.pairings && r.dimensions && decide (1 ≤ r.size) && decide (r.size ≤ 131072)

/-- The displacements of unit n from the source and destination addresses (R143). -/
def srcAt (r : Shape) (n : Nat) : Int :=
  let e0 := n % r.along
  let m := n / r.along
  Int.ofNat (e0 * r.srcLen) + Int.ofNat (m % r.x 1) * r.srcStride 1 + Int.ofNat (m / r.x 1 % r.x 2) * r.srcStride 2
    + Int.ofNat (m / (r.x 1 * r.x 2)) * r.srcStride 3
def dstAt (r : Shape) (n : Nat) : Int :=
  let e0 := n % r.along
  let m := n / r.along
  Int.ofNat (e0 * r.dstLen) + Int.ofNat (m % r.x 1) * r.dstStride 1 + Int.ofNat (m / r.x 1 % r.x 2) * r.dstStride 2
    + Int.ofNat (m / (r.x 1 * r.x 2)) * r.dstStride 3

/-- The units that have a byte in chunk c. -/
def inChunk (r : Shape) (c : Nat) : List Nat :=
  let first := 512 * c / r.dstLen
  upFrom first ((min (512 * c + 512) r.size - 1) / r.dstLen + 1 - first)

/-- The source bytes of the units that lie wholly in chunks 0 to c (R165). -/
def sourceBytes (r : Shape) (c : Nat) : Nat := min (512 * (c + 1)) r.size / r.dstLen * r.srcLen

end Shape

def CopyCmd.record (c : CopyCmd) : Shape := c.shape.toNat
def CopyCmd.semv (c : CopyCmd) : Bool := c.ctl.getLsbD 38
def CopyCmd.sem (c : CopyCmd) : Nat := field c.ctl.toNat 37 32
def CopyCmd.cev (c : CopyCmd) : Bool := c.ctl.getLsbD 39

/-! ## Elements (R144 to R147) -/

/-- One group of 64 elements in plane form (R144). -/
def packPlanes (w planes : Nat) (bs : List Byte) : List Byte :=
  let es := (cut (w / 8) 64 bs).map ofBytes
  (upFrom 0 planes).flatMap (fun j =>
    toBytes 8 ((List.zipWith (fun i x => if planeBit w x j then 2 ^ i else 0) (upFrom 0 64) es).sum))

/-- What a unit's source bytes become, with the glaze bits that go with them: those of the line read, or those that a
72-byte element carries (R144 to R147). -/
def Shape.transform (r : Shape) (bs : List Byte) (glaze : Nat) : List Byte × Nat :=
  if r.mode = 1 then (packPlanes (8 * r.ssz) r.planes bs, 0)
  else if r.mode = 2 then
    let x := decodePosit (ofBytes bs) r.sfmt
    if r.dkind = 4 then (quireBytes (quireOf x), 0)
    else if r.sfmt = r.dfmt then (bs, 0)
    else (toBytes r.dsz (roundPosit x r.dfmt), 0)
  else if r.glaze = 2 then (bs ++ toBytes 8 glaze, 0)
  else if r.glaze = 3 then (bs.take 64, ofBytes (bs.drop 64))
  else (bs, glaze)

/-! ## Reading (R105, R110, R115, R124, R134, R135) -/

/-- Why a chunk does not go on: a fault of R128 at an address, or poison at a line. -/
inductive CopyStop where
  | fault (addr : Word) (cause : Nat)
  | poison (line : Word)
  deriving DecidableEq, Repr

/-- A device address moved by a displacement. -/
def displaced (a : Word) (d : Int) : Word := a + BitVec.ofInt 64 d

/-- Banks outside the record's set (R115). -/
def Shape.outside (r : Shape) (off n : Nat) : Bool := (banksOf off n &&& ~~~r.banks) != 0

/-- The task a copy works for, and who makes its accesses. -/
def CopyCmd.who (c : CopyCmd) (t : Tile) (n : Nat) : Who := { t.who n with user := c.user }

/-- Source bytes of a unit that lie in one granule: the first of them in the unit, and how many. -/
structure Piece where
  unit  : Nat
  from_ : Nat
  len   : Nat
  deriving DecidableEq, Repr

/-- The offset of a unit's first source byte in its space. -/
def CopyCmd.srcOff (c : CopyCmd) (u : Nat) : Nat := (Int.ofNat (offsetOf c.src.toNat).1 + c.record.srcAt u).toNat

/-- The device address of an offset of the source space. -/
def CopyCmd.srcAddr (c : CopyCmd) (off : Nat) : Word := c.src - BitVec.ofNat 64 (offsetOf c.src.toNat).1 + BitVec.ofNat 64 off

/-- The granules of a chunk's source in rising order, each with the pieces of the chunk's units that lie in it (R170). -/
def CopyCmd.sourceGrains (c : CopyCmd) (chunk : Nat) : SMap (List Piece) :=
  (c.record.inChunk chunk).foldl (fun g u =>
    let o := c.srcOff u
    let n := c.record.srcLen
    (upFrom (o / 8) ((o + n - 1) / 8 - o / 8 + 1)).foldl (fun g k =>
      let lo := max o (8 * k)
      mput k (mget [] g k ++ [{ unit := u, from_ := lo - o, len := min (o + n) (8 * k + 8) - lo }]) g) g) []

/-- The offset of a piece in the source space. -/
def CopyCmd.pieceOff (c : CopyCmd) (p : Piece) : Nat := c.srcOff p.unit + p.from_

/-- The range that the pieces of a granule span: the offset of its first byte, and its length. -/
def CopyCmd.rangeOf (c : CopyCmd) (ps : List Piece) : Nat × Nat :=
  let lo := ps.foldl (fun a p => min a (c.pieceOff p)) (2 ^ 64)
  (lo, ps.foldl (fun a p => max a (c.pieceOff p + p.len)) 0 - lo)

/-- A line goes with its glaze bits; they are read with its first granule (R146, log 14). -/
def Shape.readsGlaze (r : Shape) : Bool := r.glaze == 1 || r.glaze == 2

/-- A range within a granule of virtual memory, read here or asked of its home (R124). -/
def State.readMemory (s : State) (w : Who) (a n : Nat) (glaze : Bool) : Except CopyStop GrainRead × State :=
  let fault (c : Nat) : Except CopyStop GrainRead := .error (.fault (BitVec.ofNat 64 a) c)
  match translate s w .read a with
  | (.error c, s1) => (fault c, s1)
  | (.ok l, s1) =>
    if l.foreign then
      match s1.askHome w l (.read (BitVec.ofNat 64 a) n w.user glaze false) with
      | none => (fault 3, s1)
      | some (tag, s2) => (.ok { bytes := List.replicate n 0, tag := some (tag, l.level) }, s2)
    else
      let x := s1.readLine l a
      let line := a / 64 * 64
      let o := if x.1.poison && l.shared then x.2.notifyPoison w.part (w.job.getD 0) line else ([], x.2)
      (.ok { bytes := (x.1.bytes.drop (a % 64)).take n, glaze := if glaze then x.1.glaze else 0
             poison := if x.1.poison then some (BitVec.ofNat 64 line) else none, owed := o.1 }, o.2)

/-- A range within a granule of a command's source where it lies, as its home holds it now, by one access (R170). -/
def State.readSource (s : State) (n : Nat) (k : Task) (c : CopyCmd) (from_ len : Nat) : Except CopyStop GrainRead × State :=
  let r := c.record
  let a := c.srcAddr from_
  match s.resolve n k c.src.toNat (Int.ofNat from_ - Int.ofNat (offsetOf c.src.toNat).1) len with
  | .error e => (.error (.fault a e), s)
  | .ok (place, off) =>
    let store (t : Tile) : Except CopyStop GrainRead :=
      .ok { bytes := readBytes t.store off len
            poison := if t.poisonedAt off len then some (a + BitVec.ofNat 64 (t.poisonLine off len) - BitVec.ofNat 64 off) else none }
    match place with
    | .own => (if r.outside off len then .error (.fault a 4) else store (s.tile n), s)
    | .tile m => (store (s.tile m), s)
    | .kiln d =>
      let x := s.die d
      (.ok { bytes := readBytes x.kiln off len, poison := if x.kilnPoison off len then some (a &&& ~~~63) else none }, s)
    | .memory => s.readMemory (c.who (s.tile n) n) off len (r.readsGlaze && off % 64 == 0)
    | .buffer _ _ => (.error (.fault a 1), s)
    | .away d =>
      match s.request { cls := 1, dst := d, part := k.part, job := k.job, launch := k.launch, cargo := .read a len c.user false false } with
      | none => (.error (.fault a 3), s)
      | some (tag, s1) => (.ok { bytes := List.replicate len 0, tag := some (tag, 3) }, s1)

/-- Bytes put over a part of a list. -/
def overlay (bs : List Byte) (from_ : Nat) (new : List Byte) : List Byte := bs.take from_ ++ new ++ bs.drop (from_ + new.length)

/-- The data of a unit with some of its bytes, as far as they have come. -/
def UnitData.put (d : UnitData) (from_ : Nat) (bs : List Byte) (glaze : Nat) (poison : Option Word) : UnitData :=
  { d with bytes := overlay d.bytes from_ bs, glaze := d.glaze + glaze, poison := if d.poison.isSome then d.poison else poison }

/-- What a range of a granule, from an offset on, gives the pieces in it. -/
def CopyCmd.spread (c : CopyCmd) (lo : Nat) (x : GrainRead) (data : List UnitData) : List Piece → List UnitData
  | [] => data
  | p :: ps =>
    let bs := (x.bytes.drop (c.pieceOff p - lo)).take p.len
    c.spread lo x (data.map (fun d => if d.unit = p.unit then d.put p.from_ bs (if p.from_ = 0 then x.glaze else 0) x.poison else d)) ps

/-- A chunk under way with a granule read, or asked for. -/
def ChunkMove.take (m : ChunkMove) (c : CopyCmd) (ps : List Piece) (lo : Nat) (x : GrainRead) : ChunkMove :=
  { m with
    data := c.spread lo x m.data ps
    asked := m.asked ++ (x.tag.map (fun t => { tag := t.1, off := lo, len := x.bytes.length, level := t.2 : Ask })).toList
    owed := m.owed ++ x.owed.map (fun t => (lo / 8, t)) }

/-- The pieces of one granule, read together; a granule that the command's own writes have replaced counts as it stood (R151, R170). -/
def State.readGrain (s : State) (n : Nat) (k : Task) (c : CopyCmd) (m : ChunkMove) (g : Nat) (ps : List Piece) :
    Except CopyStop ChunkMove × State :=
  let r := c.rangeOf ps
  match mfind g c.kept with
  | some x => (.ok (m.take c ps r.1 { x with bytes := (x.bytes.drop (r.1 % 8)).take r.2 }), s)
  | none =>
    match s.readSource n k c r.1 r.2 with
    | (.error e, s1) => (.error e, s1)
    | (.ok x, s1) => (.ok (m.take c ps r.1 x), s1)

/-- The granules of a chunk's source, from the i-th on, that are named and have not been read: each is read wholly old or wholly new
at some step between the start of the chunk and its landing (R170, R177, log 14). -/
def State.readGrains (s : State) (n : Nat) (k : Task) (c : CopyCmd) (parts : Nat) :
    Nat → ChunkMove → SMap (List Piece) → Option CopyStop × ChunkMove × State
  | _, m, [] => (none, m, s)
  | i, m, (g, ps) :: gs =>
    if bit parts i && !bit m.got i then
      match s.readGrain n k c m g ps with
      | (.error e, s1) => (some e, m, s1)
      | (.ok m1, s1) => s1.readGrains n k c parts (i + 1) { m1 with got := m1.got ||| 2 ^ i } gs
    else s.readGrains n k c parts (i + 1) m gs

/-- A chunk as its first step finds it, with nothing read. -/
def ChunkMove.begun (m : ChunkMove) (r : Shape) : ChunkMove :=
  if m.data.isEmpty then
    { m with data := (r.inChunk m.chunk).map (fun u => { unit := u, bytes := List.replicate r.srcLen 0, glaze := 0, poison := none }) }
  else m

/-- The granules of a chunk's source that have not been read, or whose data have not come. -/
def ChunkMove.unread (m : ChunkMove) (gs : SMap (List Piece)) : List Nat :=
  (List.zip (upFrom 0 gs.length) gs).filterMap (fun x => if bit m.got x.1 then none else some x.2.1)
    ++ m.asked.map (fun q => q.off / 8) ++ m.owed.map Prod.fst

/-- A unit whose source is at hand. -/
def CopyCmd.atHand (c : CopyCmd) (unread : List Nat) (u : Nat) : Bool :=
  !unread.any (fun g => decide (c.srcOff u / 8 ≤ g) && decide (g ≤ (c.srcOff u + c.record.srcLen - 1) / 8))

/-! ## The writes of a chunk (R110, R143 to R147, R170) -/

/-- One write of a chunk, single-copy atomic: an 8-byte granule or a quire cell (R170). Its offset in the destination space, its runs
of bytes by their displacement, the element bytes it carries, the glaze bits that a line's first granule brings (log 14), the poisoned
line that went into it, the units that it is made of and the part of the chunk that it belongs to (R110). -/
structure Portion where
  off    : Nat
  runs   : List (Nat × List Byte)
  count  : Nat
  glaze  : Option Nat
  poison : Option Word
  units  : List Nat := []
  part   : Nat := 0
  deriving DecidableEq, Repr

/-- The bytes of a chunk for one granule: the data, the mask, how many element bytes, the poison met and the units they come from. -/
structure Grain where
  data   : Nat := 0
  mask   : Nat := 0
  count  : Nat := 0
  poison : Option Word := none
  units  : List Nat := []
  deriving DecidableEq, Repr

/-- Bytes of a unit from an offset up placed into their granules; a later byte takes the place of an earlier one. -/
def intoGrains (g : SMap Grain) (unit off : Nat) (poison : Option Word) : List Byte → SMap Grain
  | [] => g
  | b :: bs =>
    let i := off % 8
    let old := mget {} g (off / 8)
    let data := old.data / 2 ^ (8 * i + 8) * 2 ^ (8 * i + 8) + b.toNat * 2 ^ (8 * i) + old.data % 2 ^ (8 * i)
    intoGrains
      (mput (off / 8) { data := data, mask := old.mask ||| 2 ^ i, count := old.count + 1
                        poison := if old.poison.isSome then old.poison else poison, units := addTo unit old.units } g)
      unit (off + 1) poison bs

/-- The runs of the last n bytes of a granule. -/
def Grain.runs (g : Grain) : Nat → List (Nat × List Byte)
  | 0 => []
  | n + 1 =>
    let i := 7 - n
    let rest := g.runs n
    if bit g.mask i then
      let b : Byte := BitVec.ofNat 8 (g.data / 2 ^ (8 * i))
      match rest with
      | (j, bs) :: rs => if j = i + 1 then (i, b :: bs) :: rs else (i, [b]) :: rest
      | [] => [(i, [b])]
    else rest

/-- The first and the last byte, not included, that a unit has in a chunk. -/
def Shape.share (r : Shape) (chunk u : Nat) : Nat × Nat :=
  (max (512 * chunk) (u * r.dstLen) - u * r.dstLen, min (512 * chunk + 512) ((u + 1) * r.dstLen) - u * r.dstLen)

/-- The offset of a unit's first destination byte in its space. -/
def CopyCmd.dstOff (c : CopyCmd) (u : Nat) : Nat := (Int.ofNat (offsetOf c.dst.toNat).1 + c.record.dstAt u).toNat

/-- What a unit of a chunk becomes (R144 to R147). -/
def CopyCmd.result (c : CopyCmd) (x : UnitData) : List Byte × Nat := c.record.transform x.bytes x.glaze

/-- The part of a chunk that a unit belongs to: those whose source lies in one page of memory are one (R110). A group of plane packing
that crosses pages belongs to the part of its first byte (DESIGN CHOICE, log 69). -/
def CopyCmd.partOf (c : CopyCmd) (u : Nat) : Nat := if field c.src.toNat 63 60 = 0 then c.srcOff u / 65536 else 0

/-- The glaze bits that a line of the destination gets from a chunk's data (R146). -/
def CopyCmd.lineGlaze (c : CopyCmd) (m : ChunkMove) (off : Nat) : Option Nat :=
  if c.record.glaze = 1 ∨ c.record.glaze = 3 then (m.data.reverse.find? (fun x => c.dstOff x.unit == off)).map (fun x => (c.result x).2)
  else none

/-- The writes that a chunk's data make: part by part, in rising order of their granules, or cell by cell. A granule that two chunks or
two parts share is written once for each, and one of the source that two chunks share is read once for each (DESIGN CHOICE, log 70). -/
def CopyCmd.portions (c : CopyCmd) (m : ChunkMove) : List Portion :=
  let r := c.record
  if r.dkind = 4 then
    m.data.map (fun x =>
      let out := (c.result x).1
      { off := c.dstOff x.unit, runs := [(0, out)], count := out.length, glaze := none, poison := x.poison, units := [x.unit]
        part := c.partOf x.unit })
  else
    (m.data.foldl (fun l x => addTo (c.partOf x.unit) l) []).flatMap (fun p =>
      let grains := (m.data.filter (fun x => c.partOf x.unit == p)).foldl (fun g x =>
        let y := r.share m.chunk x.unit
        intoGrains g x.unit (c.dstOff x.unit + y.1) x.poison ((((c.result x).1).drop y.1).take (y.2 - y.1))) []
      grains.map (fun e =>
        { off := 8 * e.1, runs := e.2.runs 8, count := e.2.count, glaze := c.lineGlaze m (8 * e.1), poison := e.2.poison
          units := e.2.units, part := p }))

/-- The device address of an offset of the destination space. -/
def CopyCmd.dstAddr (c : CopyCmd) (off : Nat) : Word := c.dst - BitVec.ofNat 64 (offsetOf c.dst.toNat).1 + BitVec.ofNat 64 off

/-- A destination where a poisoned chunk does not land: a tile store or an operand buffer, of any module (R134). -/
def CopyCmd.intoTile (c : CopyCmd) : Bool := [0x8, 0x9, 0xB].contains (field c.dst.toNat 63 60)

/-! ## Overlap of source and destination (R151, log 15) -/

/-- Whether two places are one space. -/
def sameSpace (n : Nat) (a b : Place) : Bool :=
  let norm (t : Place) : Place := if t = .own then .tile n else t
  norm a == norm b

/-- Source and destination of a command name one tile or die of another module: their class, rank and index agree. -/
def CopyCmd.oneUnit (c : CopyCmd) : Bool := field c.src.toNat 63 32 == field c.dst.toNat 63 32

/-- The displacements from the source address between which every source byte lies. -/
def Shape.srcSpan (r : Shape) : Int × Int :=
  let reach (d : Nat) : Int := Int.ofNat (r.x d - 1) * r.srcStride d
  ((upFrom 1 3).foldl (fun a d => a + min 0 (reach d)) 0,
   (upFrom 1 3).foldl (fun a d => a + max 0 (reach d)) (Int.ofNat (r.along * r.srcLen)))

/-- Whether an offset of the source space holds a source byte of the command. -/
def CopyCmd.readsByte (c : CopyCmd) (off : Nat) : Bool :=
  let r := c.record
  let d := Int.ofNat off - Int.ofNat (offsetOf c.src.toNat).1
  decide (r.srcSpan.1 ≤ d) && decide (d < r.srcSpan.2)
    && (upFrom 0 r.units).any (fun u => decide (c.srcOff u ≤ off) && decide (off < c.srcOff u + r.srcLen))

/-- The 64 KiB pages of the offsets of some units, each unit with its first offset and its length. -/
def pagesOfUnits (us : List Nat) (off : Nat → Nat) (len : Nat) : List Nat :=
  us.foldl (fun l u => addRange (off u / 65536) ((off u + len - 1) / 65536 - off u / 65536 + 1) l) []

/-- The pages of a command's source and of its destination in their spaces. -/
def CopyCmd.sourcePages (c : CopyCmd) : List Nat := pagesOfUnits (upFrom 0 c.record.units) c.srcOff c.record.srcLen
def CopyCmd.destPages (c : CopyCmd) : List Nat := pagesOfUnits (upFrom 0 c.record.units) c.dstOff c.record.dstLen

/-- Spaces of source and destination that may be one, by their classes. -/
def CopyCmd.mayOverlap (c : CopyCmd) : Bool :=
  [(0x8, 0x8), (0x8, 0x9), (0x9, 0x8), (0x9, 0x9), (0x0, 0x0), (0xA, 0xA)].contains (field c.src.toNat 63 60, field c.dst.toNat 63 60)

/-- The granules of the source space that are the granule of an offset of a place. In memory of this module every page of the source
that maps the same line gives one; which pages another module maps to one line is not known here (log 15). -/
def State.aliases (s : State) (n : Nat) (k : Task) (c : CopyCmd) (place : Place) (off : Nat) : List Nat :=
  let w := c.who (s.tile n) n
  match s.resolve n k c.src.toNat 0 0 with
  | .error _ => []
  | .ok (from_, _) =>
    if (match place with | .away _ => from_ != place || !c.oneUnit | _ => !sameSpace n from_ place) then []
    else if place = .memory then
      match (translate s w .write off).1 with
      | .error _ => []
      | .ok l =>
        if l.foreign then [off / 8]
        else
          c.sourcePages.filterMap (fun p =>
            match (translate s w .read (65536 * p)).1 with
            | .ok x =>
              if !x.foreign && decide (x.phys ≤ l.phys) && decide (l.phys < x.phys + 65536) then some ((65536 * p + (l.phys - x.phys)) / 8)
              else none
            | .error _ => none)
    else [off / 8]

/-- The bytes of a run, free where they overlap the command's own source. -/
def State.freedRun (s : State) (n : Nat) (k : Task) (c : CopyCmd) (place : Place) (off : Nat) : List Byte → List Byte
  | [] => []
  | b :: bs =>
    (if (s.aliases n k c place off).any (fun v => c.readsByte (8 * v + off % 8)) then Config.freeByte s.fresh off else b)
      :: s.freedRun n k c place (off + 1) bs

/-- The bytes of a portion from its offset up to its end. -/
def Portion.span (x : Portion) : Nat := runsEnd x.runs

/-- Where a portion goes. -/
def State.portionPlace (s : State) (n : Nat) (k : Task) (c : CopyCmd) (x : Portion) : Except Nat (Place × Nat) :=
  s.resolve n k c.dst.toNat (Int.ofNat x.off - Int.ofNat (offsetOf c.dst.toNat).1) x.span

/-- A portion with the overlapping bytes free. -/
def State.freed (s : State) (n : Nat) (k : Task) (c : CopyCmd) (x : Portion) : Portion :=
  match s.portionPlace n k c x with
  | .error _ => x
  | .ok (place, off) => { x with runs := x.runs.map (fun r => (r.1, s.freedRun n k c place (off + r.1) r.2)) }

/-- The source granules that some portions write into and that have not been kept. -/
def State.replaced (s : State) (n : Nat) (k : Task) (c : CopyCmd) (xs : List Portion) : List Nat :=
  let sources (place : Place) (g : Nat) : List Nat :=
    (s.aliases n k c place (8 * g)).filter (fun v => (upFrom (8 * v) 8).any c.readsByte && (mfind v c.kept).isNone)
  xs.foldl (fun l x =>
    match s.portionPlace n k c x with
    | .error _ => l
    | .ok (place, off) =>
      ((upFrom (off / 8) ((off + x.span + 7) / 8 - off / 8)).flatMap (sources place)).foldl (fun l v => addTo v l) l) []

/-- Source granules read before the command's own writes replace them: those at hand are kept, others are asked for under a tag. One that
faults is left to the read that needs it. -/
def State.keepGrains (s : State) (n : Nat) (k : Task) (c : CopyCmd) :
    List Nat → SMap GrainRead → List Ask → SMap GrainRead × List Ask × State
  | [], kept, saving => (kept, saving, s)
  | v :: vs, kept, saving =>
    match s.readSource n k c (8 * v) 8 with
    | (.error _, s1) => s1.keepGrains n k c vs kept saving
    | (.ok x, s1) =>
      match x.tag with
      | some t => s1.keepGrains n k c vs kept (saving ++ [{ tag := t.1, off := 8 * v, len := 8, level := t.2 }])
      | none => s1.keepGrains n k c vs (mput v x kept) saving

/-! ## Writing (R96, R110, R124, R134, R147, R159) -/

/-- Runs stored from an offset of the tile store up. -/
def Tile.storeRuns (t : Tile) (off : Nat) (rs : List (Nat × List Byte)) : Tile :=
  rs.foldl (fun t r => (t.touch (off + r.1) r.2.length).storeBytes (off + r.1) r.2) t

/-- Runs stored from an offset of an operand buffer up. -/
def Tile.bufferRuns (t : Tile) (b off : Nat) (rs : List (Nat × List Byte)) : Tile :=
  rs.foldl (fun t r =>
    { t.touch (bufferBase b + off + r.1) r.2.length with
      buffers := writeBytes t.buffers (65536 * b + off + r.1) r.2
      badWords := wordsAfter t.badWords (bufferBase b + off + r.1) r.2.length false }) t

/-- A quire cell of a kiln with an image added exactly (R147). -/
def State.addCell (s : State) (w : Who) (die off : Nat) (image : List Byte) (poison : Bool) : State :=
  let k := s.die die
  let q := qadd (quireOfBytes (readBytes k.kiln off 128)) (qval (quireOfBytes image))
  s.writeKiln w die off (quireBytes q) (poison || k.kilnPoison off 128)

/-- Runs written into a line under its leaf; a line that carries glaze bits is one run. -/
def State.lineRuns (s : State) (w : Who) (l : Leaf) (va : Nat) (poison : Bool) (glaze : Option Nat) (rs : List (Nat × List Byte)) :
    State :=
  rs.foldl (fun s r => s.writePiece w l (va + r.1) (pieceMask (va + r.1) r.2.length) (padLine (va + r.1) r.2) poison glaze) s

/-- One portion written where it goes, or sent there: its place, the flit that another module has to answer, and the line of this module
that it went to. -/
def State.performPortion (s : State) (n : Nat) (k : Task) (c : CopyCmd) (x : Portion) :
    Except CopyStop (Place × Option Sending × Option LineAt) × State :=
  let w := c.who (s.tile n) n
  let r := c.record
  let a := c.dstAddr x.off
  let bad := x.poison.isSome
  match s.portionPlace n k c x with
  | .error e => (.error (.fault a e), s)
  | .ok (place, off) =>
    let here (t : State) : Except CopyStop (Place × Option Sending × Option LineAt) × State := (.ok (place, none, none), t)
    let sent (home_ lv : Nat) (y : Option (Nat × State)) : Except CopyStop (Place × Option Sending × Option LineAt) × State :=
      match y with
      | none => (.error (.fault a 3), s)
      | some z =>
        let f : Sending := { tag := z.1, addr := a + BitVec.ofNat 64 ((x.runs.headD (0, [])).1), home := home_, level := lv }
        (.ok (place, some f, none), z.2)
    match place with
    | .own => here (s.mapTile n (fun t => t.storeRuns off x.runs))
    | .tile m => here (s.mapTile m (fun t => t.storeRuns off x.runs))
    | .buffer m b => here (s.mapTile m (fun t => t.bufferRuns b off x.runs))
    | .kiln d =>
      here (x.runs.foldl (fun s y => if r.dkind = 4 then s.addCell w d off y.2 bad else s.writeKiln w d (off + y.1) y.2 bad) s)
    | .memory =>
      match translate s w .write off with
      | (.error e, s1) => (.error (.fault (BitVec.ofNat 64 off) e), s1)
      | (.ok l, s1) =>
        if l.foreign then
          sent (((s1.homeOf w l).map Prod.snd).getD 0) l.level (s1.askHome w l (.write a x.runs c.user x.glaze false bad none))
        else (.ok (place, none, some { home := none, line := l.phys / 64, grade := l.grade }), s1.lineRuns w l off bad x.glaze x.runs)
    | .away d =>
      sent d 3 (s.request { cls := 1, dst := d, part := k.part, job := k.job, launch := k.launch,
                             cargo := .write a x.runs c.user none (r.dkind == 4) bad none })

/-! ## Lines written in full (R131, R133) -/

/-- A memory line whose eight granules have been written: it holds their grade, and is poisoned as their data are. -/
def State.fullLine (s : State) (line grade : Nat) (poison : Bool) : State :=
  { s with
    grades := mset 0 s.grades line grade
    badLines := if poison then addTo line s.badLines else dropFrom line s.badLines }

/-- The portions of a chunk that are whole granules of one line. -/
def lineGrains (ps : List Portion) (line : Nat) : List (Nat × Portion) :=
  (List.zip (upFrom 0 ps.length) ps).filter (fun x => x.2.off / 64 == line && x.2.runs.map (fun r => r.2.length) == [8])

/-- The line that all eight granules of a portion's line have been written to, and whether with poison. -/
def ChunkMove.fullLine (m : ChunkMove) (ps : List Portion) (x : Portion) : Option (LineAt × Bool) :=
  let g := lineGrains ps (x.off / 64)
  match (g.head?.bind (fun y => mfind y.1 m.lines)) with
  | some l =>
    if g.length == 8 && g.all (fun y => mfind y.1 m.lines == some l) then some (l, g.any (fun y => y.2.poison.isSome)) else none
  | none => none

/-- What follows a write to memory of this module: its line counts as written in full with the last of its eight granules. -/
def State.lineWritten (s : State) (m : ChunkMove) (ps : List Portion) (x : Portion) : State :=
  match m.fullLine ps x with
  | some (l, poison) => if l.home = none then s.fullLine l.line l.grade poison else s
  | none => s

/-- Whether the command's writes leave the tile, and so are folded (R96, R104). A spawned task's copy into the operand buffers that its
rank and index name goes to its spawner's tile (R334) and is folded too (DESIGN CHOICE, log 54). -/
def leaves (n : Nat) (k : Task) (place : Place) : Bool :=
  match place with
  | .own => false
  | .buffer m _ => m != n || k.work != .dispatched
  | _ => true

/-- What a portion adds to the digest: one value for each granule that it touches in its chunk; a cell add by itself, as a kiln quire add,
kind 5 (R96, DESIGN CHOICE, log 54). -/
def CopyCmd.foldPortion (c : CopyCmd) (x : Portion) : Word :=
  if c.record.dkind = 4 then (x.runs.map (fun r => foldWrite (c.dstAddr (x.off + r.1)).toNat r.2 5 0)).sum
  else
    let at_ := x.runs.foldl (fun y r => (y.1 + ofBytes r.2 * 2 ^ (8 * r.1), y.2 + (2 ^ r.2.length - 1) * 2 ^ r.1)) (0, 0)
    BitVec.ofNat 64 (crc64 (toBytes 8 (c.dstAddr x.off).toNat ++ toBytes 8 at_.1 ++ toBytes 8 at_.2))

/-- The tile whose semaphore counts landed bytes (R104, R159). -/
def semaphoreTile (n : Nat) : Place → Option Nat
  | .own => some n
  | .tile m => some m
  | .buffer m _ => some m
  | _ => none

/-- What follows a write: it is folded once (R96). -/
def State.portionDone (s : State) (n : Nat) (k : Task) (c : CopyCmd) (m : ChunkMove) (i : Nat) (place : Place) (x : Portion) : State :=
  if leaves n k place && !bit m.folded i then s.fold n (c.foldPortion x) else s

/-- A chunk under way with the i-th write of its list made. -/
def ChunkMove.written (m : ChunkMove) (i : Nat) (sent : Option Sending) (line : Option LineAt) : ChunkMove :=
  { m with
    wrote := m.wrote ||| 2 ^ i, folded := m.folded ||| 2 ^ i
    sent := m.sent ++ (sent.map (fun x => { x with index := some i })).toList
    lines := match line with | some l => mput i l m.lines | none => m.lines }

/-- Some portions of a chunk's list written, each under its place in the list. -/
def State.writePortions (s : State) (n : Nat) (k : Task) (c : CopyCmd) (ps : List Portion) :
    ChunkMove → List (Nat × Portion) → Option CopyStop × ChunkMove × State
  | m, [] => (none, m, s)
  | m, (i, x) :: xs =>
    match s.performPortion n k c x with
    | (.error e, s1) => (some e, m, s1)
    | (.ok (place, sent, line), s1) =>
      let m1 := m.written i sent line
      let s2 := s1.portionDone n k c m i place x
      (if place = .memory then s2.lineWritten m1 ps x else s2).writePortions n k c ps m1 xs

/-! ## Counting (R159, R160) -/

/-- The parts that some portions belong to. -/
def partsOf (ps : List Portion) : List Nat := ps.foldl (fun l x => addTo x.part l) []

/-- The parts of a chunk whose every write has landed. -/
def ChunkMove.landedParts (m : ChunkMove) (ps : List Portion) : List Nat :=
  (partsOf ps).filter (fun p => (List.zip (upFrom 0 ps.length) ps).all (fun x =>
    x.2.part != p || (bit m.wrote x.1 && !m.sent.any (fun y => y.index == some x.1))))

/-- The byte counts of some parts added, one after the other, to the semaphore that the command names; those for a tile of another module
leave as flits, which it has to answer. -/
def State.countParts (s : State) (n : Nat) (k : Task) (c : CopyCmd) (ps : List Portion) : List Nat → List Sending × State
  | [] => ([], s)
  | p :: rest =>
    let count := ((ps.filter (fun x => x.part == p)).map Portion.count).sum
    match s.resolve n k c.dst.toNat 0 0 with
    | .error _ => ([], s)
    | .ok (.away d, _) =>
      match s.request { cls := 1, dst := d, part := k.part, job := k.job, launch := k.launch
                        cargo := .write c.dst [] c.user none false false (some (c.sem, count)) } with
      | none => ([], s)
      | some (tag, s1) =>
        let r := s1.countParts n k c ps rest
        ({ tag := tag, addr := c.dst, home := d } :: r.1, r.2)
    | .ok (place, _) =>
      match semaphoreTile n place with
      | some y => (s.mapTile y (fun t => t.addSema c.sem count)).countParts n k c ps rest
      | none => ([], s)

/-! ## Starting a chunk (R105, R115, R151) -/

/-- The first address fault that starting a chunk finds, BANKSET among them (R105, R115, R151). -/
def State.addressFault (s : State) (n : Nat) (k : Task) (c : CopyCmd) (chunk : Nat) : List Nat → Option CopyStop
  | [] => none
  | u :: us =>
    let r := c.record
    let y := r.share chunk u
    let check (from_ : Word) (disp : Int) (len : Nat) : Option CopyStop :=
      let a := displaced from_ disp
      match s.resolve n k from_.toNat disp len with
      | .error e => some (.fault a e)
      | .ok (place, off) => if place = .own ∧ r.outside off len then some (.fault a 4) else none
    match check c.src (r.srcAt u) r.srcLen, check c.dst (r.dstAt u + Int.ofNat y.1) (y.2 - y.1) with
    | some e, _ => some e
    | none, some e => some e
    | none, none => s.addressFault n k c chunk us

/-- The first translation fault that starting a chunk finds (R151). -/
def State.translationFault (s : State) (n : Nat) (k : Task) (c : CopyCmd) (chunk : Nat) : List Nat → Option CopyStop × State
  | [] => (none, s)
  | u :: us =>
    let r := c.record
    let w := c.who (s.tile n) n
    let y := r.share chunk u
    let check (from_ : Word) (disp : Int) (len : Nat) (right : Right) (s : State) : Option CopyStop × State :=
      match s.resolve n k from_.toNat disp len with
      | .ok (.memory, off) =>
        match s.checkPages w right (pagePieces off len) with
        | (some f, s1) => (some (.fault (BitVec.ofNat 64 f.addr) f.cause), s1)
        | (none, s1) => (none, s1)
      | _ => (none, s)
    match check c.src (r.srcAt u) r.srcLen .read s with
    | (some e, s1) => (some e, s1)
    | (none, s1) =>
      match check c.dst (r.dstAt u + Int.ofNat y.1) (y.2 - y.1) .write s1 with
      | (some e, s2) => (some e, s2)
      | (none, s2) => s2.translationFault n k c chunk us

/-- The first fault that starting a chunk finds: the addresses of all its units are checked before any page is translated (R151). -/
def State.startFault (s : State) (n : Nat) (k : Task) (c : CopyCmd) (chunk : Nat) (us : List Nat) : Option CopyStop × State :=
  match s.addressFault n k c chunk us with
  | some e => (some e, s)
  | none => s.translationFault n k c chunk us

/-! ## Commands -/

def Tile.copy? (t : Tile) (id : Nat) : Option CopyCmd := t.copies.find? (fun c => c.id == id)

def Tile.setCopy (t : Tile) (c : CopyCmd) : Tile := { t with copies := t.copies.map (fun x => if x.id = c.id then c else x) }

/-- A command whose channel predecessor has completed (R138). -/
def Tile.headsChannel (t : Tile) (c : CopyCmd) : Bool :=
  ((t.copies.filter (fun x => x.ch == c.ch && x.phase != .cancelled)).head?.map CopyCmd.id) == some c.id

/-- A command that may start (R138). -/
def Tile.copyReady (t : Tile) (c : CopyCmd) : Bool :=
  c.phase == .waiting && c.waits.isEmpty && !c.doomed && t.headsChannel c

/-- A command starts: its bank set enters the table (R115, R138). -/
def Tile.startCopy (t : Tile) (c : CopyCmd) : Tile :=
  (t.setCopy { c with phase := .running, age := 0 }).reserve c.id c.record.banks

/-- A started chunk that has neither landed nor been lost. -/
def CopyCmd.inFlight (c : CopyCmd) : Bool := (upFrom 0 c.started).any (fun i => !c.map.getLsbD i && !c.lost.getLsbD i)

/-- The completion event of a command with CEV (R157, R240). -/
def CopyCmd.completion (c : CopyCmd) (status : Nat) : Completion :=
  { cause := 0, info := BitVec.ofNat 64 (c.ch + 2 ^ 8 * produced c.ctl + 2 ^ 16 * status) }

/-- The newest command of a channel has ended (R156). -/
def Tile.endNewest (t : Tile) (c : CopyCmd) : Tile :=
  let nw := mget { id := 0, map := 0, recent := 0, ended := false } t.newest c.ch
  if nw.id = c.id then
    { t with newest := mset { id := 0, map := 0, recent := 0, ended := false } t.newest c.ch { nw with ended := true } }
  else t

/-- A command leaves the engine; its banks leave the table as the cycle ends. -/
def Tile.dropCopy (t : Tile) (c : CopyCmd) : Tile :=
  { (t.leave c.id) with copies := t.copies.filter (fun x => x.id != c.id) }

/-- A command ends: it leaves, and its completion event is raised (R156, R157). -/
def Tile.endCopy (t : Tile) (c : CopyCmd) (status : Nat) : Tile :=
  let t1 := (t.endNewest c).dropCopy c
  if c.cev then t1.complete (c.completion status) else t1

/-- A command completes, cleanly or faulted, and its token with it (R152, R155). -/
def Tile.completeCopy (t : Tile) (c : CopyCmd) (ok : Bool) : Tile :=
  (t.finish c.id (produced c.ctl) ok).endCopy c (if ok then 0 else 1)

/-- Commands bound to a FAULTED token complete faulted as they head their channel (R153), by fuel. -/
def Tile.dropDoomedCopies (t : Tile) : Nat → Tile
  | 0 => t
  | n + 1 =>
    match t.copies.find? (fun c => c.phase == .waiting && c.doomed && t.headsChannel c) with
    | some c => (t.completeCopy c false).dropDoomedCopies n
    | none => t

/-- A command that has not started is bound to a FAULTED token and heads its channel. -/
def Tile.hasDoomed (t : Tile) : Bool :=
  t.copies.any (fun c => c.phase == .waiting && c.doomed && t.headsChannel c)
    || (match t.matrix.channel with | some (c, none) => c.doomed | _ => false)

/-- The commands of both engines bound to FAULTED tokens complete faulted, and what is bound to theirs after them (R153, R384), by
fuel. -/
def Tile.dropFaulted (t : Tile) : Nat → Tile
  | 0 => t
  | n + 1 => if t.hasDoomed then ((t.dropDoomed 4).dropDoomedCopies t.copies.length).dropFaulted n else t

/-- Everything that a FAULTED token completes. -/
def Tile.settleFaults (t : Tile) : Tile := t.dropFaulted (t.copies.length + 4)

/-- What a change to a command leads to: it completes when every chunk has landed, or when it is aborted or cancelled and
nothing of it is in flight. -/
def Tile.settleCopy (t : Tile) (id : Nat) : Tile :=
  match t.copy? id with
  | none => t
  | some c =>
    let all := (upFrom 0 c.record.chunks).all (fun i => c.map.getLsbD i)
    let t1 := match c.phase with
      | .cancelled => if c.inFlight then t else t.dropCopy c
      | .aborted => if c.inFlight then t else t.endCopy c 1
      | .running => if all then t.completeCopy c true else t
      | _ => t
    t1.settleFaults

/-- A command is aborted: its token is FAULTED at once, and it starts no further chunk (R128, R152). -/
def Tile.abortCopy (t : Tile) (c : CopyCmd) : Tile :=
  (t.setCopy { c with phase := .aborted }).finish c.id (produced c.ctl) false

/-- A chunk that will not land, as far as it was started; what of it has been folded is remembered. -/
def CopyCmd.lose (c : CopyCmd) (chunk : Nat) : CopyCmd :=
  { c with
    lost := if chunk < c.started then c.lost ||| BitVec.twoPow 256 chunk else c.lost
    moves := (c.moves.filter (fun m => m.chunk != chunk || m.folded != 0)).map (fun m =>
      if m.chunk = chunk then { chunk := chunk, folded := m.folded } else m) }

/-- A suspended command restarts at its lowest faulting chunk, whatever else of it has landed meanwhile (R128). -/
def CopyCmd.suspend (c : CopyCmd) (chunk : Nat) : CopyCmd :=
  { c.lose chunk with
    phase := if c.phase = .running then .suspended else c.phase
    redo := if c.phase = .running then chunk else min c.redo chunk }

/-- What the engine holds of a chunk. -/
def CopyCmd.move (c : CopyCmd) (chunk : Nat) : ChunkMove := (c.moves.find? (fun m => m.chunk == chunk)).getD { chunk := chunk }

def CopyCmd.setMove (c : CopyCmd) (m : ChunkMove) : CopyCmd := { c with moves := replaceBy (fun x => x.chunk == m.chunk) m c.moves }

/-- What a chunk leaves that goes no further: what it has asked and sent is nobody's (R126), and when its command suspends, what has landed
of it counts part by part (R160). -/
def State.leaveChunk (s : State) (n id chunk : Nat) (suspends : Bool) : State :=
  match (s.tile n).copy? id, (s.tile n).task with
  | some c, some k =>
    let m := c.move chunk
    let ps := c.portions m
    let r := if suspends && c.semv && !m.counted then s.countParts n k c ps (m.landedParts ps) else ([], s)
    r.2.strand (ChunkMove.strays c { m with sent := m.sent ++ r.1 } k.part k.job)
  | _, _ => s

/-- A fault that suspends a running command (R128). -/
def CopyStop.suspends : CopyStop → Bool
  | .fault _ cause => decide (5 ≤ cause)
  | .poison _ => false

/-- The consequence of a fault at a chunk: abort or suspension, with its one event; what is aborted or cancelled raises no other
(R128, R134, R151, R153, R154). -/
def Tile.stopCopy (t : Tile) (id chunk : Nat) (e : CopyStop) : Tile :=
  match t.copy? id with
  | none => t
  | some c =>
    let gone := c.phase == .aborted || c.phase == .cancelled
    let abort (ev : Event) : Tile := (((t.setCopy (c.lose chunk)).abortCopy (c.lose chunk)).alarm ev).settleCopy id
    match e with
    | .poison line =>
      if c.phase = .aborted then (t.setCopy (c.lose chunk)).settleCopy id
      else if c.phase = .cancelled then ((t.setCopy (c.lose chunk)).alarm { code := .poisonConsumed, info := line }).settleCopy id
      else abort { code := .poisonConsumed, info := line }
    | .fault a cause =>
      let ev : Event := { copyFaultEvent cause a with cmd := c.id }
      if gone then (t.setCopy (c.lose chunk)).settleCopy id
      else if cause < 5 then abort ev
      else
        let t1 := t.setCopy (c.suspend chunk)
        if c.phase = .running then t1.alarm ev else t1

/-- A STOP looks again at what it waits for, as a copy of an ENDed task is suspended (R53, R68, DESIGN CHOICE, log 72). -/
def State.stopLooks (s : State) (n : Nat) : State :=
  match (s.tile n).task with
  | some k =>
    if (s.tile n).phase = .ended ∧ (s.part k.part).stopping.isSome = true then
      s.addCause { part := k.part, job := k.job, addr := 0, what := .gone }
    else s
  | none => s

/-- A chunk stopped by a fault or by poison. -/
def State.stopCopy (s : State) (n id chunk : Nat) (e : CopyStop) : State :=
  let gone := ((s.tile n).copy? id).any (fun c => c.phase == .aborted || c.phase == .cancelled)
  let suspends := e.suspends && !gone
  let s1 := (s.leaveChunk n id chunk suspends).mapTile n (fun t => t.stopCopy id chunk e)
  if suspends then s1.stopLooks n else s1

def Tile.setMove (t : Tile) (id : Nat) (m : ChunkMove) : Tile :=
  match t.copy? id with
  | some c => t.setCopy (c.setMove m)
  | none => t

/-- The bits of a chunk map set last, at their count of tile cycles (R387). -/
def Newest.mark (nw : Newest) (bits : BitVec 256) (now : Word) : Newest :=
  { nw with map := nw.map ||| bits, recent := if nw.stamp = now then nw.recent ||| bits else bits, stamp := now }

/-- A chunk has landed: its bit is set, and the command may complete (R155). -/
def Tile.chunkDone (t : Tile) (c : CopyCmd) (chunk : Nat) : Tile :=
  let bits := BitVec.twoPow 256 chunk
  let t1 := t.setCopy { c with map := c.map ||| bits, moves := c.moves.filter (fun m => m.chunk != chunk) }
  let none_ : Newest := { id := 0, map := 0, recent := 0, ended := false }
  let nw := mget none_ t1.newest c.ch
  (if nw.id = c.id then { t1 with newest := mset none_ t1.newest c.ch (nw.mark bits t.cycles) } else t1).settleCopy c.id

/-- Every write of a chunk has been made and no other module has one to answer. -/
def ChunkMove.complete (m : ChunkMove) (portions : Nat) : Bool :=
  !m.data.isEmpty && m.asked.isEmpty && m.sent.isEmpty && (upFrom 0 portions).all (fun i => bit m.wrote i)

/-- A chunk that is complete lands, once its parts have been counted (R155, R159): none counts before the chunk can fault no more, for
the bytes of an aborted chunk never do (R160, DESIGN CHOICE, log 69). -/
def State.landChunk (s : State) (n id chunk : Nat) : State :=
  match (s.tile n).copy? id, (s.tile n).task with
  | some c, some k =>
    let m := c.move chunk
    let ps := c.portions m
    let r := if c.semv && !m.counted then s.countParts n k c ps (partsOf ps) else ([], s)
    if m.complete ps.length then
      if r.1.isEmpty then r.2.mapTile n (fun t => match t.copy? id with | some c => t.chunkDone c chunk | none => t)
      else r.2.mapTile n (fun t => t.setMove id { m with counted := true, sent := r.1 })
    else s
  | _, _ => s

/-- Some portions of a chunk written. -/
def State.writeNamed (s : State) (n : Nat) (k : Task) (c : CopyCmd) (m : ChunkMove) (ps : List Portion) (todo : List (Nat × Portion)) :
    State :=
  match (s.nextFree.mapTile n (fun t => t.setCopy (c.setMove m))).writePortions n k c ps m todo with
  | (stop, m1, s1) =>
    let s2 := s1.mapTile n (fun t => t.setMove c.id m1)
    match stop with
    | some e => s2.stopCopy n c.id m.chunk e
    | none => s2

/-- Portions of a command whose source may be written over: the source granules that they replace are kept first, and asked for where
another module holds them; the portions wait for those (R151). -/
def State.writeOver (s : State) (n : Nat) (k : Task) (c : CopyCmd) (m : ChunkMove) (ps : List Portion) (todo : List (Nat × Portion)) :
    State :=
  let need := s.replaced n k c (todo.map Prod.snd)
  let before (v : Nat) : Bool := (c.setMove m).moves.any (fun y => y.saving.any (fun z => z.off == 8 * v))
  match s.keepGrains n k c (need.filter (fun v => !before v)) c.kept [] with
  | (kept, saving, s1) =>
    let c1 := { c with kept := kept }
    let m1 := { m with saving := m.saving ++ saving }
    if need.any (fun v => before v || saving.any (fun z => z.off == 8 * v)) then s1.mapTile n (fun t => t.setCopy (c1.setMove m1))
    else s1.writeNamed n k c1 m1 ps (todo.map (fun x => (x.1, s1.freed n k c1 x.2)))

/-- The named portions of a chunk whose sources are at hand are written (R177). Poisoned data for a tile land nowhere (R134). -/
def State.writeParts (s : State) (n : Nat) (k : Task) (c : CopyCmd) (m : ChunkMove) (parts : Nat) : State :=
  let ps := c.portions m
  let unread := m.unread (c.sourceGrains m.chunk)
  let ready := (List.zip (upFrom 0 ps.length) ps).filter (fun x => x.2.units.all (c.atHand unread))
  match if c.intoTile then ready.findSome? (fun x => x.2.poison) else none with
  | some line => (s.mapTile n (fun t => t.setMove c.id m)).stopCopy n c.id m.chunk (.poison line)
  | none =>
    let todo := ready.filter (fun x => bit parts x.1 && !bit m.wrote x.1)
    if c.mayOverlap then s.writeOver n k c m ps todo else s.writeNamed n k c m ps todo

/-- Every tile-store access of a command has performed: its source is the own tile store, its destination is not, and what it may still
read has been read (R115). -/
def CopyCmd.storeDone (c : CopyCmd) : Bool :=
  let ends := c.phase == .aborted || c.phase == .cancelled || (c.phase == .running && decide (c.record.chunks ≤ c.started))
  let read (i : Nat) : Bool :=
    let m := c.move i
    let gs := c.sourceGrains i
    c.map.getLsbD i || c.lost.getLsbD i || (!m.data.isEmpty && (upFrom 0 gs.length).all (fun j => bit m.got j))
  decide (field c.src.toNat 63 60 = 8) && decide (field c.dst.toNat 63 60 ≠ 8) && ends && (upFrom 0 c.started).all read

/-- The banks of a command that needs them no more leave the table (R115). -/
def Tile.leaveStore (t : Tile) (id : Nat) : Tile :=
  match t.copy? id with
  | some c => if c.storeDone && t.reserved.any (fun r => r.1 == id) then t.leave id else t
  | none => t

/-- A chunk under way takes a step: it reads the named granules that it has not read, and the named parts of it whose sources are at hand
are written (R110, R170, R177). -/
def State.stepChunk (s0 : State) (n : Nat) (c : CopyCmd) (chunk parts : Nat) : State :=
  let s := s0.mapTile n (fun t => t.performBefore c.record.banks)
  match (s.tile n).task with
  | none => s
  | some k =>
    match s.readGrains n k c parts 0 ((c.move chunk).begun c.record) (c.sourceGrains chunk) with
    | (some e, m, s1) => (s1.mapTile n (fun t => t.setMove c.id m)).stopCopy n c.id chunk e
    | (none, m, s1) => (s1.writeParts n k c m parts).mapTile n (fun t => t.leaveStore c.id)

/-- The chunks of a running command started in ascending order up to one; the first that faults stops it (R151), by fuel. A redo
passes over the chunks that have landed (R128). -/
def State.startChunks (s : State) (n id chunk : Nat) : Nat → State
  | 0 => s
  | fuel + 1 =>
    match (s.tile n).copy? id, (s.tile n).task with
    | some c, some k =>
      if c.phase = .running ∧ c.started ≤ chunk then
        let next (s : State) : State := s.mapTile n (fun t => t.setCopy { c with started := c.started + 1 })
        if c.map.getLsbD c.started then (next s).startChunks n id chunk fuel
        else
          match s.startFault n k c c.started (c.record.inChunk c.started) with
          | (some e, s1) => s1.stopCopy n c.id c.started e
          | (none, s1) => (next s1).startChunks n id chunk fuel
      else s
    | _, _ => s

/-- Every granule of a chunk's source and every part of its destination. -/
def allParts : Nat := 2 ^ 2048 - 1

/-- A chunk starts, if it has not, and takes a step; with its last write it lands, unless the tile's cycles count it (R155,
R165). -/
def State.moveChunk (s : State) (n id chunk parts : Nat) (land : Bool) : State :=
  let s1 := s.startChunks n id chunk 257
  match (s1.tile n).copy? id with
  | some c =>
    if chunk < c.started ∧ c.map.getLsbD chunk = false ∧ c.lost.getLsbD chunk = false then
      let s2 := s1.stepChunk n c chunk parts
      if land then s2.landChunk n id chunk else s2
    else s1
  | none => s1

/-! ## What another module answers to a copy (R124, R160) -/

/-- The chunk under way that asked or sent under a tag. -/
def ChunkMove.awaits (m : ChunkMove) (tag : Nat) : Bool :=
  m.asked.any (fun q => q.tag == tag) || m.sent.any (fun x => x.tag == tag) || m.saving.any (fun x => x.tag == tag)

/-- A chunk under way takes an answer: the command as it goes on, or why the chunk stops. -/
def CopyCmd.takeAnswer (c : CopyCmd) (m : ChunkMove) (tag : Nat) (a : Answer) : Except CopyStop CopyCmd :=
  let read (off n : Nat) : GrainRead :=
    { bytes := (a.bytes ++ List.replicate n 0).take n, glaze := a.glaze, poison := if a.poison then some (c.srcAddr off &&& ~~~63) else none }
  match m.asked.find? (fun q => q.tag == tag), m.sent.find? (fun x => x.tag == tag), m.saving.find? (fun x => x.tag == tag) with
  | some q, _, _ =>
    if a.cause ≠ 0 then .error (.fault (c.srcAddr q.off) a.cause)
    else
      .ok (c.setMove { m with
        asked := m.asked.filter (fun x => x.tag != tag)
        data := c.spread q.off (read q.off q.len) m.data (mget [] (c.sourceGrains m.chunk) (q.off / 8)) })
  | none, some x, _ =>
    if a.cause ≠ 0 then .error (.fault x.addr a.cause)
    else if a.poison then .error (.poison (x.addr &&& ~~~63))
    else
      .ok (c.setMove { m with
        sent := m.sent.filter (fun y => y.tag != tag)
        lines := match x.index, a.line with
          | some i, some l => mput i { home := some x.home, line := l.1, grade := l.2 } m.lines
          | _, _ => m.lines })
  | none, none, some x =>
    if a.cause ≠ 0 then .error (.fault (c.srcAddr x.off) a.cause)
    else
      .ok { c.setMove { m with saving := m.saving.filter (fun y => y.tag != tag) } with kept := mput (x.off / 8) (read x.off x.len) c.kept }
  | none, none, none => .ok c

/-- The home of a line is told that its eight granules have all been written there, once it has answered the last of them, the i-th write
of a chunk (R131, R133). -/
def State.tellHome (s : State) (n id chunk : Nat) (i : Option Nat) : State :=
  match (s.tile n).copy? id, (s.tile n).task, i with
  | some c, some k, some i =>
    let m := c.move chunk
    let ps := c.portions m
    match (ps[i]?).bind (m.fullLine ps) with
    | some ({ home := some d, line := line, grade := grade }, poison) =>
      match s.request { cls := 1, dst := d, part := k.part, job := k.job, launch := 0, cargo := .line line grade poison } with
      | some (tag, s1) =>
        s1.mapTile n (fun t => t.setMove id { m with
          sent := m.sent ++ [{ tag := tag, addr := c.dstAddr (((ps[i]?).map Portion.off).getD 0), home := d }] })
      | none => s
    | _ => s
  | _, _, _ => s

/-- An answer to a copy of a tile, if one of its copies waits for it. -/
def State.answerCopy (s : State) (n tag : Nat) (a : Answer) : Option State :=
  ((s.tile n).copies.findSome? (fun c => (c.moves.find? (fun m => m.awaits tag)).map (fun m => (c, m)))).map (fun x =>
    match x.1.takeAnswer x.2 tag a with
    | .error e => s.stopCopy n x.1.id x.2.chunk e
    | .ok c =>
      let i := (x.2.sent.find? (fun y => y.tag == tag)).bind Sending.index
      ((s.mapTile n (fun t => t.setCopy c)).tellHome n x.1.id x.2.chunk i).landChunk n x.1.id x.2.chunk)

/-- As suspended commands restart, what their chunks from there on have landed counts, and what those have sent is nobody's (R126, R128,
R160). -/
def State.leaveRedone (s : State) (n : Nat) : State :=
  ((s.tile n).copies.filter (fun c => c.phase == .reported)).foldl (fun s c =>
    (c.moves.filter (fun m => decide (c.redo ≤ m.chunk))).foldl (fun s m => s.leaveChunk n c.id m.chunk true) s) s

/-- The notifies of a chunk that have been acknowledged (R135). -/
def ChunkMove.acknowledged (m : ChunkMove) (tags : List Nat) : ChunkMove :=
  { m with owed := m.owed.filter (fun k => !tags.contains k.2) }

def CopyCmd.acknowledged (c : CopyCmd) (tags : List Nat) : CopyCmd :=
  { c with
    moves := c.moves.map (fun m => m.acknowledged tags)
    kept := c.kept.map (fun x => (x.1, { x.2 with owed := x.2.owed.filter (fun k => !tags.contains k) })) }

def Tile.acknowledged (t : Tile) (tags : List Nat) : Tile := { t with copies := t.copies.map (fun c => c.acknowledged tags) }

/-! ## Exact timing (R165, R166, R225) -/

/-- A copy within the issuing tile, whose timing is exact in fixed timing (R165). The operand buffers that a spawned task's index names are
those of its spawner's tile (R334). -/
def CopyCmd.local_ (c : CopyCmd) (rank : Nat) (k : Task) : Bool :=
  decide (field c.src.toNat 63 60 = 8)
    && (decide (field c.dst.toNat 63 60 = 8)
        || (decide (field c.dst.toNat 63 60 = 0xB) && decide (field c.dst.toNat 55 48 = rank)
            && decide (field c.dst.toNat 41 32 = k.index) && decide (k.work = .dispatched)))

/-- The chunks of a local copy whose cycle has come (R165). -/
def CopyCmd.dueChunks (c : CopyCmd) : List Nat :=
  (upFrom 0 c.record.chunks).filter (fun i =>
    !c.map.getLsbD i && !c.lost.getLsbD i && decide (6 + ceilDiv (c.record.sourceBytes i) 256 ≤ c.age))

/-- The commands among the given ones that are still ready start. -/
def Tile.startCopies (t : Tile) (ids : List Nat) : Tile :=
  ids.foldl (fun t id => match t.copy? id with | some c => if t.copyReady c then t.startCopy c else t | none => t) t

/-! ## Links that two transfers share (R10, R14) -/

/-- Where a message may end, as far as the rules place it: at a tile's router, on a die, or anywhere (log 12). -/
inductive Spot where
  | tile (n : Nat)
  | die (d : Nat)
  | anywhere
  deriving DecidableEq, Repr

/-- The first and the last mesh column and row of a spot (R10). -/
def Spot.columns : Spot → Nat × Nat
  | .tile n => (8 * (dieOf n % 4) + n % 8, 8 * (dieOf n % 4) + n % 8)
  | .die d => (8 * (d % 4), 8 * (d % 4) + 7)
  | .anywhere => (0, 31)
def Spot.rows : Spot → Nat × Nat
  | .tile n => (8 * (dieOf n / 4) + n % 64 / 8, 8 * (dieOf n / 4) + n % 64 / 8)
  | .die d => (8 * (d / 4), 8 * (d / 4) + 7)
  | .anywhere => (0, 31)

/-- The least range that holds two. -/
def spanOf (a b : Nat × Nat) : Nat × Nat := (min a.1 b.1, max a.2 b.2)

/-- Two ranges have a number, or a link from one number to the next, in common. -/
def meets (a b : Nat × Nat) : Bool := decide (max a.1 b.1 ≤ min a.2 b.2)
def crosses (a b : Nat × Nat) : Bool := decide (max a.1 b.1 < min a.2 b.2)

/-- Two messages may share a link: each goes along the row of its source to the column of its end, then along that column (R14). -/
def sharesLink (a b c d : Spot) : Bool :=
  (meets a.rows c.rows && crosses (spanOf a.columns b.columns) (spanOf c.columns d.columns))
    || (meets b.columns d.columns && crosses (spanOf a.rows b.rows) (spanOf c.rows d.rows))

/-- Where the accesses to a place end. -/
def spotOf (n : Nat) : Place → Spot
  | .own => .tile n
  | .tile m => .tile m
  | .buffer m _ => .tile m
  | .kiln d => .die d
  | .memory => .anywhere
  | .away _ => .anywhere

/-- Where messages from a tile to a place of memory may end: at its own die for the stack of its pair, at either die of the pair for another
stack, and at the die of an LPDDR6 channel (R18, R20). -/
def memorySpots (n phys : Nat) : List Spot :=
  if 2 ^ 40 ≤ phys then [.die ((phys - 2 ^ 40) / 2 ^ 36)]
  else if dieOf n / 2 = phys / 2 ^ 36 then [.die (dieOf n)]
  else [.die (2 * (phys / 2 ^ 36)), .die (2 * (phys / 2 ^ 36) + 1)]

/-- Where the messages of accesses to some virtual addresses may end. -/
def State.spotsIn (s : State) (n : Nat) (w : Who) (r : Right) (as : List Nat) : List Spot :=
  as.flatMap (fun a =>
    match (translate s w r a).1 with
    | .ok l => if l.foreign then [.anywhere] else memorySpots n l.phys
    | .error _ => [.anywhere])

/-- The spot that an address of a tile's task names. -/
def State.spotAt (s : State) (n : Nat) (a : Word) : Spot :=
  match (s.tile n).task with
  | some k => (match s.resolve n k a.toNat 0 1 with | .ok (p, _) => spotOf n p | .error _ => .anywhere)
  | none => .anywhere

/-- The spot of the task that a message of a tile is for. -/
def State.spotOfPeer (s : State) (n : Nat) (a : Word) : Spot :=
  match (s.tile n).task with
  | some k => (match s.peer k (field a.toNat 55 48) (field a.toNat 41 32) with | .ok (some m, _) => .tile m | _ => .anywhere)
  | none => .anywhere

/-- The spots that a copy reads from and writes to. -/
def State.spotsOf (s : State) (n : Nat) (c : CopyCmd) : List Spot :=
  let w := c.who (s.tile n) n
  (if field c.src.toNat 63 60 = 0 then s.spotsIn n w .read (c.sourcePages.map (fun p => 65536 * p)) else [s.spotAt n c.src])
    ++ (if field c.dst.toNat 63 60 = 0 then s.spotsIn n w .write (c.destPages.map (fun p => 65536 * p)) else [s.spotAt n c.dst])

/-- The spots that a tile's transfers on their way lead to or come from, but those of one copy and, unless they count, those of its kiln
operations. -/
def State.partners (s : State) (n : Nat) (but : Option Nat) (kiln : Bool) : List Spot :=
  let t := s.tile n
  let moving := t.copies.filter (fun c => some c.id != but && (c.phase == .running || c.inFlight))
  (moving.flatMap (fun (c : CopyCmd) => s.spotsOf n c) ++ (if kiln then t.kiln.map (fun (o : KilnOp) => s.spotAt n o.addr) else [])
    ++ t.rputs.map (fun (r : Rput) => s.spotAt n r.addr) ++ t.sends.map (fun (m : Outgoing) => s.spotOfPeer n m.dest)
    ++ s.spotsIn n (t.who n) .execute (t.fills.map (fun f => 256 * f.1))).filter (fun x => x != Spot.tile n)

/-- No transfer of the module but those left out may share a link with a message from tile n to a spot. -/
def State.clearWay (s : State) (n : Nat) (dest : Spot) (but : Option Nat) (kiln : Bool) : Bool :=
  s.tiles.all (fun x =>
    (s.partners x.1 (if x.1 = n then but else none) (x.1 != n || kiln)).all (fun p =>
      !sharesLink (.tile x.1) p (.tile n) dest && !sharesLink p (.tile x.1) (.tile n) dest))

/-- The tile of the same die into whose store or buffers a copy from the own tile store goes (R166). -/
def State.peerTile (s : State) (n : Nat) (k : Task) (c : CopyCmd) : Option Nat :=
  let other (m : Nat) : Option Nat := if m ≠ n ∧ dieOf m = dieOf n then some m else none
  if field c.src.toNat 63 60 = 8 then
    match s.resolve n k c.dst.toNat 0 1 with
    | .ok (.tile m, _) => other m
    | .ok (.buffer m _, _) => other m
    | _ => none
  else none

/-- No other transfer may share a link of the way of a copy to another tile (R166). -/
def State.loneCopy (s : State) (n m : Nat) (c : CopyCmd) : Bool := s.clearWay n (.tile m) (some c.id) true

/-- The cycles from the start of a copy to another tile of the die to its completion, when no other transfer shares a link of
its route; more when one does (R166). -/
def CopyCmd.peerCycles (c : CopyCmd) : Nat := 34 + ceilDiv c.record.size 64

/-- The chunks of a command that have not landed. -/
def CopyCmd.missing (c : CopyCmd) : List Nat := (upFrom 0 c.record.chunks).filter (fun i => !c.map.getLsbD i && !c.lost.getLsbD i)

/-- A copy to another tile of the die, one cycle on: it completes at its cycle when nothing has shared its way (R166). -/
def State.peerTick (s : State) (n m : Nat) (c : CopyCmd) : State :=
  if s.loneCopy n m c && !c.shared then
    if c.peerCycles ≤ c.age then c.missing.foldl (fun s i => s.moveChunk n c.id i allParts true) s else s
  else s.mapTile n (fun t => t.setCopy { c with shared := true })

/-- One cycle of the copy engine: running copies age. In fixed timing the chunks of local copies land at their cycles, copies
to tiles of the die complete at theirs, and the commands that were ready before this cycle's completions start (R138, R165,
R166, R225). -/
def State.copyTick (s : State) (n : Nat) : State :=
  let t := s.tile n
  if t.newest.isEmpty then s
  else
    let t1 : Tile := { t with copies := t.copies.map (fun c => if c.phase = .running then { c with age := c.age + 1 } else c) }
    let s1 := s.setTile n t1
    match t.task with
    | some k =>
      if t.fixed then
        let rank := ownRank s (s.part k.part) k.job
        let ready := (t1.copies.filter t1.copyReady).map CopyCmd.id
        let run := t1.copies.filter (fun c => c.phase == .running)
        let s2 := (run.filter (fun c => c.local_ rank k)).foldl
          (fun s c => c.dueChunks.foldl (fun s i => s.moveChunk n c.id i allParts true) s) s1
        let s3 := (run.filter (fun c => !c.local_ rank k)).foldl
          (fun s c => match s1.peerTile n k c with | some m => s.peerTick n m c | none => s) s2
        s3.mapTile n (fun t => t.startCopies ready)
      else s1
    | none => s1

/-- The engines of a tile for one cycle in which it is not frozen: the banks of what completed in the cycle before leave the table,
then the copy engine and the matrix engine have their cycle, and what is bound to a FAULTED token completes (R116, R153, R165,
R218, R219, R373). -/
def State.engineTick (s : State) (n : Nat) : State :=
  let t := (s.tile n).releaseBanks
  (((s.setTile n t).copyTick n).matrixTick n t).mapTile n Tile.settleFaults

end Sys2Proof.Machine
end

