-- ==== Sys2Proof/Machine/Objects.lean ====
section
/-! DEFINITION. The code store, code objects and binding cells, their admission, and the preparation of a tile for a task
(R62, R78, R190, R193, R194, R296 to R299, R407 to R409). -/

namespace Sys2Proof.Machine

/-! ## The code store (R190) -/

/-- The set of the code store that a line belongs to. -/
def codeSet (line : Nat) : Nat := line % 256

/-- A resident line of a partition. -/
def Tile.codeLine (t : Tile) (part line : Nat) : Option CodeLine :=
  (mget [] t.code (codeSet line)).find? (fun l => l.line == line && l.part == part)

/-- A line used: it becomes the most recent of its set, which stands first. -/
def Tile.touchLine (t : Tile) (part line : Nat) : Tile :=
  let ways := mget [] t.code (codeSet line)
  match ways.find? (fun l => l.line == line && l.part == part) with
  | some l => { t with code := mset [] t.code (codeSet line) (l :: ways.filter (fun w => !(w.line == line && w.part == part))) }
  | none => t

/-- The last unpinned way of a set taken out. -/
def evict (ways : List CodeLine) : List CodeLine :=
  match ways.reverse.find? (fun w => !w.pinned) with
  | some v => ways.filter (fun w => !(w.line == v.line && w.part == v.part))
  | none => ways

/-- A line filled; the least recently used unpinned way makes room. -/
def Tile.fillLine (t : Tile) (l : CodeLine) : Tile :=
  let ways := (mget [] t.code (codeSet l.line)).filter (fun w => !(w.line == l.line && w.part == l.part))
  { t with code := mset [] t.code (codeSet l.line) (l :: (if ways.length < 4 then ways else evict ways)) }

/-- The 32-bit words of a list of bytes. -/
def wordsOf32 : Nat → List Byte → List Lane
  | 0, _ => []
  | n + 1, bs => BitVec.ofNat 32 (ofBytes (bs.take 4)) :: wordsOf32 n (bs.drop 4)

/-- A line of code read under the EX right (R192): its 64 words with the level of their leaf, or the fault or poison that stops it. -/
def State.readCodeLine (s : State) (w : Who) (line : Nat) : Except CopyStop (List Lane × Nat) × State :=
  if 2 ^ 55 ≤ 256 * line then (.error (.fault (BitVec.ofNat 64 (256 * line)) 1), s)
  else
    match s.readVirtual w .execute (256 * line) 256 with
    | (.error f, s1) => (.error (.fault (BitVec.ofNat 64 f.addr) f.cause), s1)
    | (.ok g, s1) =>
      match g.poison with
      | some a => (.error (.poison (BitVec.ofNat 64 a)), s1)
      | none => (.ok (wordsOf32 64 g.bytes, g.level), s1)

/-! ## The dispatcher's accesses -/

/-- The dispatcher as it makes accesses for a job of a partition: not below S level, through the partition's first die. -/
def State.dispatcher (s : State) (part : Nat) (job : Option Nat) : Who :=
  { part := part, job := job, user := false, die := (s.part part).dieList.headD 0, tile := none }

/-! ## Code objects (R296 to R298) -/

/-- One section entry (R297). -/
structure Section where
  kind   : Nat
  mask   : Nat
  mid    : Nat
  target : Nat
  len    : Nat
  foff   : Nat
  deriving DecidableEq, Repr

def sectionOf (e : BitVec 128) : Section :=
  let x := e.toNat
  { kind := field x 7 0, mask := field x 15 8, mid := field x 31 16, target := field x 63 32, len := field x 95 64,
    foff := field x 127 96 }

/-- The section entries of an object, as they lie after the header. -/
def sectionsOf : Nat → List Byte → List (BitVec 128)
  | 0, _ => []
  | n + 1, bs => BitVec.ofNat 128 (ofBytes (bs.take 16)) :: sectionsOf n (bs.drop 16)

/-- A kind whose contents lie in the object. -/
def Section.filled (x : Section) : Bool := [1, 2, 3, 4, 8].contains x.kind

/-- The reserved fields of an entry (condition 4). -/
def Section.clean (x : Section) : Bool :=
  decide (1 ≤ x.kind) && decide (x.kind ≤ 8) && decide (x.mid = 0)
    && (x.kind == 4 || (if x.kind = 6 then decide (x.mask < 64) else decide (x.mask = 0)))

/-- The limits of an entry (condition 5). Spill ranges that overlap one another are admitted, for condition 7 does not name them
(DESIGN CHOICE, log 71). -/
def Section.fits (x : Section) (entries size : Nat) : Bool :=
  decide (x.foff % 4 = 0) && (!x.filled || (decide (entries ≤ x.foff) && decide (x.foff + x.len ≤ size)))
    && (match x.kind with
        | 1 => decide (x.target = 0) && decide (x.len % 4 = 0) && decide (4 ≤ x.len)
        | 2 => decide (x.target + x.len ≤ 2 ^ 21)
        | 3 => decide (x.target < 256) && decide (x.len = 64)
        | 4 => decide (x.target + x.len ≤ 16384)
        | 5 => decide (x.target % 64 = 0) && decide (x.len % 64 = 0) && decide (x.target + x.len ≤ 2 ^ 21) && decide (x.foff = 0)
        | 6 => decide (x.target = 0) && decide (x.len = 0)
        | 7 => decide (x.target % 256 = 0) && decide (x.len % 256 = 0) && decide (x.target + x.len ≤ 2 ^ 21) && decide (x.foff = 0)
        | 8 => decide (1 ≤ x.len) && decide (x.len ≤ 64)
        | _ => true)

/-- Two sections whose targets overlap (condition 7). -/
def Section.overlaps (x y : Section) : Bool :=
  let meet := decide (max x.target y.target < min (x.target + x.len) (y.target + y.len))
  x.kind == y.kind && ((x.kind == 2 && meet) || (x.kind == 3 && x.target == y.target) || (x.kind == 4 && meet && (x.mask &&& y.mask) != 0))

def anyPair (f : Section → Section → Bool) : List Section → Bool
  | [] => false
  | x :: xs => xs.any (f x) || anyPair f xs

/-- The conditions of R298 that an object fails, ascending. -/
def objectFaults (stepping : Word) (bs : List Byte) : List Nat :=
  let h := ofBytes (bs.take 32)
  let size := field h 191 160
  let n := field h 127 112
  let es := (sectionsOf n (bs.drop 32)).map sectionOf
  let code := es.filter (fun x => x.kind == 1)
  let len := (code.head?.map Section.len).getD 0
  let entry (x : Nat) := decide (x % 4 = 0) && decide (x < len)
  let event := field h 159 128
  let checks : List (Bool × Nat) :=
    [(field h 31 0 != 0x31574345, 1), (field h 255 192 != stepping.toNat, 2),
     (size % 4 != 0 || decide (size < 32 + 16 * n) || n == 0 || decide (4096 < n) || field h 111 104 == 0, 3),
     (field h 103 32 != 0 || es.any (fun x => !x.clean), 4), (es.any (fun x => !x.fits (32 + 16 * n) size), 5),
     (code.length != 1, 6), (anyPair Section.overlaps es, 7),
     (es.any (fun x => x.kind == 3 && !Shape.valid (ofBytes ((bs.drop x.foff).take 64))), 8),
     ((event != 0xFFFFFFFF && !entry event) || es.any (fun x => x.kind == 8 && !entry x.target), 9)]
  (checks.filter Prod.fst).map Prod.snd

/-- What is kept of an object that passes (R296, R297). Its code section starts at a word (R276, log 53). -/
def objectOf (addr level : Nat) (bs : List Byte) : CodeObject :=
  let h := ofBytes (bs.take 32)
  let es := sectionsOf (field h 127 112) (bs.drop 32)
  let code := (es.map sectionOf).find? (fun x => x.kind == 1)
  let event := field h 159 128
  { addr := addr, level := level, size := field h 191 160
    codeBase := (addr + (code.map Section.foff).getD 0) / 4 * 4
    codeLen := (code.map Section.len).getD 0
    event := if event = 0xFFFFFFFF then none else some event
    clusters := BitVec.ofNat 8 (field h 111 104), sections := es }

/-- A whole object read, header first (R409): its bytes with the level of the leaf of its first line, or the INFO of a load fault and the
address that failed. -/
def State.readObject (s : State) (w : Who) (addr : Nat) : Except (Nat × Nat) (List Byte × Nat) × State :=
  let one (s : State) (n : Nat) : Except (Nat × Nat) (List Byte × Nat) × State :=
    match s.readVirtual w .execute addr n with
    | (.error f, s1) => (.error (10 + 2 ^ 8 * f.cause, f.addr), s1)
    | (.ok g, s1) => (match g.poison with | some a => .error (11, a) | none => .ok (g.bytes, g.level), s1)
  match one s 32 with
  | (.error e, s1) => (.error e, s1)
  | (.ok h, s1) => one s1 (max 32 (field (ofBytes h.1) 191 160))

/-- An object read and checked (R298, R409). -/
def State.checkObject (s : State) (w : Who) (addr : Nat) : Except (Nat × Nat) (CodeObject × List Byte) × State :=
  match s.readObject w addr with
  | (.error e, s1) => (.error e, s1)
  | (.ok (bs, level), s1) =>
    match objectFaults s.stepping bs with
    | c :: _ => (.error (c, addr), s1)
    | [] => (.ok (objectOf addr level bs, bs), s1)

/-- Entry 0x8040 LOAD_FAULT (R409). -/
def State.loadFault (s : State) (part : Nat) (e : Nat × Nat) : State := s.logModule 0x8040 e.1 e.2 part

/-- The object at an address, admitted to the partition when it is not yet: MC is extended and the admission counted (R62,
R409). -/
def State.admitObject (s : State) (part : Nat) (job : Option Nat) (addr : Nat) : Option CodeObject × State :=
  match (s.part part).objects.find? (fun o => o.addr == addr) with
  | some o => (some o, s)
  | none =>
    match s.checkObject (s.dispatcher part job) addr with
    | (.error e, s1) => (none, s1.loadFault part e)
    | (.ok (o, bs), s1) =>
      (some o, s1.mapPart part (fun p =>
        { p with objects := p.objects ++ [o], mc := extend p.mc bs, mcCount := p.mcCount + 1 }))

/-! ## Binding cells (R407, R408) -/

/-- USE of a cell of this module moved under its leaf by one atomic operation, neither logged nor folded (R408). -/
def State.moveUse (s : State) (w : Who) (l : Leaf) (cell : Nat) (up : Bool) : State :=
  let x := s.readLine l cell
  let use := ofBytes ((x.1.bytes.drop 16).take 8)
  let new := toBytes 8 (if up then use + 1 else use + (2 ^ 64 - 1))
  (x.2.setDirty w cell l).storeLine l (cell + 16) (pieceMask 16 8) (padLine 16 new) false none

/-- USE of a cell moved at its home by the dispatcher for a job (R124, R408). -/
def State.addUse (s : State) (part job cell : Nat) (up : Bool) : State :=
  let w := s.dispatcher part (some job)
  match translate s w .execute cell with
  | (.error _, s1) => s1
  | (.ok l, s1) => if l.foreign then (s1.awaitHome w l (.latch (BitVec.ofNat 64 cell) up)).2 else s1.moveUse w l cell up

/-- A cell of this module latched under its leaf: what it holds, and USE moved when it is bound, in one operation (R408). -/
def State.latchHere (s : State) (w : Who) (l : Leaf) (cell : Nat) : Got × State :=
  let x := s.readHere l cell 64
  match x.1.poison, cellGives cell x.1.bytes with
  | none, some (true, _) => (x.1, x.2.moveUse w l cell true)
  | _, _ => x

/-- A cell latched at its home (R124, R135, R408). -/
def State.latchBytes (s : State) (w : Who) (l : Leaf) (cell : Nat) : Except Nat Got × State :=
  if l.foreign then
    match s.awaitHome w l (.latch (BitVec.ofNat 64 cell) true) with
    | (none, s1) => (.ok { bytes := [], poison := none }, s1)
    | (some x, s1) =>
      if x.cause ≠ 0 then (.error x.cause, s1)
      else (.ok { bytes := (x.bytes ++ List.replicate 64 0).take 64, poison := if x.poison then some cell else none }, s1)
  else
    let x := s.latchHere w l cell
    (.ok x.1, x.2.awaitNotifies w x.1.shared)

/-- What a latch of a cell gives: the bound object's address, the stub's, or nothing when the cell is invalid (R408). -/
def State.latchCell (s : State) (part job cell : Nat) : Option (Bool × Nat) × State :=
  let w := s.dispatcher part (some job)
  match translate s w .execute cell with
  | (.error c, s1) => (none, s1.loadFault part (10 + 2 ^ 8 * c, cell))
  | (.ok l, s1) =>
    match s1.latchBytes w l cell with
    | (.error c, s2) => (none, s2.loadFault part (10 + 2 ^ 8 * c, cell))
    | (.ok g, s2) =>
      match g.poison with
      | some a => (none, s2.loadFault part (11, a))
      | none => (cellGives cell g.bytes, s2)

/-! ## Preparation of a tile (R78, R194, R299) -/

/-- Bytes of an object read as the tile is prepared; a range that no longer translates gives free bytes, and of a poisoned line the
bytes are taken and the mark is not (log 66). -/
def State.objectBytes (s : State) (w : Who) (addr n : Nat) : List Byte × State :=
  match s.readVirtual w .execute addr n with
  | (.ok g, s1) => (g.bytes, s1)
  | (.error _, s1) => ((upFrom addr n).map (Config.freeByte s1.fresh), s1.nextFree)

/-- The coefficient memory of each cluster of a mask written (R299 step 4). -/
def Tile.writeCoeff (t : Tile) (mask off : Nat) (bs : List Byte) : Tile :=
  (upFrom 0 8).foldl
    (fun t c => if mask.testBit c then t.setCluster c { t.cluster c with coeff := writeBytes (t.cluster c).coeff off bs } else t) t

/-- One section written into a tile. Tile images are left out at a resumption (R300). -/
def State.placeSection (s : State) (w : Who) (n addr : Nat) (images : Bool) (x : Section) : State :=
  let placed := (x.kind == 2 && images) || x.kind == 3 || x.kind == 4
  if placed then
    let (bs, s1) := s.objectBytes w (addr + x.foff) x.len
    s1.mapTile n (fun t =>
      if x.kind = 2 then { t with store := writeBytes t.store x.target bs }
      else if x.kind = 4 then t.writeCoeff x.mask x.target bs
      else { t with shapes := mset 0 t.shapes x.target (BitVec.ofNat 512 (ofBytes bs)) })
  else s

/-- A range put into a list of ranges that rises by offset (R212). -/
def byOffset (r : Nat × Nat) : List (Nat × Nat) → List (Nat × Nat)
  | [] => [r]
  | x :: xs => if r.1 < x.1 then r :: x :: xs else x :: byOffset r xs

/-- The task of an object: its clusters, handler, footprint and spill ranges (R299 steps 1 and 6). -/
def Task.under (k : Task) (o : CodeObject) : Task :=
  let es := o.sections.map sectionOf
  { k with
    object := o.addr, codeBase := o.codeBase, codeLen := o.codeLen, handler := o.event, clusters := o.clusters
    foot := (es.filter (fun x => x.kind == 5)).map (fun x => (x.target, x.len))
    footEng := BitVec.ofNat 6 ((es.filter (fun x => x.kind == 6)).foldl (fun m x => m ||| x.mask) 0)
    spill := (es.filter (fun x => x.kind == 7)).foldl (fun l x => byOffset (x.target, x.len) l) [] }

/-- The lines of an object filled and pinned in ascending order, at most three ways of a set (R194); a line that cannot be
read stays as it is. -/
def State.pinLines (s : State) (w : Who) (n part : Nat) : List Nat → State
  | [] => s
  | line :: ls =>
    match s.readCodeLine w line with
    | (.error _, s1) => s1.pinLines w n part ls
    | (.ok (ws, level), s1) =>
      let add (t : Tile) : Tile :=
        let pins := (mget [] t.code (codeSet line)).filter CodeLine.pinned
        t.fillLine { line := line, part := part, pinned := decide (pins.length < 3), data := ws, level := level }
      (s1.mapTile n add).pinLines w n part ls

def State.pinObject (s : State) (n : Nat) (k : Task) (o : CodeObject) : State :=
  if k.clock = 0 then s
  else s.pinLines (s.dispatcher k.part (some k.job)) n k.part (upFrom (o.addr / 256) ((o.addr + o.size + 255) / 256 - o.addr / 256))

/-- A tile with its task and everything of it discarded (R95 step 1). Its code store stays, unpinned. -/
def Tile.emptied (t : Tile) : Tile := { t.discarded with user := {} }

/-- A tile whose task has retired: it is idle, and its lines are pinned no more (R80, R194). Its registers and memories stay as they
are until the next dispatch zeroes them (R299); what its engine still had to do is dropped (log 58). -/
def Tile.released (t : Tile) : Tile :=
  { t with
    phase := .idle, task := none, code := t.discarded.code, fills := [], fillFault := none, held := none, holds := 0, stall := none
    quires := [], reserved := [], units := { t.units with flights := [] }
    matrix := {} }

/-- A tile prepared for a task from a code object: everything zero but the images, s0 to s7 and mx.seed (R78, R101, R299). -/
def State.prepareTile (s : State) (n : Nat) (k : Task) (o : CodeObject) (entry : Nat) : State :=
  let k1 := k.under o
  let regs (t : Tile) : Tile :=
    { t with
      sGlobal := (upFrom 0 8).foldl (fun m j => mset 0 m j (nth 0 k.start j)) []
      units := { ports := mset 0 [] 0x137 (nth 0 k.start 6) } }
  let s1 := s.mapTile n (fun t => regs { t.emptied with task := some k1, phase := .running, pc := BitVec.ofNat 64 (o.codeBase + entry) })
  let w := s.dispatcher k.part (some k.job)
  ((o.sections.map sectionOf).foldl (fun s x => s.placeSection w n o.addr true x) s1).pinObject n k1 o

/-! ## ENTRY (R74) -/

/-- ENTRY of a record, legal in the code section of an object (R74). -/
def entryLegal (record : BitVec 1024) (o : CodeObject) : Bool :=
  let e := field record.toNat 159 128
  decide (e % 4 = 0) && decide (e < o.codeLen)

end Sys2Proof.Machine
end

