-- ==== Sys2Proof/Machine/Dispatcher.lean ====
section
/-! DEFINITION. The dispatcher: launch records, STATUS, posts, failures and rollbacks of jobs, the loop sequencer, the order
of dispatch, placement, pre-emption and the retirement of launches (R71 to R87, R94 to R99, R102). -/

namespace Sys2Proof.Machine

/-! ## Launch records (R71 to R73) -/

def LaunchState.number : LaunchState → Nat
  | .written => 0
  | .posted => 1
  | .ready => 2
  | .dispatching => 3
  | .running => 4
  | .retired => 5
  | .rejected => 6
  | .failed => 7

def launchStateOf : Nat → LaunchState
  | 0 => .written
  | 1 => .posted
  | 2 => .ready
  | 3 => .dispatching
  | 4 => .running
  | 5 => .retired
  | 6 => .rejected
  | _ => .failed

/-- A field of a latched launch record. -/
def Launch.get (l : Launch) (hi lo : Nat) : Nat := field l.record.toNat hi lo
def Launch.kind (l : Launch) : Nat := l.get 1 0
def Launch.prio (l : Launch) : Nat := l.get 4 2
def Launch.linked (l : Launch) : Bool := l.record.getLsbD 5
def Launch.clock (l : Launch) : Nat := l.get 7 6
def Launch.entry (l : Launch) : Nat := l.get 159 128
def Launch.digtab (l : Launch) : Nat := l.get 447 384
def Launch.digchk (l : Launch) : Bool := l.record.getLsbD 9
def Launch.succs (l : Launch) : List Nat := ([l.get 703 640, l.get 767 704]).take (l.get 35 34)

/-- The nest of a record: depth, extent of a level, PERM position (R71). -/
def nlevOf (r : Nat) : Nat := field r 18 16
def extentOf (r lv : Nat) : Nat := field r (223 + 32 * lv) (192 + 32 * lv)
def permOf (r j : Nat) : Nat := field r (25 + 2 * j) (24 + 2 * j)

/-- N and T (R77). -/
def iterations (r : Nat) : Nat := ((upFrom 0 (nlevOf r)).map (extentOf r)).foldl (fun a b => a * b) 1
def taskCount (r : Nat) : Nat := ceilDiv (iterations r) (field r 191 160)
def Launch.tasks (l : Launch) : Nat := if l.kind = 0 then taskCount l.record.toNat else 0

/-- STATUS as the dispatcher writes it (R73); `status` keeps MISMATCH and SERMATCH. -/
def Launch.statusWord (l : Launch) : Word :=
  BitVec.ofNat 64 (l.state.number + (l.status.toNat % 2 ^ 11 / 2 ^ 8 * 2 ^ 8 ||| (if l.serial then 2 ^ 9 else 0))
    + (if l.detRead then 2 ^ 11 else 0) + 2 ^ 16 * (l.dispatched % 2 ^ 24) + 2 ^ 40 * (l.finished % 2 ^ 24))

/-- A launch as a STATUS word gives its progress. -/
def Launch.withStatus (l : Launch) (w : Nat) : Launch :=
  { l with
    state := launchStateOf (field w 3 0), status := BitVec.ofNat 64 (field w 10 8 * 2 ^ 8), serial := bit w 9, detRead := bit w 11
    dispatched := field w 39 16, finished := field w 63 40 }

/-! ## The dispatcher's reads and writes (R76) -/

/-- A dispatcher write for a job: logged like the job's own stores; one that faults is not made and fails the job. -/
def State.writeDispatch (s : State) (part job rec_ va : Nat) (bs : List Byte) : State :=
  match s.writeVirtual (s.dispatcher part (some job)) va bs false with
  | (none, s1) => s1
  | (some f, s1) => s1.addCause { part := part, job := job, addr := rec_, what := .writeFault f.addr }

/-- Bytes as the dispatcher reads them for a job, where it knows of one (log 52). -/
def State.readDispatch (s : State) (part : Nat) (job : Option Nat) (va n : Nat) : Except MemFault (List Byte) × State :=
  match s.readVirtual (s.dispatcher part job) .read va n with
  | (.ok g, s1) => (.ok g.bytes, s1)
  | (.error f, s1) => (.error f, s1)

/-- STATUS of a record in memory; a record that cannot be read has no STATE. -/
def State.statusAt (s : State) (part : Nat) (job : Option Nat) (addr : Nat) : Option Nat × State :=
  match s.readDispatch part job (addr + 96) 8 with
  | (.ok bs, s1) => (some (ofBytes bs), s1)
  | (.error _, s1) => (none, s1)

/-- A launch kept, and its STATUS written. -/
def State.writeLaunch (s : State) (part : Nat) (l : Launch) : State :=
  (s.mapPart part (fun p => p.setLaunch l)).writeDispatch part l.job l.addr (l.addr + 96) (toBytes 8 l.statusWord.toNat)

/-! ## Posts (R74, R75) -/

/-- A used address that is not 128-byte aligned or not of class 0x0. -/
def badRecordAddress (a : Nat) : Bool := a % 128 != 0 || decide (2 ^ 60 ≤ a)

/-- The bit numbers of the checks that hold, in order. -/
def firstCheck (cs : List (Bool × Nat)) : Option Nat := (cs.find? Prod.fst).map Prod.snd

/-- The addresses of the predecessor fields that a record uses, with the lowest bit of each field. -/
def predFields (r : Nat) : List (Nat × Nat) := ([(field r 575 512, 512), (field r 639 576, 576)]).take (field r 33 32)
def succFields (r : Nat) : List (Nat × Nat) := ([(field r 703 640, 640), (field r 767 704, 704)]).take (field r 35 34)

/-- The reserved bits of STATUS, by their place in a record (R73). -/
def reservedStatus : List Nat := upFrom 772 4 ++ upFrom 780 4

/-- The checks made at the post (R74), that of the reserved bits of STATUS among them, which the post reads and then writes as zero
(R7, log 67). -/
def postCheck (r : Nat) : Option Nat :=
  firstCheck ([(field r 1 0 == 3, 0)] ++ reservedStatus.map (fun i => (bit r i, i)) ++ [(field r 33 32 == 3, 32)]
    ++ (predFields r).map (fun x => (badRecordAddress x.1, x.2)))

/-- Entry 0x8010 LAUNCH_REJECTED with STATE 6 (R74, R102). -/
def State.reject (s : State) (part : Nat) (l : Launch) (info : Nat) : State :=
  (s.logModule 0x8010 info l.addr part).writeLaunch part { l with state := .rejected }

/-- A launch as a post makes it. -/
def postedLaunch (addr r : Nat) : Launch :=
  ({ addr := addr, state := .posted, job := field r 59 48, preds := (predFields r).map Prod.fst,
     record := BitVec.ofNat 1024 r } : Launch).withStatus
    (field r 831 768 / 16 * 16 + 1)

/-- A post of the record at an address (R75), for the job that makes it, if any (log 52): the address that faults, if any, with entry
0x8011. When the right to write STATUS is what is missing, that is the record's address (log 63). -/
def State.post (s : State) (part : Nat) (job : Option Nat) (addr : Nat) : Option Nat × State :=
  let w := s.dispatcher part job
  let fail (s : State) (a : Nat) : Option Nat × State := (some a, s.logModule 0x8011 a addr part)
  match s.readVirtual w .read addr 128 with
  | (.error f, s1) => fail s1 f.addr
  | (.ok g, s1) =>
    match translate s1 w .write addr with
    | (.error _, s2) => fail s2 addr
    | (.ok _, s2) =>
      let r := ofBytes g.bytes
      if field r 771 768 ≠ 0 then (none, s2)
      else
        let l := postedLaunch addr r
        (none, match postCheck r with
          | some info => s2.reject part l info
          | none => s2.writeLaunch part l)

/-- A post record of an interval (R90, R91). -/
def State.logPost (s : State) (part job addr : Nat) : State :=
  if ((s.part part).job job).logged then
    s.appendLog (s.dispatcher part (some job)) job (logRecord 3 false 0 addr (List.replicate 64 0))
  else s

/-- The posts of a tile that no earlier access holds back any more (R186), by fuel; one that reads a poisoned line of a shared page waits
until the other modules know of it (R135). -/
def State.duePosts (s : State) (n : Nat) : Nat → State
  | 0 => s
  | k + 1 =>
    match (s.tile n).postings with
    | p :: ps =>
      if p.kiln = 0 ∧ p.rputs = 0 ∧ p.sends = 0 then
        let job := (s.tile n).task.map Task.job
        match s.attempt (.post n) (fun s => ((s.mapTile n (fun t => { t with postings := ps })).post (s.tile n).part job p.addr).2) with
        | .made t => t.duePosts n k
        | a => a.state s
      else s
    | [] => s

/-- An access of a list has performed: it leaves its list, and the posts that waited for it wait no longer. -/
def Tile.kilnDone (t : Tile) (k : Nat) : Tile :=
  { t with kiln := delNth t.kiln k, postings := t.postings.map (fun p => { p with kiln := if k < p.kiln then p.kiln - 1 else p.kiln }) }
def Tile.rputDone (t : Tile) (k : Nat) : Tile :=
  { t with rputs := delNth t.rputs k, postings := t.postings.map (fun p => { p with rputs := if k < p.rputs then p.rputs - 1 else p.rputs }) }
def Tile.sendDone (t : Tile) (k : Nat) : Tile :=
  { t with sends := delNth t.sends k, postings := t.postings.map (fun p => { p with sends := if k < p.sends then p.sends - 1 else p.sends }) }

/-! ## Stopping the tasks of a job (R27, R87, R95) -/

/-- A tile whose task belongs to a job. -/
def Tile.hasJob (t : Tile) (part job : Nat) : Bool :=
  match t.task with
  | some k => k.part == part && k.job == job && k.work != .monitor
  | none => false

/-- A dispatched task that has ENDed and waits for nothing but copies suspended on translation faults. -/
def Tile.lingers (t : Tile) : Bool :=
  t.phase == .ended && t.level == .task && (t.task.any (fun k => k.work == .dispatched)) && t.kiln.isEmpty && t.rputs.isEmpty
    && t.sends.isEmpty && t.postings.isEmpty && !t.copies.isEmpty && t.copies.all (fun c => c.phase == .suspended && !c.inFlight)

/-- A task of a job is running, pre-empted or spawned (R88). While a STOP of the partition stands, an ENDed task that waits for suspended
copies alone counts as none of these, so that STOP completes and the copies are exported, as the worked example of R68 has it; at any
other time it counts as running until it retires (DESIGN CHOICE, log 72). -/
def State.jobLive (s : State) (part job : Nat) : Bool :=
  s.tiles.any (fun t => t.2.hasJob part job && !((s.part part).stopping.isSome && t.2.lingers))
    || s.dies.any (fun d => d.2.shadow.any (fun x => x.tile.hasJob part job))

/-- A tile in a handler whose job has stopped: what its task still had to send, to write or to post goes, and its copies with it (R95
step 1). -/
def Tile.silenced (t : Tile) : Tile :=
  { t with
    kiln := [], rputs := [], sends := [], postings := [], copies := []
    reserved := t.reserved.filter (fun r => !t.copies.any (fun c => c.id == r.1)) }

/-- A tile as a rollback leaves it: one that runs a handler goes on until its return (R239), any other has lost its task, one that a
double fault stopped too, and is idle (R80). -/
def Tile.stopped (t : Tile) : Tile := if t.phase ≠ .halted ∧ t.level ≠ .task then t.silenced else t.discarded

/-- A job that has come past the failure of the routes it uses, and whose waiting flits are discarded (R27). -/
def Route.settled (r : Route) (job : Nat) (discard : Bool) : Route :=
  { r with
    owed := r.owed.filter (fun j => j != job)
    waiting := if discard then r.waiting.filter (fun f => f.job != job) else r.waiting }

def State.settleRoutes (s : State) (part job : Nat) (discard : Bool) : State :=
  s.mapPart part (fun p => { p with config := { p.config with routes := p.config.routes.map (fun r => r.settled job discard) } })

/-- What the tiles of a job have sent to other modules without an answer. -/
def State.jobStrays (s : State) (part job : Nat) : List Awaited :=
  (s.tiles.filter (fun x => x.2.hasJob part job)).flatMap (fun x => x.2.strays)

/-- The transaction numbers of the job's flits that wait on held routes. -/
def State.waitingTags (s : State) (part job : Nat) : List Nat := ownTags ((s.part part).waitingFlits.filter (fun f => f.job == job))

/-- The transaction numbers of the writes and kiln operations of a job, the dispatcher's among them, that have left for other modules and
have no answer, without those whose flits wait on held routes (R95). -/
def State.unanswered (s : State) (part job : Nat) : List Nat :=
  let waiting := s.waitingTags part job
  ((s.jobStrays part job ++ s.awaited.filter (fun q => q.part == part && q.job == job)).flatMap Awaited.writes).filter
    (fun k => !waiting.contains k)

/-- Every write that a rollback of the job waits for has been answered, or went down with a port (R95, log 68). -/
def State.drained (s : State) (part job : Nat) : Bool :=
  ((s.part part).job job).draining.all (fun k => s.ports.any (fun p => p.2.lost.contains k))

/-- An access that a step for a stopped job needs no longer. A request of the control port goes on. -/
def Awaited.dropsWith (q : Awaited) (part job : Nat) : Bool :=
  q.part == part && q.job == job && (match q.asker with | .nobody => false | .request _ => false | _ => true)

/-- The flits of a job on held routes are discarded, and nothing waits for them any more (R27, R95). -/
def State.dropFlits (s : State) (part job : Nat) : State :=
  let tags := s.waitingTags part job
  { s.mapPart part (fun p => { p with config := { p.config with routes := p.config.routes.map (fun r =>
      { r with waiting := r.waiting.filter (fun f => f.job != job) }) } }) with
    awaited := (s.awaited.filter (fun q => !q.discards tags)).map (fun q => q.acknowledged tags) }

/-- Step 1 of a rollback: every task of the job stops, what is still inside its tiles is discarded, and the writes that have left are
remembered. What has left is nobody's, and a latch that came to nothing is given back (R408). -/
def State.stopTasks (s0 : State) (part job : Nat) : State :=
  let s := (s0.mapPart part (fun p => p.setJob { p.job job with draining := s0.unanswered part job })).strand (s0.jobStrays part job)
  let stop (x : Nat × Tile) : Option (Nat × Tile) :=
    let t := if x.2.hasJob part job then x.2.stopped else x.2
    if t = ({} : Tile) then none else some (x.1, t)
  let s1 : State :=
    { s with
      tiles := s.tiles.filterMap stop
      dies := s.dies.map (fun d => (d.1, { d.2 with shadow := d.2.shadow.filter (fun x => !x.tile.hasJob part job) })) }
  ((s1.dropFlits part job).settleRoutes part job true).abandon (fun q => q.dropsWith part job)

/-! ## Failure and rollback (R87, R94) -/

/-- STATE 7 in a record of STATE 1 to 4: not logged, and dropped when it faults. -/
def State.failRecord (s : State) (part : Nat) (l : Launch) : State :=
  if 1 ≤ l.state.number ∧ l.state.number ≤ 4 then
    let l1 := { l with state := .failed }
    (s.mapPart part (fun p => p.setLaunch l1)).writeUnawaited (s.dispatcher part (some l.job)) (l.addr + 96) (toBytes 8 l1.statusWord.toNat)
  else s

/-- A job fails: its tasks stop, its records of STATE 1 to 4 get STATE 7, and entry 0x8017 is written. -/
def State.failJob (s : State) (part job : Nat) : State :=
  if ((s.part part).job job).state = .failed then s
  else
    let s1 := s.mapPart part (fun p => p.setJob { p.job job with state := .failed, asked := [], stopAsked := false })
    let s2 := s1.stopTasks part job
    let ls := (s2.part part).launches.filter (fun l => l.job == job)
    (ls.foldl (fun s l => s.failRecord part l) s2).logModule 0x8017 job 0 part

def RollbackCause.number : RollbackCause → Nat
  | .taskFault => 1
  | .digest => 2
  | .monitor => 3
  | .forceStop => 4
  | .moduleFault => 5

/-- A rollback cause reaches a job (R87, R94, R95). -/
def State.rollback (s : State) (part job : Nat) (c : RollbackCause) : State :=
  let j := (s.part part).job job
  match j.state with
  | .failed | .draining | .replaying => s
  | .unprotected => s.failJob part job
  | .open_ | .quiescing | .serial =>
    let s1 := s.logModule 0x8016 (job + 2 ^ 12 * c.number) 0 part
    let j1 := { j with state := .draining, rollbacks := j.rollbacks + 1, asked := [], stopAsked := false }
    (s1.mapPart part (fun p => p.setJob j1)).stopTasks part job

/-- The flits of a job that a tile has put on held routes since the job stopped go with the tile (R27, R445). -/
def State.dropWaiting (s : State) (part job : Nat) : State :=
  if ((s.part part).job job).stopsTasks then s.dropFlits part job else s

/-- What the dispatcher does about a cause. -/
def State.act (s : State) (c : Cause) : State :=
  match c.what with
  | .rollback r => s.rollback c.part c.job r
  | .failed => s.failJob c.part c.job
  | .gone => s.dropWaiting c.part c.job
  | .overflow a =>
    if ((s.part c.part).job c.job).state = .failed then s
    else (s.logModule 0x8015 c.job a c.part).failJob c.part c.job
  | .writeFault a =>
    if ((s.part c.part).job c.job).state = .failed then s
    else (s.logModule 0x8018 a c.addr c.part).failJob c.part c.job

/-! ## The checks at READY (R72, R74, R102) -/

/-- The bits of a record outside the given fields that are not zero, lowest first. -/
def strayBit (r : Nat) (used : List (Nat × Nat)) : Option Nat :=
  (upFrom 0 1024).find? (fun i => r.testBit i && !used.any (fun f => decide (f.2 ≤ i) && decide (i ≤ f.1)))

/-- The fields that a record of each KIND uses (R71, R72). -/
def usedFields (kind : Nat) : List (Nat × Nat) :=
  if kind = 0 then [(9, 0), (18, 16), (35, 24), (59, 48), (959, 64)]
  else [(4, 0), (35, 32), (59, 48), (831, 512)] ++ (if kind = 1 then [(127, 64), (255, 192)] else [])

/-- PERM positions 0 to NLEV - 1 are a permutation of the levels, and the others are zero. -/
def permLegal (r : Nat) : Bool :=
  let n := nlevOf r
  (upFrom 0 n).all (fun l => (upFrom 0 n).any (fun j => permOf r j == l)) && (upFrom n (4 - n)).all (fun j => permOf r j == 0)

/-- The checks of a task launch before those of its code. -/
def taskChecks (r working : Nat) : List (Bool × Nat) :=
  let n := nlevOf r
  let slice := field r 191 160
  let digtab := field r 447 384
  [(field r 7 6 == 3, 6), (n == 0 || decide (4 < n), 16), (!permLegal r, 24)]
    ++ (upFrom n (4 - n)).map (fun l => (extentOf r l != 0, 192 + 32 * l))
    ++ [(slice == 0 || decide (16777215 < taskCount r), 160), (bit r 5 && decide (working < taskCount r), 5),
        (bit r 9 && digtab == 0, 9), (digtab % 8 != 0 || decide (2 ^ 60 ≤ digtab), 384), (decide (2 ^ 60 ≤ field r 127 64), 64)]

/-- The checks of a checkpoint record before those of its log's pages. -/
def checkpointChecks (r : Nat) : List (Bool × Nat) :=
  let pages := field r 223 192
  [(field r 127 64 % 65536 != 0, 64), (decide (pages < 3) || decide (16777216 < pages), 192),
   (field r 255 224 == 0 || decide (pages < field r 255 224 + 2), 224)]

/-- Every check that needs nothing but the record: the INFO of the first that fails. Of a check that names two fields the INFO is the
lowest bit of the one that fails it (log 57). -/
def recordCheck (r working : Nat) : Option Nat :=
  let kind := field r 1 0
  if kind = 3 then some 0
  else
    match strayBit r (usedFields kind) with
    | some i => some i
    | none =>
      firstCheck
        ([(field r 33 32 == 3, 32), (field r 35 34 == 3, 34)]
          ++ (predFields r ++ succFields r).map (fun x => (badRecordAddress x.1, x.2))
          ++ (if kind = 0 then taskChecks r working else if kind = 1 then checkpointChecks r else []))

/-- Every page of a log maps with RD and WR to LPDDR6 of grade S (R74, R92). -/
def State.logPages (s : State) (w : Who) : List Nat → Bool × State
  | [] => (true, s)
  | a :: as =>
    match logLeaf s w a with
    | (some _, s1) => s1.logPages w as
    | (none, s1) => (false, s1)

/-- The code of a task launch: its object admitted or its cell latched (R408, R409). -/
def State.readyCode (s : State) (part : Nat) (l : Launch) : Option Launch × State :=
  let code := l.get 127 64
  let cellOf (s : State) : Option Launch × State :=
    match s.latchCell part l.job code with
    | (some (true, target), s1) =>
      match s1.admitObject part (some l.job) target with
      | (some o, s2) => (some { l with object := some o, cell := some code, bound := true }, s2)
      | (none, s2) => (none, s2.addUse part l.job code false)
    | (some (false, stub), s1) =>
      match s1.checkObject (s1.dispatcher part (some l.job)) stub with
      | (.ok (o, _), s2) => (some { l with object := some o, cell := some code, bound := false }, s2)
      | (.error e, s2) => (none, s2.loadFault part e)
    | (none, s1) => (none, s1)
  match s.readVirtual (s.dispatcher part (some l.job)) .execute code 64 with
  | (.error f, s1) => (none, s1.loadFault part (10 + 2 ^ 8 * f.cause, f.addr))
  | (.ok g, s1) =>
    match g.poison, codeKindOf code g.bytes with
    | some a, _ => (none, s1.loadFault part (11, a))
    | none, .object =>
      match s1.admitObject part (some l.job) code with
      | (some o, s2) => (some { l with object := some o }, s2)
      | (none, s2) => (none, s2)
    | none, .cell _ _ _ => cellOf s1
    | none, .neither => (none, s1)

/-! ## Retirement of a launch (R76, R98, R99) -/

/-- The CRC-64 that task i adds to the launch digest. -/
def launchTerm (i : Nat) (digest : Word) : Word := BitVec.ofNat 64 (crc64 (toBytes 8 i ++ toBytes 8 digest.toNat))

/-- A digest recorded in entry n of the table, or compared with it: whether it matches. A table that cannot be read fails
the job like one that cannot be written. -/
def State.checkDigest (s : State) (part : Nat) (l : Launch) (n : Nat) (d : Word) : Bool × State :=
  let a := l.digtab + 8 * n
  if l.digtab = 0 then (true, s)
  else if l.digchk then
    match s.readDispatch part (some l.job) a 8 with
    | (.ok bs, s1) => (ofBytes bs == d.toNat, s1)
    | (.error f, s1) => (true, s1.addCause { part := part, job := l.job, addr := l.addr, what := .writeFault f.addr })
  else (true, s.writeDispatch part l.job l.addr a (toBytes 8 d.toNat))

/-- A digest mismatch: entry 0x8012 and a rollback, or in a serial run entry 0x8014 and failure (R95, R99). -/
def State.mismatched (s : State) (part : Nat) (l : Launch) (info : Word) : State :=
  let j := (s.part part).job l.job
  if j.serialRun then
    (s.logModule 0x8014 info.toNat l.addr part).addCause { part := part, job := l.job, addr := 0, what := .failed }
  else
    ((s.logModule 0x8012 info.toNat l.addr part).mapPart part (fun p => p.setJob { j with mismatch := some (l.addr, info) })).addCause
      { part := part, job := l.job, addr := 0, what := .rollback .digest }

/-- The serial run ends as the mismatching launch retires with matching digests. -/
def State.serialMatched (s : State) (part : Nat) (l : Launch) : State × Launch :=
  let j := (s.part part).job l.job
  match j.mismatch with
  | some (a, info) =>
    if j.serialRun && a == l.addr then
      let j1 := { j with serialRun := false, mismatch := none, state := if j.state = .serial then .open_ else j.state }
      ((s.logModule 0x8013 info.toNat l.addr part).mapPart part (fun p => p.setJob j1),
        { l with status := l.status ||| 0x400 })
    else (s, l)
  | none => (s, l)

/-- The posts of the successors of a retiring launch of a job, in order. -/
def State.postAll (s : State) (part job : Nat) : List Nat → State
  | [] => s
  | a :: as => (s.post part (some job) a).2.postAll part job as

/-- A cause that fails the job or rolls it back stands. -/
def State.jobStops (s : State) (part job : Nat) : Bool := s.causes.any (fun c => c.part == part && c.job == job)

/-- A launch whose tasks have all retired: LDIGEST, STATE 5, then the posts. A write that is not made fails the job, and the
launch with it (R76, R87). -/
def State.retireLaunch (s : State) (part : Nat) (l : Launch) : State :=
  let (ok, s1) := if l.kind = 0 then s.checkDigest part l 0 l.lacc else (true, s)
  if !ok then (s1.mapPart part (fun p => p.setLaunch l)).mismatched part l (BitVec.allOnes 64)
  else
    let (s2, l2) := if s1.jobStops part l.job then (s1, l) else s1.serialMatched part l
    let s3 := if l.kind = 0 then s2.writeDispatch part l.job l.addr (l.addr + 104) (toBytes 8 l.lacc.toNat) else s2
    let s4 := if s3.jobStops part l.job then s3 else s3.writeLaunch part { l2 with state := .retired }
    if s4.jobStops part l.job then s4.mapPart part (fun p => p.setLaunch l2)
    else
      let s5 := s4.mapPart part (fun p => p.setJob { p.job l.job with rollbacks := 0 })
      let s6 := match l.cell with
        | some c => if l.bound then s5.addUse part l.job c false else s5
        | none => s5
      s6.postAll part l.job l.succs

/-! ## READY (R74, R76, R88) -/

/-- Every predecessor of a launch of a job has STATE 5 in memory. -/
def State.predsRetired (s : State) (part job : Nat) : List Nat → Bool × State
  | [] => (true, s)
  | a :: as =>
    match s.statusAt part (some job) a with
    | (some w, s1) => if field w 3 0 = 5 then s1.predsRetired part job as else (false, s1)
    | (none, s1) => (false, s1)

/-- A launch that passed every check becomes READY; what runs no task retires at once or asks for a checkpoint. -/
def State.makeReady (s : State) (part : Nat) (l : Launch) : State :=
  let l1 := { l with state := .ready, readyAt := s.timeBase }
  if l.kind = 1 then
    (s.writeLaunch part l1).mapPart part (fun p =>
      p.setJob { (p.job l.job).quiesce with asked := (p.job l.job).asked ++ [some l.addr] })
  else if l.kind = 2 ∨ l.tasks = 0 then s.retireLaunch part l1
  else s.writeLaunch part l1

/-- The rest of a POSTED record read, checked and admitted; its head stands as posted (R74). -/
def State.examine (s : State) (part : Nat) (l : Launch) (r : Nat) : Except Nat Launch × State :=
  let p := s.part part
  let l1 := { l with record := BitVec.ofNat 1024 r, lacc := BitVec.ofNat 64 (field r 959 896) }
  match recordCheck r (partitionTiles s p).length with
  | some info => (.error info, s)
  | none =>
    if l1.kind = 0 then
      match s.readyCode part l1 with
      | (none, s1) => (.error 64, s1)
      | (some l2, s1) =>
        let stub := l2.cell.isSome && !l2.bound
        if stub || (match l2.object with | some o => entryLegal l2.record o | none => false) then (.ok l2, s1)
        else
          let s2 := match l2.cell with | some c => if l2.bound then s1.addUse part l.job c false else s1 | none => s1
          (.error 128, s2)
    else if l1.kind = 1 then
      match s.logPages (s.dispatcher part (some l.job)) ((upFrom 0 (field r 223 192)).map (fun i => field r 127 64 + 65536 * i)) with
      | (true, s1) => (.ok l1, s1)
      | (false, s1) => (.error 64, s1)
    else (.ok l1, s)

/-- The record as latched: KIND, NPRED and the predecessors as they stood at the post. -/
def headAsPosted (old new : Nat) : Nat :=
  let put (x hi lo : Nat) := x / 2 ^ (hi + 1) * 2 ^ (hi + 1) + field old hi lo * 2 ^ lo + x % 2 ^ lo
  put (put (put new 1 0) 33 32) 639 512

/-- JOB of a POSTED record as memory holds it, which the dispatcher reads only at READY (R74). -/
def State.jobNow (s : State) (part : Nat) (l : Launch) : Launch × State :=
  match s.readDispatch part (some l.job) l.addr 8 with
  | (.ok bs, s1) => ({ l with job := field (ofBytes bs) 59 48 }, s1)
  | (.error _, s1) => (l, s1)

/-- A POSTED record becomes READY (R76). A record that can no longer be read fails its job (log 39). -/
def State.becomeReady (s : State) (part : Nat) (l : Launch) : State :=
  match s.readDispatch part (some l.job) l.addr 128 with
  | (.error f, s1) => s1.addCause { part := part, job := l.job, addr := l.addr, what := .writeFault f.addr }
  | (.ok bs, s1) =>
    let r := headAsPosted l.record.toNat (ofBytes bs)
    match s1.examine part l r with
    | (.error info, s2) => s2.reject part { l with record := BitVec.ofNat 1024 r } info
    | (.ok l1, s2) => s2.makeReady part l1

/-! ## The return of a stub task (R407, R408, R411) -/

/-- The object a stub task's cell is bound to now; a launch that has latched its cell keeps what it latched. Otherwise there is no
object, because the cell still holds the stub, or because a check fails, with the INFO of its rejection; a latch that leads to a
rejection is given back. -/
def State.boundObject (s : State) (part : Nat) (l : Launch) (cell : Nat) : Except (Option Nat) CodeObject × State :=
  match l.bound, l.object with
  | true, some o => (.ok o, s)
  | _, _ =>
    match s.latchCell part l.job cell with
    | (some (true, target), s1) =>
      match s1.admitObject part (some l.job) target with
      | (some o, s2) =>
        if entryLegal l.record o then (.ok o, s2.mapPart part (fun p => p.setLaunch { l with bound := true, object := some o }))
        else (.error (some 128), s2.addUse part l.job cell false)
      | (none, s2) => (.error (some 64), s2.addUse part l.job cell false)
    | (some (false, _), s1) => (.error none, s1)
    | (none, s1) => (.error (some 64), s1)

/-- When a stub's handler returns with RES 1, its task starts afresh on the bound object, or ends as by RES 2 while the cell still holds
the stub. A check that fails rejects the launch, and its stub tasks leave their tiles as they return (log 59). -/
def State.rebindNow (s : State) (n : Nat) : State :=
  match (s.tile n).task with
  | none => s
  | some k =>
    match k.stub, (s.part k.part).launch? k.launch with
    | some cell, some l =>
      let gone (s : State) : State :=
        ((s.forgetFills n).mapTile n Tile.released).addCause { part := k.part, job := l.job, addr := 0, what := .gone }
      if l.state = .rejected then gone s
      else
        match s.boundObject k.part l cell with
        | (.ok o, s1) => (s1.forgetFills n).prepareTile n { k with stub := none } o (field l.record.toNat 159 128)
        | (.error none, s1) => s1.terminate n
        | (.error (some info), s1) => gone (s1.reject k.part l info)
    | _, _ => s

/-- A stub task bound as its handler has returned, at once or as soon as the lines of other modules that this needs have come. -/
def State.rebind (s0 : State) (n : Nat) : State :=
  let s := s0.forget (.task n)
  match s.attempt (.task n) (fun s => s.rebindNow n) with
  | .made t => t
  | a => (a.state s).mapTile n (fun t => { t with phase := .rebinding })

/-! ## The order of dispatch (R77, R78, R80 to R84, R99) -/

/-- Effective priority after a wait from a time (R82). -/
def effective (prio : Nat) (now since : Word) : Nat := min 7 (prio + (now - since).toNat / 1000000)

/-- A job whose new tasks are dispatched (R87, R88, R95, R53). -/
def Partition.dispatches? (p : Partition) (job : Nat) : Bool :=
  let j := p.job job
  (j.state == .unprotected || j.state == .open_ || j.state == .serial) && j.asked.isEmpty && !j.stopAsked

/-- A launch with tasks left to dispatch; a STOP holds new tasks back (R53). In a serial run it waits until no other task or launch of its job runs (R99). -/
def State.dispatchable (s : State) (part : Nat) (l : Launch) : Bool :=
  let p := s.part part
  p.stopping.isNone && p.forced.isNone && (l.state == .ready || l.state == .dispatching) && l.kind == 0 && decide (l.dispatched < l.tasks) && p.dispatches? l.job
    && (!(p.job l.job).serialRun
        || (!s.jobLive part l.job && !p.launches.any (fun x => x.job == l.job && x.addr != l.addr
              && (x.state == .dispatching || x.state == .running))))

/-- A candidate of the dispatch order: a launch with tasks left, or a switched-out task. -/
structure Candidate where
  eff     : Nat
  since   : Word
  addr    : Nat
  index   : Nat
  swapped : Bool
  deriving DecidableEq, Repr

/-- The order of R82: higher effective priority, earlier time, lower record address, lower index. The rule orders launches by the time when
they became READY; a switched-out task stands with the time when it rejoined, and before a launch of its record (DESIGN CHOICE, log 73). -/
def Candidate.before (a b : Candidate) : Bool :=
  if a.eff ≠ b.eff then decide (b.eff < a.eff)
  else if a.since ≠ b.since then decide (a.since < b.since)
  else if a.addr ≠ b.addr then decide (a.addr < b.addr)
  else decide (a.index < b.index)

/-- The best of a list of candidates. -/
def bestOf : List Candidate → Option Candidate
  | [] => none
  | c :: cs =>
    match bestOf cs with
    | none => some c
    | some d => if d.before c then some d else some c

/-- A tile that holds no task (R80); reservations are considered apart. -/
def State.vacant (s : State) (n : Nat) : Bool := (s.tile n).phase == .idle

/-- A job whose switched-out tasks may resume (R95). -/
def Partition.resumes? (p : Partition) (job : Nat) : Bool := !(p.job job).stopsTasks

/-- The launches and switched-out tasks of a partition that wait for a tile. -/
def State.candidates (s : State) (part : Nat) : List Candidate :=
  let p := s.part part
  ((p.launches.filter (s.dispatchable part)).map (fun l =>
      { eff := effective l.prio s.timeBase l.readyAt, since := l.readyAt, addr := l.addr, index := 2 ^ 24, swapped := false }))
    ++ p.dieList.flatMap (fun d =>
      ((s.die d).shadow.filter (fun x => x.part == part && (workingTiles s.health d).any s.vacant
          && p.resumes? (match x.tile.task with | some k => k.job | none => 0))).map (fun x =>
        { eff := effective (match p.launch? x.launch with | some l => l.prio | none => 0) s.timeBase x.rejoined
          since := x.rejoined, addr := x.launch, index := x.index, swapped := true }))

/-- The head of a partition's dispatch order. -/
def State.dispatchHead (s : State) (part : Nat) : Option Candidate :=
  let p := s.part part
  if p.state = .running then bestOf (s.candidates part) else none

/-- The vacant tiles on which a partition may start tasks, in working order. -/
def State.vacantTiles (s : State) (part : Nat) : List Nat :=
  (partitionTiles s (s.part part)).filter (fun n => s.vacant n && !(s.die (dieOf n)).noDispatch)

/-- The linked launch at the head of a partition's order (R81). -/
def State.linkedHead (s : State) (part : Nat) : Option Launch :=
  match s.dispatchHead part with
  | some c => if c.swapped then none else ((s.part part).launch? c.addr).filter Launch.linked
  | none => none

/-- The tiles that a linked launch at the head of the order has reserved: those it had, as far as they are still vacant, and as many of the
first others as it lacks, in working order (R81). -/
def State.reservedTiles (s : State) (part : Nat) : List Nat :=
  match s.linkedHead part with
  | some l =>
    let vacant := s.vacantTiles part
    let had := match (s.part part).reserved with
      | some (a, ts) => if a = l.addr then vacant.filter ts.contains else []
      | none => []
    let more := (vacant.filter (fun n => !had.contains n)).take (l.tasks - had.length)
    vacant.filter (had ++ more).contains
  | none => []

/-- What a linked launch at the head of the order has reserved is kept; any other head releases it (R81). -/
def State.reserve (s : State) (part : Nat) : State :=
  let held := (s.linkedHead part).map (fun l => (l.addr, s.reservedTiles part))
  if (s.part part).reserved = held then s else s.mapPart part (fun p => { p with reserved := held })

/-- A tile without a task of any kind. -/
def State.dieEmpty (s : State) (d : Nat) : Bool :=
  (upFrom (64 * d) 64).all (fun n => (s.tile n).task.isNone)

/-- Fixed timing of a launch as it is dispatched now (R83, R99). -/
def State.launchFixed (s : State) (part : Nat) (l : Launch) : Bool :=
  decide (l.clock ≠ 0) || ((s.part part).job l.job).serialRun

/-- A die that a launch may use now: an elastic die must be empty before a fixed-timing task starts (R83). -/
def State.dieTakes (s : State) (fixed : Bool) (d : Nat) : Bool := !fixed || (s.die d).pinned || s.dieEmpty d

/-- s0 to s7 of task i (R77, R78). -/
def taskRegisters (r i : Nat) : List Word :=
  let n := iterations r
  let slice := field r 191 160
  let first := i * slice
  let count := if n < first + slice then n - first else slice
  let step (x : Nat × SMap Nat) (j : Nat) : Nat × SMap Nat :=
    let lv := permOf r j
    (x.1 / extentOf r lv, mset 0 x.2 lv (x.1 % extentOf r lv))
  let c := ((upFrom 0 (nlevOf r)).reverse.foldl step (first, [])).2
  let w (x : Nat) : Word := BitVec.ofNat 64 x
  [w i, w first, w count, w (mget 0 c 1 * 2 ^ 32 + mget 0 c 0), w (mget 0 c 3 * 2 ^ 32 + mget 0 c 2), w (field r 511 448),
   w (field r 383 320), w (taskCount r)]

/-! ## The turn between partitions (R82) -/

/-- The tile to which an unlinked launch at the head of the order sends its next task now. -/
def State.nextTile (s : State) (part : Nat) (l : Launch) : Option Nat :=
  match s.vacantTiles part with
  | n :: _ => if !l.linked && s.dieTakes (s.launchFixed part l) (dieOf n) then some n else none
  | [] => none

/-- The tiles on which a linked launch at the head of the order starts now (R81). -/
def State.gangTiles (s : State) (part : Nat) (l : Launch) : Option (List Nat) :=
  let tiles := s.reservedTiles part
  if l.linked && tiles.length == l.tasks && tiles.all (fun n => s.dieTakes (s.launchFixed part l) (dieOf n)) then some tiles
  else none

/-- A switched-out task that may resume on a tile now (R84). -/
def State.resumesOn (s : State) (x : Swapped) (tile : Nat) : Bool :=
  s.vacant tile && (workingTiles s.health (dieOf tile)).contains tile && s.dieTakes x.tile.fixed (dieOf tile)

/-- The switched-out task of a partition's launch and index on a die. -/
def Die.swappedOut (d : Die) (part addr index : Nat) : Option Swapped :=
  d.shadow.find? (fun x => x.part == part && x.launch == addr && x.index == index)

/-- Whether the head of a partition's order can be served now. -/
def State.decides (s : State) (part : Nat) : Bool :=
  match s.dispatchHead part with
  | none => false
  | some c =>
    if c.swapped then
      (s.part part).dieList.any (fun d =>
        ((s.die d).swappedOut part c.addr c.index).any (fun x => (upFrom (64 * d) 64).any (s.resumesOn x)))
    else ((s.part part).launch? c.addr).any (fun l => (s.nextTile part l).isSome || (s.gangTiles part l).isSome)

/-- The partition whose decision is served next: the one whose turn it is, for as many decisions as it has dies, then the next
by number that has a decision to make (R82, log 34). -/
def State.serves (s : State) : Option Nat :=
  let first := if s.served < (s.part s.turn).dieList.length then s.turn else s.turn + 1
  ((upFrom first 16).map (fun i => i % 16)).find? s.decides

/-- A decision of a partition served. -/
def State.takeTurn (s : State) (part : Nat) : State :=
  if part = s.turn ∧ s.served < (s.part part).dieList.length then { s with served := s.served + 1 }
  else { s with turn := part, served := 1 }

/-- Task i of a launch started on a tile (R78, R101, R299). A stub starts at its offset 0 (R407). -/
def State.startTask (s : State) (part : Nat) (l : Launch) (n i : Nat) : State :=
  match l.object with
  | none => s
  | some o =>
    let p := s.part part
    let stub := l.cell.isSome && !l.bound
    let k : Task :=
      { part := part, launch := l.addr, job := l.job, index := i, total := l.tasks, clock := l.clock, determ := l.record.getLsbD 8
        serial := (p.job l.job).serialRun, work := .dispatched, start := taskRegisters l.record.toNat i, object := 0, codeBase := 0
        codeLen := 0, handler := none, clusters := 0, foot := [], footEng := 0, spill := [], stub := if stub then l.cell else none
        began := l.readyAt, order := p.dispatches }
    let s1 := if s.launchFixed part l then s.mapDie (dieOf n) (fun d => { d with pinned := true }) else s
    (s1.mapPart part (fun p => { p with dispatches := p.dispatches + 1 })).prepareTile n k o (if stub then 0 else l.entry)

/-- STATUS after tasks of a launch were dispatched (R73, R99). -/
def Launch.afterDispatch (l : Launch) (count : Nat) (serial : Bool) : Launch :=
  let l1 := { l with dispatched := l.dispatched + count, serial := l.serial || serial }
  { l1 with state := if l1.dispatched = l1.tasks then .running else .dispatching }

/-! ## Pre-emption requests (R84, R247, R248) -/

/-- The 64 KiB pages of a task's swap record: its footprint, the buffers and banks it names, and what the implementation
needs for copies, messages and further flight records. -/
def swapSize (t : Tile) (k : Task) : Nat :=
  let fixed := (k.foot.map Prod.snd).sum
    + ((upFrom 0 6).map (fun i => if k.footEng.getLsbD i then (if i < 4 then 65536 else 131072) else 0)).sum
  let messages := (t.queues.map (fun q => q.2.length)).sum
  let records := t.units.flights.length + t.quires.length + t.matrix.shadow.length
  ceilDiv (fixed + (Config.swapBytes t.copies.length messages records).toNat) 65536

/-- The lowest free slot of a die's shadow store. -/
def Die.freeSlot (d : Die) : Option Nat := (upFrom 0 64).find? (fun i => !d.shadow.any (fun x => x.slot == i))

def Die.freePages (d : Die) : Nat := d.swapPages.toNat - (d.shadow.map Swapped.pages).sum

/-- A tile whose task may be pre-empted: unlinked, running, with no running spawned task, and with room for its state. -/
def State.preemptible (s : State) (part n : Nat) : Bool :=
  let t := s.tile n
  let d := s.die (dieOf n)
  match t.task with
  | some k =>
    k.part == part && k.work == .dispatched && t.phase == .running && !t.matrix.preempt
      && !((s.part part).launch? k.launch).any Launch.linked
      && !s.tiles.any (fun x => x.2.task.any (fun y => y.work == .spawned n))
      && d.freeSlot.isSome && decide (swapSize t k ≤ d.freePages)
  | none => false

/-- The victim before another: lower effective priority, then dispatched later. -/
def State.victimKey (s : State) (part n : Nat) : Nat × Nat :=
  match (s.tile n).task with
  | some k => (effective (match (s.part part).launch? k.launch with | some l => l.prio | none => 0) s.timeBase k.began, k.order)
  | none => (8, 0)

def State.bestVictim (s : State) (part : Nat) : List Nat → Option Nat
  | [] => none
  | n :: ns =>
    match s.bestVictim part ns with
    | none => some n
    | some m =>
      let a := s.victimKey part n
      let b := s.victimKey part m
      if a.1 < b.1 || (a.1 == b.1 && decide (b.2 < a.2)) then some n else some m

/-- A request for pre-emption when the head of the order finds no idle tile and some running task has a lower effective
priority (R84). One request stands at a time. -/
def State.requestPreemption (s : State) (part : Nat) : State :=
  let tiles := partitionTiles s (s.part part)
  match s.dispatchHead part with
  | none => s
  | some c =>
    let wants := match (s.part part).launch? c.addr with | some l => if l.linked then l.tasks else 1 | none => 1
    if c.swapped || decide (wants ≤ (s.vacantTiles part).length)
        || tiles.any (fun n => (s.tile n).matrix.preempt || (s.tile n).phase == .leaving) then s
    else
      match s.bestVictim part (tiles.filter (s.preemptible part)) with
      | some n =>
        if (s.victimKey part n).1 < c.eff then
          s.mapTile n (fun t => { t with matrix := { t.matrix with preempt := true } })
        else s
      | none => s

end Sys2Proof.Machine
end

