-- ==== Sys2Proof/Machine/Transfers.lean ====
section
/-! DEFINITION. The off-tile accesses of a tile: what a kiln operation does at its bank (R118, R391), how an access performs,
returns or arrives (R119, R161, R162, R175, R176, R389, R393), and the counts that are exact in fixed timing (R166, R395,
R398). An access to another module leaves under a transaction number and performs when its answer comes (R22, R26). -/

namespace Sys2Proof.Machine

/-! ## Operand words (R390) -/

def knBytes (c : Word) : Nat := if c.getLsbD 40 then 8 else 4
def knReturns (c : Word) : Bool := c.getLsbD 41
def knFormat (c : Word) : Nat := field c.toNat 35 32
def knScalarFormat (c : Word) : Nat := field c.toNat 39 36
def knCount (c : Word) : Nat := field c.toNat 47 44
def knScalar (c : Word) : Nat := field c.toNat 31 0

/-- The bytes an operation k acts on (R391, R392). -/
def knLength (k : Nat) (a c : Word) : Nat :=
  if k = 9 then (if a.toNat % 8 = 0 then 8 else 4)
  else if k = 10 then 8
  else if k = 11 then fmtWidth (knFormat c) / 8
  else if k = 12 then 128
  else if k = 13 then knCount c * (fmtWidth (knFormat c) / 8)
  else knBytes c

/-- The operations that return the previous contents (R391). -/
def KilnOp.returns (o : KilnOp) : Bool :=
  if o.k = 9 ∨ o.k = 10 ∨ o.k = 14 then true
  else if o.k = 12 ∨ o.k = 13 ∨ o.k = 15 then false
  else knReturns o.c

/-- An operation that has not performed. -/
def KilnOp.waits (o : KilnOp) : Bool := match o.stage with | .performed _ _ => false | _ => true

/-! ## At the bank (R391) -/

/-- The new contents of an integer location of n bytes. -/
def kilnInteger (k n : Nat) (y b c : Nat) : Nat :=
  let sy := signed (8 * n) y
  let sb := signed (8 * n) b
  if k = 0 then y + b
  else if k = 1 then (if sb < sy then b else y)
  else if k = 2 then min y b
  else if k = 3 then (if sy < sb then b else y)
  else if k = 4 then max y b
  else if k = 5 then y &&& b
  else if k = 6 then y ||| b
  else if k = 7 then y ^^^ b
  else if k = 8 then b
  else if k = 9 then (if y = c then b else y)
  else if k = 10 then y + 1
  else if k = 15 then b
  else y

/-- The elements of an update (R391). -/
def kilnUpdate (y b : Nat) (c : Word) : Nat :=
  let f := knFormat c
  let w := fmtWidth f
  let a := decodePosit (knScalar c % 2 ^ fmtWidth (knScalarFormat c)) (knScalarFormat c)
  ofElems w ((upFrom 0 (knCount c)).map (fun e =>
    roundPosit (vadd (decodePosit (field y (w * e + w - 1) (w * e)) f) (vmul a (decodePosit (field b (w * e + w - 1) (w * e)) f))) f))

/-- The bytes that an operation leaves at its location. -/
def KilnOp.effect (o : KilnOp) (old : List Byte) : List Byte :=
  let n := old.length
  let y := ofBytes old
  let b := o.b.toNat % 2 ^ (8 * n)
  let f := knFormat o.c
  if o.k = 11 then toBytes n (roundPosit (vadd (decodePosit y f) (decodePosit b f)) f)
  else if o.k = 12 then quireBytes (qadd (quireOfBytes old) (decodePosit (o.b.toNat % 2 ^ fmtWidth f) f))
  else if o.k = 13 then toBytes n (kilnUpdate y b o.c)
  else toBytes n (kilnInteger o.k n y b (o.c.toNat % 2 ^ (8 * n)))

/-- An operation performs at an offset of a die's kiln: the previous contents, whether they were poisoned, and the state. -/
def State.kilnPerform (s : State) (w : Who) (o : KilnOp) (die off : Nat) : Word × Bool × State :=
  let n := knLength o.k o.addr o.c
  let d := s.die die
  let old := readBytes d.kiln off n
  let bad := d.kilnPoison off n
  let s1 := if o.k = 14 then s else s.writeKiln w die off (o.effect old) (bad && o.k != 15)
  (BitVec.ofNat 64 (ofBytes (old.take 8)), bad, s1)

/-! ## Accesses that leave their list -/

/-- A tile's access of a list ends with an asynchronous COPY_FAULT (R128). -/
def State.refuseAccess (s : State) (n : Nat) (drop : Tile → Tile) (cause : Nat) (a : Word) : State :=
  (s.mapTile n (fun t => (drop t).alarm (copyFaultEvent cause a))).duePosts n ((s.tile n).postings.length + 1)

/-- A tile's access of a list has performed. -/
def State.accessDone (s : State) (n : Nat) (drop : Tile → Tile) : State :=
  (s.mapTile n drop).duePosts n ((s.tile n).postings.length + 1)

/-! ## Kiln operations (R119, R389, R393) -/

/-- Two addresses of class 0xA name one bank. -/
def sameBank (a b : Word) : Bool := field a.toNat 55 44 == field b.toNat 55 44 && field a.toNat 12 7 == field b.toNat 12 7

/-- No operation that the tile issued earlier to the same bank has still to perform. -/
def Tile.kilnTurn (t : Tile) (k : Nat) (o : KilnOp) : Bool :=
  o.stage == .sent && !(t.kiln.take k).any (fun x => x.stage == .sent && sameBank x.addr o.addr)

/-- An operation has performed: one that returns waits for its turn at kn.res, 31 cycles where timing is exact (R395); any
other leaves the queue. -/
def State.kilnPerformed (s : State) (n k : Nat) (o : KilnOp) (v : Word) (poisoned : Bool) : State :=
  if o.returns then
    let o1 := { o with stage := .performed v poisoned, due := o.due.map (fun _ => 31) }
    s.mapTile n (fun t => { t with kiln := setNth o1 t.kiln k })
  else s.accessDone n (fun t => t.kilnDone k)

/-- A kiln operation performs, if it may (R119). -/
def State.performKiln (s : State) (tile k : Nat) : Option State :=
  let t := s.tile tile
  match t.kiln[k]?, t.task with
  | some o, some task =>
    if !t.kilnTurn k o then none
    else
      match s.resolve tile task o.addr.toNat 0 (knLength o.k o.addr o.c) with
      | .error c => some (s.refuseAccess tile (fun t => t.kilnDone k) c o.addr)
      | .ok (.kiln d, off) =>
        let r := s.kilnPerform (t.who tile) o d off
        some (r.2.2.kilnPerformed tile k o r.1 r.2.1)
      | .ok (.away d, _) =>
        match s.request { cls := 1, dst := d, part := task.part, job := task.job, launch := task.launch, cargo := .kilnOp o } with
        | none => some (s.refuseAccess tile (fun t => t.kilnDone k) 3 o.addr)
        | some (tag, s1) => some (s1.mapTile tile (fun t => { t with kiln := setNth { o with stage := .away tag } t.kiln k }))
      | .ok _ => some (s.refuseAccess tile (fun t => t.kilnDone k) 1 o.addr)
  | _, _ => none

/-- The place and the operation of the earliest returning operation of a queue. -/
def firstReturning : Nat → List KilnOp → Option (Nat × KilnOp)
  | _, [] => none
  | k, o :: os => if o.returns then some (k, o) else firstReturning (k + 1) os

/-- A value reaches kn.res, or a poisoned one becomes a deferred event of a task that goes on (R393). -/
def Tile.returnValue (t : Tile) (o : KilnOp) (v : Word) (poisoned : Bool) : Tile :=
  if !poisoned then t.setResult .task 0x107 v
  else if t.phase = .running ∨ t.phase = .leaving then
    let f : Flight :=
      { unit := 8, clus := 15, op := 0x218 + o.k, remain := 0, perf := none, bundle := o.bundle, bus := o.bus,
        body := .poisoned (o.addr &&& ~~~63) }
    { t with units := { t.units with flights := t.units.flights ++ [f] } }
  else t

/-- The earliest returning operation's value returns, if it has performed (R393). -/
def State.returnKiln (s : State) (tile : Nat) : Option State :=
  match firstReturning 0 (s.tile tile).kiln with
  | some (k, o) =>
    match o.stage with
    | .performed v poisoned => some (s.accessDone tile (fun t => (t.returnValue o v poisoned).kilnDone k))
    | .sent => none
    | .away _ => none
  | none => none

/-! ## Messages (R161, R162) -/

/-- The receive queue that lk.a names. -/
def linkQueue (a : Word) : Nat := field a.toNat 7 4

def Tile.queue (t : Tile) (q : Nat) : List Received := mget [] t.queues q

/-- Two addresses name one peer task by rank and index. -/
def samePeer (a b : Word) : Bool := field a.toNat 55 48 == field b.toNat 55 48 && field a.toNat 41 32 == field b.toNat 41 32

/-- Two messages go to one receive queue. -/
def sameQueue (a b : Word) : Bool := samePeer a b && linkQueue a == linkQueue b

/-- A message may go: no earlier one to the same queue still has its entry, and no earlier one to the same tile has still to leave,
refused ones apart (R14, R161, R162). -/
def Tile.sendTurn (t : Tile) (k : Nat) (m : Outgoing) : Bool :=
  !(t.sends.take k).any (fun x => sameQueue x.dest m.dest || (samePeer x.dest m.dest && !x.refused && x.tag.isNone))

/-- A task of a launch that is switched out on this module (R79, R162). -/
def State.switchedOut (s : State) (k : Task) (a : Word) : Bool :=
  decide (field a.toNat 55 48 = ownRank s (s.part k.part) k.job)
    && s.dies.any (fun d => d.2.shadow.any (fun x =>
      x.part == k.part && x.launch == k.launch && x.index == field a.toNat 41 32))

/-- A message accepted by a receive queue. -/
def Tile.receive (t : Tile) (q : Nat) (m : Received) : Tile := { t with queues := mset [] t.queues q (t.queue q ++ [m]) }

/-- A message keeps its entry, refused or to be sent again. -/
def Tile.markSend (t : Tile) (k : Nat) (m : Outgoing) (refused : Bool) : Tile :=
  { t with sends := setNth { m with refused := refused, tag := none } t.sends k }

/-- A message arrives at its receive queue, if it may (R162). -/
def State.deliverMessage (s : State) (tile k : Nat) : Option State :=
  let t := s.tile tile
  match t.sends[k]?, t.task with
  | some m, some task =>
    let q := linkQueue m.dest
    if m.refused ∨ m.tag.isSome ∨ !t.sendTurn k m then none
    else
      match s.peer task (field m.dest.toNat 55 48) (field m.dest.toNat 41 32) with
      | .ok (some n, _) =>
        if 64 ≤ ((s.tile n).queue q).length then some (s.mapTile tile (fun t => t.markSend k m true))
        else
          some ((s.mapTile n (fun t => t.receive q { data := m.data, src := m.src, poisoned := false })).accessDone tile
            (fun t => t.sendDone k))
      | .error c =>
        if s.switchedOut task m.dest then some (s.mapTile tile (fun t => t.markSend k m true))
        else some (s.refuseAccess tile (fun t => t.sendDone k) c m.dest)
      | .ok (none, d) =>
        match s.request { cls := 3, dst := d, part := task.part, job := task.job, launch := task.launch, cargo := .link m } with
        | none => some (s.refuseAccess tile (fun t => t.sendDone k) 3 m.dest)
        | some (tag, s1) => some (s1.mapTile tile (fun t => { t with sends := setNth { m with tag := some tag } t.sends k }))
  | _, _ => none

/-! ## What another module answers (R26, R124, R160, R162) -/

/-- The place of the first element of a list with a property. -/
def placeOf {α : Type} (f : α → Bool) (l : List α) : Option Nat := (upFrom 0 l.length).find? (fun k => (l[k]?).any f)

/-- The answer to a kiln operation of a tile, if one waits for it. -/
def State.answerKiln (s : State) (n tag : Nat) (a : Answer) : Option State :=
  (placeOf (fun o => o.stage == .away tag) (s.tile n).kiln).bind (fun k =>
    ((s.tile n).kiln[k]?).map (fun o =>
      if a.cause ≠ 0 then s.refuseAccess n (fun t => t.kilnDone k) a.cause o.addr
      else s.kilnPerformed n k o (BitVec.ofNat 64 (ofBytes a.bytes)) a.poison))

/-- The answer to a remote write of a tile. -/
def State.answerRput (s : State) (n tag : Nat) (a : Answer) : Option State :=
  (placeOf (fun r => r.tag == some tag) (s.tile n).rputs).bind (fun k =>
    ((s.tile n).rputs[k]?).map (fun r =>
      if a.cause ≠ 0 then s.refuseAccess n (fun t => t.rputDone k) a.cause r.addr else s.accessDone n (fun t => t.rputDone k)))

/-- The answer to a message of a tile: it meets its fault, is refused and kept, or has its entry free (R162). -/
def State.answerSend (s : State) (n tag : Nat) (a : Answer) : Option State :=
  (placeOf (fun m => m.tag == some tag) (s.tile n).sends).bind (fun k =>
    ((s.tile n).sends[k]?).map (fun m =>
      if a.cause ≠ 0 then s.refuseAccess n (fun t => t.sendDone k) a.cause m.dest
      else if a.refused then s.mapTile n (fun t => t.markSend k m true)
      else s.accessDone n (fun t => t.sendDone k)))

/-- An answer goes to the access of a tile that waits under its transaction number; one that none waits for does nothing. -/
def State.takeAnswer (s : State) (tag : Nat) (a : Answer) : State :=
  ((s.tiles.map Prod.fst).findSome? (fun n =>
    match s.answerKiln n tag a, s.answerRput n tag a, s.answerSend n tag a with
    | some t, _, _ => some t
    | none, some t, _ => some t
    | none, none, some t => some t
    | none, none, none => s.answerCopy n tag a)).getD s

/-! ## Exact timing (R166, R395, R398, log 12) -/

/-- The bank occupancy q of a kiln operation (R395). -/
def kilnOccupancy (k : Nat) : Nat := if k = 11 then 2 else if k = 12 ∨ k = 13 then 4 else 1

/-- No other transfer may share a link of the ways of the tile's kiln operations to banks of its own die, whose places there are not
given (log 12), and so no other tile has an operation at one of these banks; its own are all counted (R395). -/
def State.loneKiln (s : State) (n : Nat) : Bool :=
  s.clearWay n (.die (dieOf n)) none false && (s.tile n).kiln.all (fun o => o.due.isSome)

/-- A kiln operation to the tile's own die, on the own module (R395). -/
def State.ownKiln (s : State) (n : Nat) (a : Word) : Bool :=
  match (s.tile n).task with
  | some k =>
    let p := s.part k.part
    decide (field a.toNat 55 48 = ownRank s p k.job) && decide (p.dieList[field a.toNat 47 44]? = some (dieOf n))
  | none => false

/-- The count that a kiln operation of this tile starts with, where its timing is exact: it performs 28 + q cycles after its
bundle, and q cycles after the tile's previous operation at the bank (R395). -/
def State.kilnDue (s : State) (n : Nat) (o : KilnOp) : Option Nat :=
  let t := s.tile n
  let q := kilnOccupancy o.k
  if t.fixed && s.ownKiln n o.addr && s.loneKiln n then
    some ((t.kiln.filter (fun x => x.stage == .sent && sameBank x.addr o.addr)).foldl (fun d x => max d (x.due.getD 0 + q)) (28 + q))
  else none

/-- The count of a message of this tile to its own die, where its timing is exact: every message of a pinned die takes 28 cycles
from its router, so that one sent into an empty buffer is accepted 30 cycles after its bundle, and a probe of that cycle does not
see it yet (R166, R397, R398). -/
def State.sendDue (s : State) (n : Nat) (dest : Word) : Option Nat :=
  let t := s.tile n
  let own := match t.task with
    | some k =>
      (match s.peer k (field dest.toNat 55 48) (field dest.toNat 41 32) with
       | .ok (some m, _) => decide (dieOf m = dieOf n)
       | _ => false)
    | none => false
  if t.fixed && own && t.sends.isEmpty then some 31 else none

/-- The counts of kiln operations end when other traffic may share the way: the rest happens when it happens. -/
def Tile.loosenKiln (t : Tile) : Tile := { t with kiln := t.kiln.map (fun o => { o with due := none }) }

/-- The counts of one cycle: those of kiln operations, those of messages. -/
def Tile.countKiln (t : Tile) : Tile := { t with kiln := t.kiln.map (fun o => { o with due := o.due.map (fun d => d - 1) }) }
def Tile.countSends (t : Tile) : Tile := { t with sends := t.sends.map (fun m => { m with due := m.due.map (fun d => d - 1) }) }

/-- The accesses whose count has ended perform, return and arrive, each at most once by fuel. -/
def State.dueTransfers (s : State) (n : Nat) : Nat → State
  | 0 => s
  | fuel + 1 =>
    let t := s.tile n
    let performed := (upFrom 0 t.kiln.length).findSome? (fun k =>
      match t.kiln[k]? with
      | some o => if o.due = some 0 ∧ o.stage = .sent then s.performKiln n k else none
      | none => none)
    let returned :=
      match firstReturning 0 t.kiln with
      | some (_, o) => if o.due = some 0 then s.returnKiln n else none
      | none => none
    let arrived :=
      match t.sends with
      | m :: _ => if m.due = some 0 then s.deliverMessage n 0 else none
      | [] => none
    match performed, returned, arrived with
    | some s1, _, _ => s1.dueTransfers n fuel
    | none, some s1, _ => s1.dueTransfers n fuel
    | none, none, some s1 => s1.dueTransfers n fuel
    | none, none, none => s

/-- One cycle of a tile's accesses whose timing is exact. -/
def State.transferTick (s : State) (n : Nat) : State :=
  let t := s.tile n
  if t.kiln.all (fun o => o.due.isNone) && t.sends.all (fun m => m.due.isNone) then s
  else
    (s.mapTile n (fun t => (if s.loneKiln n then t.countKiln else t.loosenKiln).countSends)).dueTransfers n
      (2 * t.kiln.length + t.sends.length)

/-- Some cycles of a tile's accesses whose timing is exact. -/
def State.transferTicks (s : State) (n : Nat) : Nat → State
  | 0 => s
  | k + 1 => (s.transferTick n).transferTicks n k

/-- Whether the tile's own cycles count an access; once its task issues nothing more it has no cycles. -/
def Tile.counts (t : Tile) (due : Option Nat) : Bool := due.isSome && t.phase == .running

end Sys2Proof.Machine
end

