-- ==== Sys2Proof/Machine/Issue.lean ====
section
/-! DEFINITION. One cycle of a tile: fetch, the checks before issue, holds, the issue of a bundle and what follows it, and
the order of causes at a bundle boundary (R190 to R203, R215 to R218, R226 to R243). -/

namespace Sys2Proof.Machine

open Host (Outcome)

/-! ## Operations -/

/-- A trigger as it issues: its move, its code, what the move carries, the address of its bundle, the values of the bundle's
vx triggers by cluster (R368), and for a spawn s8 to s15 as its bundle reads them (R334). -/
structure Trigger where
  move    : Move
  code    : Nat
  value   : Moved
  bundle  : Word
  carried : SMap Vec
  window  : List Word
  deriving DecidableEq, Repr

def Trigger.word (tr : Trigger) : Word := tr.value.word
def Trigger.bus (tr : Trigger) : BitVec 8 := BitVec.ofNat 8 tr.move.bus.id
/-- The unit triggered, by its number in R233. -/
def Trigger.unit (tr : Trigger) : Nat := (unitOf tr.move.bus.isTile tr.code).getD 0

/-- A cause that holds a bundle: its row of R215, its timeout in microseconds or zero, and the bus of its move. -/
structure Hold where
  row     : Nat
  timeout : Word
  bus     : BitVec 8
  deriving DecidableEq, Repr

/-- What a bundle does after all its moves have performed. -/
inductive After where
  | nothing
  | trap (info : Word) (bus : BitVec 8)
  | finish
  | rfe
  deriving DecidableEq, Repr

/-- The meaning of a trigger: its pre-issue checks in the order its description states, the token fault a held bundle
takes, its hold causes, the byte ranges of the tile store it touches, its effect in the cycle, its effect as the cycle
ends, and what it does after the bundle. All read the state in which every move of the bundle has been written (R200). -/
structure Operation where
  check : Trigger → State → List Event := fun _ _ => []
  fault : Trigger → State → Option Event := fun _ _ => none
  hold  : Trigger → State → List Hold := fun _ _ => []
  touch : Trigger → State → List (Nat × Nat) := fun _ _ => []
  act   : Trigger → State → State := fun _ s => s
  late  : Trigger → State → State := fun _ s => s
  after : Trigger → After := fun _ => .nothing

/-- A move of a bundle with its destination code; a trigger has its operation, a reserved opcode has none. -/
structure Slot where
  move : Move
  code : Nat
  op   : Option Operation

/-- A slot whose move is performed, with what it carries. -/
structure Active where
  slot   : Slot
  value  : Moved
  window : List Word

def Slot.triggers (x : Slot) : Bool := decide (0x180 ≤ x.code)

/-- The moves of a bundle that its guards leave (R203, R315). -/
def activeSlots (t : Tile) (xs : List Slot) : List Active :=
  xs.filterMap (fun x => (t.moved x.move).map (fun v =>
    { slot := x, value := v, window := if x.code = 0x1E1 then (upFrom 8 8).map t.readS else [] }))

/-- The values that vx triggers of a bundle carry, by cluster (R368). -/
def vxValues (as : List Active) : SMap Vec :=
  (as.filter (fun a => !a.slot.move.bus.isTile && decide (0x200 ≤ a.slot.code) && decide (a.slot.code < 0x204))).foldl
    (fun m a => a.value.parts.foldl (fun m p => mput p.1 p.2.1 m) m) []

def Active.trigger (a : Active) (bundle : Word) (vx : SMap Vec) : Trigger :=
  { move := a.slot.move, code := a.slot.code, value := a.value, bundle := bundle, carried := vx, window := a.window }

/-! ## Checks of every move -/

/-- The cluster a tile bus reaches by a source or destination code (R304, R305). -/
def crossing (m : Move) (d : Nat) : List Nat :=
  (match m.src with
    | .result p => if 0x40 ≤ p.toNat then [(p.toNat - 0x40) / 4] else []
    | _ => [])
    ++ (if 0x140 ≤ d && decide (d < 0x180) then [(d - 0x140) / 8] else [])

/-- Cause 4: a cluster declared idle (R198, R305). -/
def idleCluster (inUse : Nat) (m : Move) (d : Nat) : Bool :=
  match m.bus with
  | .cluster c _ => !inUse.testBit c.val
  | .fan _ => false
  | .tile _ => (crossing m d).any (fun c => !inUse.testBit c)

/-- Result latches and operand ports of units a handler may not address (R236): kn, lk and mx. -/
def handlerSource : Source → Bool
  | .result p => decide (p.toNat < 7)
  | _ => true

def handlerDest (user : Bool) (d : Nat) : Bool :=
  if d < 0x18 then !user
  else if d < 0x20 then true
  else if d < 0x2E then !user
  else if d < 0x30 then true
  else if 0x118 ≤ d && decide (d < 0x120) then false
  else if 0x130 ≤ d && decide (d < 0x180) then false
  else decide (d < 0x210)

/-- Cause 8: what a handler bundle may not move (R236). -/
def handlerRestricted (t : Tile) (m : Move) (d : Nat) : Bool :=
  t.inHandler && (!m.bus.isTile || !handlerSource m.src || !handlerDest (t.level == .user) d)

/-- The clusters and unit a trigger starts: the tile domain counts as cluster 15. -/
def unitKeys (inUse : Nat) (x : Slot) : List (Nat × Nat) :=
  match unitOf x.move.bus.isTile x.code with
  | none => []
  | some u =>
    match x.move.bus with
    | .tile _ => [(15, u)]
    | .cluster c _ => [(c.val, u)]
    | .fan _ => ((upFrom 0 8).filter (fun c => inUse.testBit c)).map (fun c => (c, u))

/-- A trap and an END, which may share a bundle (R242, R330). -/
def trapAndEnd (x y : Slot) : Bool :=
  x.move.bus.isTile && y.move.bus.isTile && ((x.code == 0x1DE && y.code == 0x1DD) || (x.code == 0x1DD && y.code == 0x1DE))

/-- Whether an earlier trigger of the bundle started a unit that this one starts (R201, R241). -/
def duplicate (inUse : Nat) (before : List Active) (x : Slot) : Bool :=
  (unitKeys inUse x).any (fun k => before.any (fun b => (unitKeys inUse b.slot).contains k && !trapAndEnd b.slot x))

/-- The events a move raises before issue, in the order of its checks, with the BUS and INFO of the move (R226, R230). -/
def Active.events (s : State) (bundle : Word) (vx : SMap Vec) (before : List Active) (a : Active) : List Event :=
  let t := s.here
  let x := a.slot
  let own := match x.op with
    | some o => o.check (a.trigger bundle vx) s
    | none => if x.triggers then [illegalOp 1] else []
  let every := eventsOf
    [(handlerRestricted t x.move x.code, illegalOp 8), (idleCluster t.inUse x.move x.code, illegalOp 4),
     (duplicate t.inUse before x, illegalOp 5)]
  (every ++ own).map (fun e =>
    { e with bus := BitVec.ofNat 8 x.move.bus.id
             info := if e.code = .illegalOperation then BitVec.ofNat 64 x.code else e.info })

/-- Each move's events, in bus order. -/
def bundleEvents (s : State) (bundle : Word) (vx : SMap Vec) : List Active → List Active → List (Nat × List Event)
  | _, [] => []
  | before, a :: as =>
    (a.slot.code, a.events s bundle vx before) :: bundleEvents s bundle vx (before ++ [a]) as

/-- The event of least cause; an earlier one prevails among equals. -/
def leastCause : List Event → Option Event
  | [] => none
  | e :: es =>
    match leastCause es with
    | none => some e
    | some f => if f.cause.toNat < e.cause.toNat then some f else some e

/-- The first event of a list with one of some causes, in the order of the causes. -/
def firstCause (es : List Event) (causes : List Nat) : Option Event :=
  causes.findSome? (fun n => es.find? (fun e => e.cause.toNat == n))

/-- The ILLEGAL_OPERATION of one move: a matrix trigger's causes 8, 1 and 3 go in the order of R383, and the causes that its
description does not order come after them; others go by cause (R241). -/
def illegalOf (x : Nat × List Event) : Option Event :=
  let es := x.2.filter (fun e => e.code == .illegalOperation)
  if 0x210 ≤ x.1 && decide (x.1 < 0x216) then firstCause es [8, 1, 3, 4, 5] else leastCause es

/-- The pre-issue event of a bundle by items 4 to 6 of R241. -/
def preIssue (xs : List (Nat × List Event)) : Option Event :=
  match (xs.flatMap Prod.snd).find? (fun e => e.code == .privilege) with
  | some e => some e
  | none =>
    match xs.findSome? illegalOf with
    | some e => some e
    | none => (xs.flatMap Prod.snd).head?

/-! ## Fetch (R190 to R195) -/

/-- What the sequencer finds at pc. -/
inductive Fetched where
  | ready (slots : List Slot) (words : Nat)
  | illegal (info : Nat) (bus : Nat)
  | missing (lines : List Nat)
  | failed (e : Event)

/-- The words of a line from a byte offset on. -/
def CodeLine.words (l : CodeLine) (from_ : Nat) : List Lane := l.data.drop (from_ / 4)

/-- The words at pc that are resident, and the first line that is not. -/
def Tile.codeAt (t : Tile) : List Lane × Nat :=
  let line := t.pc.toNat / 256
  match t.codeLine t.part line with
  | none => ([], line)
  | some l =>
    match t.codeLine t.part (line + 1) with
    | none => (l.words (t.pc.toNat % 256), line + 1)
    | some m => (l.words (t.pc.toNat % 256) ++ m.words 0, line + 1)

/-! ## The cycle -/

/-- What a tile's cycle does: take an event on a state with an EPC, stop for a switch-out, stand held, or issue. -/
inductive Plan where
  | event (e : Event) (epc : Word) (base : State)
  | switchOut
  | held (rows : List Hold) (lines : List Nat) (advance : Bool)
  | issue (as : List Active) (words : Nat) (bundle : Word) (ready : State)
  | retireTask

/-- The hold rows of a bundle (R215). -/
def bundleHolds (s1 : State) (bundle : Word) (vx : SMap Vec) (as : List Active) : List Hold :=
  let t := s1.here
  let busy (a : Active) : Bool :=
    match a.slot.op with
    | some o =>
      t.level == .task && ((o.touch (a.trigger bundle vx) s1).any (fun r => (banksOf r.1 r.2 &&& t.reservedBanks) != 0))
    | none => false
  (match as.find? busy with
    | some a => [{ row := 1, timeout := 0, bus := BitVec.ofNat 8 a.slot.move.bus.id }]
    | none => [])
    ++ as.flatMap (fun a => match a.slot.op with | some o => o.hold (a.trigger bundle vx) s1 | none => [])

/-- The spill engine's hold, which lasts eight cycles and longer while its slots lie in reserved banks (R213). -/
def Tile.spillRow (t : Tile) : List Hold :=
  if t.level == .task && t.stall != some 0 then
    match t.spillHold with
    | some _ => [{ row := 3, timeout := 0, bus := ((t.dueRedirects.map Flight.bus).headD 0xFF) }]
    | none => []
  else []

/-- Whether the spill engine advances in a held cycle. -/
def Tile.spillFree (t : Tile) : Bool :=
  match t.spillHold with
  | some ranges => ranges.all (fun r => (banksOf r.1 r.2 &&& t.reservedBanks) == 0)
  | none => true

/-- The hold cause of lowest row. -/
def lowestRow : List Hold → Option Hold
  | [] => none
  | h :: hs =>
    match lowestRow hs with
    | none => some h
    | some k => if k.row < h.row then some k else some h

/-- The expired timeout that expired first: the shortest, and of equal ones that of lowest row (R216). -/
def firstExpired (hs : List Hold) : Option Hold :=
  lowestRow (hs.filter (fun h => hs.all (fun k => decide (h.timeout.toNat ≤ k.timeout.toNat))))

/-- The timeouts that have expired by a held cycle: one of n microseconds has when n × 1,000 counts have passed since the
bundle was first held (R164, R216). -/
def expired (now since : Word) (hs : List Hold) : List Hold :=
  hs.filter (fun h => decide (h.timeout ≠ 0) && decide (h.timeout.toNat * 1000 ≤ (now - since).toNat))

/-- An event as an asynchronous one (R227). -/
def Event.asLate (e : Event) : Event := { e with late := true }

/-- Item 10 of R241: the asynchronous cause taken at a boundary, if any (R227, R239, R243). -/
def asynchronous (s : State) (epc : Word) : Option Plan :=
  let t := s.here
  match t.alarms with
  | e :: es =>
    if t.level = .monitor then none else some (.event e.asLate epc (s.setHere { t with alarms := es }))
  | [] =>
    if t.level ≠ .task ∨ t.phase ≠ .running then none
    else
      match t.done with
      | c :: cs =>
        let room := { t with done := cs ++ t.doneWait.take 1, doneWait := t.doneWait.drop 1 }
        some (.event { code := .userCompletion, cause := c.cause, info := c.info, late := true } epc (s.setHere room))
      | [] =>
        if t.matrix.preempt && !(match t.matrix.channel with | some (_, some _) => true | _ => false) then some .switchOut
        else none

/-- A tile whose sequencer can issue: a running one, or one whose task has ended while an S handler runs (R242). -/
def Tile.canIssue (t : Tile) : Bool := t.phase == .running || (t.phase == .ended && t.level == .monitor)

/-- A pending END that falls due on return from a handler (R242). -/
def Tile.endingDue (t : Tile) : Bool :=
  t.level == .task && t.units.flights.any (fun f => match f.body with | .ending => f.remain == 0 | _ => false)

/-- A held bundle: its strict-timing event or timeout, else an asynchronous cause, else the hold itself (R216, R217). -/
def heldPlan (s : State) (epc : Word) (hs : List Hold) (lines : List Nat) : Plan :=
  let t := s.here
  let ev (code : EventCode) (h : Hold) : Plan :=
    .event { code := code, info := BitVec.ofNat 64 h.row, bus := h.bus } epc s
  match lowestRow hs, firstExpired (expired s.timeBase (t.held.getD s.timeBase) hs) with
  | some h, late =>
    if t.clock = 2 ∧ t.level = .task ∧ h.row ≠ 2 then ev .strictTimingHold h
    else
      match late with
      | some l => ev .waitTimeout l
      | none => (asynchronous s epc).getD (.held hs lines t.spillFree)
  | none, _ => .held hs lines true

/-- What the tile of `s.cur` does in this cycle (R191, R241), under a fetch at the pc that its redirects leave. A held bundle's
TOKEN_FAULT, which R241 does not list, comes after its pre-issue events and before its holds (DESIGN CHOICE, log 60). An asynchronous cause
that is pending before a bundle with TRAP or END is taken first, and the bundle issues after the return (DESIGN CHOICE, log 76). -/
def planCycle (fetch : State → Fetched) (s : State) : Plan :=
  let t := s.here
  match t.deferred with
  | some d => .event d.event t.start.pc (s.setHere d.tile)
  | none =>
    if t.endingDue then .retireTask
    else
      let s0 := s.mapHere Tile.start
      let t0 := s0.here
      let epc := t0.pc
      match fetch s0 with
      | .failed e => .event e epc (s.mapHere (fun t => { t with fillFault := none }))
      | .illegal i b =>
        .event { code := .illegalEncoding, info := BitVec.ofNat 64 i, bus := BitVec.ofNat 8 b } epc s
      | .missing lines =>
        if t.fixed && !t.serial && !t.inHandler then
          .event { code := .codeFetchFixed, info := BitVec.ofNat 64 (256 * lines.headD 0) } epc s
        else heldPlan s epc ({ row := 2, timeout := 0, bus := 0xFF } :: t.spillRow) lines
      | .ready slots words =>
        let as := activeSlots t0 slots
        let vx := vxValues as
        let s1 := as.foldl (fun s a => s.mapHere (fun t => t.writeMove a.slot.move a.slot.code a.value)) s0
        match preIssue (bundleEvents s1 epc vx [] as) with
        | some e => .event e epc s
        | none =>
          match as.findSome? (fun a => a.slot.op.bind (fun o => o.fault (a.trigger epc vx) s1)) with
          | some e => .event e epc s
          | none =>
            match t.spillRow ++ bundleHolds s1 epc vx as with
            | [] => (asynchronous s epc).getD (.issue as words epc s1)
            | hs => heldPlan s epc hs []

/-- A held cycle (R116, R216, R238). -/
def holdCycle (hs : List Hold) (lines : List Nat) (advance : Bool) (s : State) : State :=
  let t := s.here
  let rows := hs.foldl (fun m h => m ||| BitVec.twoPow 8 (h.row - 1)) 0
  let want := lines.filter (fun l => !t.fills.any (fun f => f.1 == l))
  let spilling := hs.any (fun h => h.row == 3)
  let t1 : Tile :=
    { t with
      held := some (t.held.getD s.timeBase), holds := rows
      fills := t.fills ++ want.map (fun l => (l, false))
      hcyc := if t.level = .task then t.hcyc + 1 else t.hcyc
      fcyc := if t.level = .task then t.fcyc else t.fcyc + 1
      stall := if spilling && advance then some (match t.stall with | none => 7 | some n => n - 1) else t.stall }
  let s1 := s.setHere t1
  if t.level = .task then s1.engineTick s.cur else s1

/-- Stores already issued perform, and nothing else of the level's records happens (R330, R332). -/
def Tile.settle (t : Tile) : Tile :=
  let one (t : Tile) : Tile := (t.perform t.level).countDown
  one (one (one t))

/-- END: the task issues nothing more; its results, redirects and completions are discarded (R330, R242). -/
def Tile.finishTask (t : Tile) : Tile :=
  let t1 := t.settle
  { t1 with phase := .ended, units := { t1.units with flights := [] }, quires := [], done := [], doneWait := [] }

/-- What follows a bundle whose moves have all performed: a trap, an end, or a return from event (R227, R241, R242). The return of
a stub task from its TRAP binds it (R411). -/
def afterBundle (as : List After) (s : State) : State :=
  let ends := as.contains .finish
  match as.find? (fun a => match a with | .trap _ _ => true | _ => false) with
  | some (.trap info bus) =>
    let t := s.here
    let t1 := if ends then
        t.launchFlight { unit := 4, clus := 15, op := 0x1DD, remain := 0, perf := none, bundle := t.pc, bus := bus, body := .ending }
      else t
    takeEvent { code := .trap, info := info, bus := bus } t.pc (s.setHere t1)
  | _ =>
    if ends then s.mapHere Tile.finishTask
    else if as.contains .rfe then
      let h := s.here.handler.word.toNat
      let trapped := field h 23 22 == 1 && field h 7 0 == EventCode.trap.number
      let s0 := s.mapHere Tile.settle
      let s1 := returnFromEvent (if s0.here.level = .monitor then s0.leaveRedone s0.cur else s0)
      if trapped && s1.here.level == .task && s1.here.phase == .running then s1.rebind s.cur else s1
    else s

/-- The tile's own part of an issue cycle (R191, R216, R218, R232): pc advances, records count down, no hold stands, the
cycle is counted, and the code lines fetched are the most recently used. -/
def Tile.issued (t : Tile) (bundle : Word) (words : Nat) : Tile :=
  let t1 := ((t.touchLine t.part (bundle.toNat / 256)).touchLine t.part ((bundle.toNat + 4 * words - 1) / 256)).countDown
  let t2 : Tile :=
    { t1 with
      pc := bundle + BitVec.ofNat 64 (4 * words), held := none, holds := 0, issues := t.issues + 1
      stall := if t.level = .task then none else t.stall
      icyc := if t.level = .task then t.icyc + 1 else t.icyc
      fcyc := if t.level = .task then t.fcyc else t.fcyc + 1 }
  t2.linkCalls

/-- The bundle issues, all its moves written: its triggers act in bus order, the tile's cycle passes, and its engines go
on. -/
def issueBundle (as : List Active) (words : Nat) (bundle : Word) (s1 : State) : State :=
  let vx := vxValues as
  let acts := as.filterMap (fun a => a.slot.op.map (fun o => (o, a.trigger bundle vx)))
  let s2 := acts.foldl (fun s x => x.1.act x.2 s) s1
  let s3 := s2.mapHere (fun t => t.issued bundle words)
  let s4 := if s1.here.level = .task then s3.engineTick s1.cur else s3
  afterBundle (acts.map (fun x => x.1.after x.2)) (acts.foldl (fun s x => x.1.late x.2 s) s4)

/-- What a plan makes of the tile and its engines. -/
def enactPlan (p : Plan) (s : State) : State :=
  match p with
  | .event e epc base => takeEvent e epc base
  | .switchOut =>
    (s.snapshotEvent { code := .preemption }).mapHere (fun t => { t with phase := .leaving, lastEvent := eventWord { code := .preemption } false, held := none, holds := 0 })
  | .held hs lines adv => holdCycle hs lines adv s
  | .issue as words bundle ready => issueBundle as words bundle ready
  | .retireTask => s.mapHere Tile.finishTask

/-- What a plan makes of the state: off-tile accesses go on in every cycle it takes (R175, R215). -/
def runPlan (p : Plan) (s : State) : State :=
  let s1 := enactPlan p s
  s1.transferTicks s.cur (min 16 (s1.here.cycles - s.here.cycles).toNat)

/-- A cycle of the tile of `s.cur`. A tile whose task has ended takes asynchronous S-level events only (R242), and none while its partition
is STOPPED, where no task runs (R53, log 72). -/
def cycle (name : String) (fetch : State → Fetched) (s : State) : Outcome State Fault Refusal :=
  let t := s.here
  if t.canIssue then .next (runPlan (planCycle fetch s) s)
  else if t.phase = .ended ∧ (s.part t.part).state ≠ .stopped then
    match t.alarms with
    | e :: es => .next (takeEvent e.asLate t.pc (s.setHere { t with alarms := es }))
    | [] => .refused (.notDue name)
  else .refused (.notDue name)

/-- How many words a move word takes with its long immediate (R276). -/
def wordCount (m : Move) : Nat := match m.src with | .long _ => 2 | _ => 1

/-- The one-move bundle of a trigger: what exec does with its move word (log 6). -/
def issueOne (name : String) (i : Instr) (m : Move) (op : Operation) (s : State) : Outcome State Fault Refusal :=
  cycle name (fun _ => .ready [{ move := m, code := i.code, op := some op }] (wordCount m)) s

/-! ## Results on their way -/

/-- A flight record of a tile-domain trigger. -/
def Trigger.flight (tr : Trigger) (remain : Nat) (perf : Option Nat) (body : Payload) : Flight :=
  { unit := tr.unit, clus := 15, op := tr.code, remain := remain, perf := perf, bundle := tr.bundle, bus := tr.bus, body := body }

/-- A tile-domain result that reaches its latch after a latency (R202). -/
def sendResult (tr : Trigger) (latency port : Nat) (v : Word) (s : State) : State :=
  s.mapHere (fun t => t.launchFlight (tr.flight latency none (.result port v)))

/-- A redirect due three issue cycles after its trigger (R191). -/
def redirect (tr : Trigger) (target : Word) (turn : Turn) (s : State) : State :=
  s.mapHere (fun t => t.launchFlight (tr.flight 3 none (.redirect target turn)))

/-- An effect in each cluster that a trigger reaches: the cluster, its value and the lanes that are on. -/
def Trigger.each (tr : Trigger) (f : Nat → Vec → BitVec 16 → State → State) (s : State) : State :=
  tr.value.parts.foldl (fun s p => f p.1 p.2.1 p.2.2 s) s

/-- The checks of a cluster trigger in each cluster it reaches: all those of the lowest cluster come before any of the next, for R241 orders
the checks within a move and no rule the clusters (DESIGN CHOICE, log 78). -/
def Trigger.checks (tr : Trigger) (f : Nat → Vec → BitVec 16 → List Event) : List Event :=
  tr.value.parts.flatMap (fun p => f p.1 p.2.1 p.2.2)

/-- A cluster result that reaches its latch after a latency in the lanes that were on (R202, R203). -/
def sendVector (tr : Trigger) (c latency port : Nat) (lanes : BitVec 16) (v : Vec) (s : State) : State :=
  s.mapHere (fun t => t.launchFlight { tr.flight latency none (.vector port lanes v) with clus := c })

end Sys2Proof.Machine
end

