-- ==== Sys2Proof/Machine/SysRegs.lean ====
section
/-! DEFINITION. The system registers: who may read and write each, what a read delivers, what a write does, and the
invalidation of translations (R126, R240, R336 to R342, R409). -/

namespace Sys2Proof.Machine

/-- The levels of R337's table: below S, or S. -/
inductive Need where
  | u
  | s
  | never
  deriving DecidableEq, Repr

/-- The Read and Write columns of R337. -/
def sysreg (n : Nat) : Option (Need × Need) :=
  if n ≤ 0x002 then some (.u, .never)
  else if n = 0x003 then some (.s, .never)
  else if n = 0x008 then some (.u, .s)
  else if n = 0x009 then some (.u, .never)
  else if n = 0x00A then some (.u, .s)
  else if n = 0x00B then some (.u, .never)
  else if n = 0x010 ∨ n = 0x011 then some (.u, .u)
  else if n = 0x101 ∨ n = 0x109 ∨ n = 0x10C then some (.s, .never)
  else if 0x100 ≤ n ∧ n ≤ 0x10E then some (.s, .s)
  else none

/-- A level that meets a need. -/
def Need.met (d : Need) (s : Bool) : Bool := match d with | .u => true | .s => s | .never => false

/-- Numbers that belong to the module firmware (R336). -/
def firmwareRegister (n : Nat) : Bool := decide (0x200 ≤ n)

/-- The checks of a read (R336). -/
def readChecks (isS : Bool) (n : Nat) : List Event :=
  let denied : Event := { code := .privilege, info := BitVec.ofNat 64 n }
  if firmwareRegister n then [denied]
  else
    match sysreg n with
    | none => [illegalOp 1]
    | some (r, _) => if r.met isS then [] else [denied]

/-- Fields that a written operand word reserves (R316, R338, R342). The reserved bits of JOBCTL and FRSEL are ignored (R7,
R339, R340). An ACT of JOBCTL from 3 to 15, which R339 does not list, is taken as a reserved value (DESIGN CHOICE, log 49). -/
def reservedWritten (n : Nat) (v : Word) : Bool :=
  let x := v.toNat
  if n = 0x103 then
    decide (field x 63 55 ≠ 0) || decide (field x 15 2 ≠ 0) || !(field x 1 0 == 1 || field x 1 0 == 2)
      || (field x 1 0 == 2 && decide (field x 54 16 ≠ 0))
  else if n = 0x105 then decide (3 ≤ field x 15 12)
  else if n = 0x10D then decide (field x 63 24 ≠ 0) || decide (field x 15 12 ≠ 0)
  else false

/-- The checks of a write (R316, R336). -/
def writeChecks (isS : Bool) (n : Nat) (v : Word) : List Event :=
  let denied : Event := { code := .privilege, info := BitVec.ofNat 64 n }
  if firmwareRegister n then [denied]
  else
    match sysreg n with
    | none => [illegalOp 1]
    | some (r, w) =>
      if w = .never then (if r.met isS then [] else [denied])
      else if !w.met isS then [denied]
      else if reservedWritten n v then [illegalOp 1] else []

/-! ## Reads (R337 to R342, R348) -/

/-- The number of a job's state in a JOBCTL read (R339). -/
def JobState.number : JobState → Nat
  | .unprotected => 0
  | .open_ => 1
  | .quiescing => 2
  | .draining => 3
  | .replaying => 4
  | .serial => 5
  | .failed => 6

/-- PTILE: the physical tile and its mesh coordinates (R10). -/
def meshX (tile : Nat) : Nat := tile / 64 % 4 * 8 + tile % 8
def meshY (tile : Nat) : Nat := tile / 64 / 4 * 8 + tile % 64 / 8

/-- The value of a system register for the tile that reads it. -/
def State.readSysreg (s : State) (n : Nat) : Word :=
  let t := s.here
  let p := s.part t.part
  let w (x : Nat) : Word := BitVec.ofNat 64 x
  let sel := t.ranksel.toNat
  let table := p.rankTable (field sel 11 0)
  if n = 0x000 then t.icyc
  else if n = 0x001 then t.hcyc
  else if n = 0x002 then t.fcyc
  else if n = 0x003 then (s.die (dieOf s.cur)).estr
  else if n = 0x008 then (if t.inHandler then t.handler.word else 0)
  else if n = 0x009 then (if t.inHandler then t.handler.info else 0)
  else if n = 0x00A then (if t.inHandler then t.handler.epc else 0)
  else if n = 0x00B then
    w ((if t.detRead then 1 else 0) + (if (t.task.any Task.determ) then 2 else 0) + 4 * t.clock
      + 16 * (if t.isS then 2 else if t.inHandler then 1 else 0))
  else if n = 0x010 then t.karm
  else if n = 0x011 then t.semarm
  else if n = 0x100 then p.svec
  else if n = 0x101 then p.mbase
  else if n = 0x102 then p.root
  else if n = 0x103 then flagWord p.tlbi.isEmpty
  else if n = 0x104 then p.xwin
  else if n = 0x105 then w (t.jobsel.toNat + 2 ^ 16 * (p.job t.jobsel.toNat).state.number)
  else if n = 0x106 then (s.die (dieOf s.cur)).swapBase
  else if n = 0x107 then (s.die (dieOf s.cur)).swapPages
  else if n = 0x108 then t.frsel + w (2 ^ 32 * (t.flightRecords s.fresh).length)
  else if n = 0x109 then
    let i := field t.frsel.toNat 15 4
    let k := field t.frsel.toNat 3 0
    if (t.flightRecords s.fresh).length ≤ i then 0
    else if 10 ≤ k then Config.freeWord s.fresh else nth 0 (nth [] (t.flightRecords s.fresh) i) k
  else if n = 0x10A then t.ctxsel
  else if n = 0x10B then t.contextWord s.fresh t.ctxsel.toNat
  else if n = 0x10C then w (s.cur + 2 ^ 16 * meshX s.cur + 2 ^ 24 * meshY s.cur)
  else if n = 0x10D then t.ranksel + w (2 ^ 32 * (match table with | some r => r.length | none => 0))
  else
    match table.bind (fun r => r[field sel 23 16]?) with
    | some d => w (d + 2 ^ 8)
    | none => 0

/-- Registers that deterministic mode hides (R100, R348). -/
def hiddenRegister (n : Nat) : Bool := decide (n < 4) || n == 0x10C

/-- The sticky deterministic-read flag set on the tile that reads. -/
def State.markRead (s : State) : State := s.mapHere (fun t => { t with detRead := true })

/-! ## Writes -/

/-- An invalidation asked for (R338). -/
def State.startInvalidation (s : State) (v : Word) : State :=
  s.mapPart s.here.part (fun p => { p with tlbi := p.tlbi ++ [v] })

/-- Whether an invalidation covers a virtual address under an entry of a level: its page, or the block that holds it. -/
def covers (v : Word) (level page : Nat) : Bool :=
  field v.toNat 1 0 == 2 || field v.toNat 54 16 * 65536 / 2 ^ leafBits level == page

/-- A job has a record in a partition (R339). -/
def Partition.hasJob (p : Partition) (job : Nat) : Bool := p.launches.any (fun l => l.job == job) || (p.job? job).isSome

/-- JOBCTL (R339): the job is selected, then rolled back or failed if it has a record. -/
def State.writeJobctl (s : State) (v : Word) : State :=
  let job := field v.toNat 11 0
  let s1 := s.mapHere (fun t => { t with jobsel := BitVec.ofNat 64 job })
  let part := s.here.part
  let ask (c : JobCause) : State :=
    if (s.part part).hasJob job then s1.addCause { part := part, job := job, addr := 0, what := c } else s1
  if field v.toNat 15 12 = 1 then ask (.rollback .monitor)
  else if field v.toNat 15 12 = 2 then ask .failed
  else s1

/-- KARM (R240): tokens already PRESENT or FAULTED queue their events at once. -/
def Tile.writeKarm (t : Tile) (v : Word) : Tile :=
  (upFrom 0 64).foldl
    (fun t k =>
      if t.karm.getLsbD k ∧ (t.token k = .present ∨ t.token k = .faulted) then
        { t with karm := putBit t.karm k false }.complete (tokenCompletion k (t.token k))
      else t) { t with karm := v }

/-- SEMARM (R240): reserved bits are not kept; the condition is tested at once. -/
def Tile.writeSemarm (t : Tile) (v : Word) : Tile := { t with semarm := BitVec.ofNat 64 (v.toNat % 2 ^ 39) }.testSemarm

/-- RANKDAT (R342): the selected entry takes a domain number, unless the write is excluded. -/
def State.writeRankdat (s : State) (v : Word) : State :=
  let part := s.here.part
  let sel := s.here.ranksel.toNat
  let job := field sel 11 0
  let rank := field sel 23 16
  let d := field v.toNat 7 0
  match (s.part part).rankTable job with
  | none => s
  | some r =>
    let taken := (upFrom 0 r.length).any (fun i => i != rank && nth 0 r i == d)
    let running := s.tiles.any (fun t => t.2.hasJob part job)
    if running || decide (r.length ≤ rank) || taken then s
    else
      s.mapPart part (fun p =>
        { p with config := { p.config with
            ranks := p.config.ranks.map (fun e => if e.1 = job then (e.1, setNth d e.2 rank) else e) } })

/-- XWIN (R56, R337): it only falls, and only in a sealed partition. -/
def State.writeXwin (s : State) (v : Word) : State :=
  s.mapPart s.here.part (fun p => if p.sealed_ ∧ v.toNat ≤ p.xwin.toNat then { p with xwin := v } else p)

/-- CTXDAT (R341). -/
def State.writeCtxdat (s : State) (v : Word) : State := s.mapHere (fun t => t.writeContext t.ctxsel.toNat v)

/-- A register of the S handler that runs. -/
def Tile.mapMonitor (t : Tile) (f : Handler → Handler) : Tile :=
  if t.level = .monitor then { t with monitor := f t.monitor } else t

/-- The low 16 bits of a page address ignored. -/
def pageAligned (v : Word) : Word := v &&& ~~~0xFFFF

/-- RES, the two bits of the event word that may be written (R230). -/
def putRes (w v : Word) : Word := (w &&& ~~~0xC00000) ||| (v &&& 0xC00000)

/-- A write that passed its checks takes effect (R336 to R342). -/
def State.writeSysreg (s : State) (n : Nat) (v : Word) : State :=
  let part := s.here.part
  if n = 0x008 then s.mapHere (fun t => t.mapMonitor (fun h => { h with word := putRes h.word v }))
  else if n = 0x00A then s.mapHere (fun t => t.mapMonitor (fun h => { h with epc := wordAligned v }))
  else if n = 0x010 then s.mapHere (fun t => t.writeKarm v)
  else if n = 0x011 then s.mapHere (fun t => t.writeSemarm v)
  else if n = 0x100 then s.mapPart part (fun p => { p with svec := wordAligned v })
  else if n = 0x102 then s.mapPart part (fun p => { p with root := pageAligned v })
  else if n = 0x103 then s.startInvalidation v
  else if n = 0x104 then s.writeXwin v
  else if n = 0x105 then s.writeJobctl v
  else if n = 0x106 then s.mapDie (dieOf s.cur) (fun d => { d with swapBase := pageAligned v })
  else if n = 0x107 then s.mapDie (dieOf s.cur) (fun d => { d with swapPages := v })
  else if n = 0x108 then s.mapHere (fun t => { t with frsel := v &&& 0xFFFF })
  else if n = 0x10A then s.mapHere (fun t => { t with ctxsel := v &&& 0xFFF8 })
  else if n = 0x10B then s.writeCtxdat v
  else if n = 0x10D then s.mapHere (fun t => { t with ranksel := v })
  else if n = 0x10E then s.writeRankdat v
  else s

end Sys2Proof.Machine
end

