-- ==== Sys2Proof/Machine/Control.lean ====
section
/-! DEFINITION. The operations of ctl (R325 to R342): jumps, calls and loops, prefetch, end, trap and return, waits, spawns,
posts and system registers. -/

namespace Sys2Proof.Machine

open Host (Outcome)

/-! ## Code targets -/

/-- The address that a target offset names (R317). -/
def State.codeAddress (s : State) (x : Word) : Word := BitVec.ofNat 64 s.codeSection.1 + x

/-- An illegal target's event (R317). -/
def targetCheck (s : State) (x : Word) : Bool × Event := (!s.legalTarget x, misaligned x)

/-- No frame record is left, once the calls and returns triggered before have taken effect (R211, R327). -/
def Tile.noFrame (t : Tile) : Bool := t.afterRedirects.frames.isEmpty && t.afterRedirects.spillMap.isEmpty

/-! ## Waiting (R156, R333) -/

def waitKind (a : Word) : Nat := field a.toNat 63 62
def waitWindow (a : Word) : Nat := field a.toNat 9 8
def waitSel (a : Word) : Nat := field a.toNat 5 0

/-- Reserved fields of a condition word, and fields that its KIND requires to be zero. -/
def waitReserved (a : Word) : Bool :=
  decide (field a.toNat 61 10 ≠ 0) || decide (field a.toNat 7 6 ≠ 0) || waitKind a == 3
    || (waitKind a != 1 && waitWindow a != 0) || (waitKind a == 1 && decide (16 ≤ waitSel a))

/-- What is kept of the newest command of a channel; none before its first. -/
def Tile.newestOf (t : Tile) (ch : Nat) : Option Newest := (mfind ch t.newest).bind (fun n => if n.id = 0 then none else some n)

/-- Masked bits of a channel's map that are clear. -/
def clearBits (n : Newest) (win : Nat) (mask : Word) : Bool := (mask &&& ~~~wordAt n.map.toNat (8 * win)) != 0

/-- Whether a condition is met. -/
def Tile.waitMet (t : Tile) (a b : Word) : Bool :=
  match waitKind a with
  | 0 => t.token (waitSel a) == .present
  | 1 => b == 0 || (match t.newestOf (waitSel a) with | some n => !clearBits n (waitWindow a) b | none => false)
  | _ => reached (t.sema (waitSel a)) (BitVec.setWidth 32 b)

/-- Whether a condition can no longer be met. -/
def Tile.waitFault (t : Tile) (a b : Word) : Option Word :=
  match waitKind a with
  | 0 =>
    if t.token (waitSel a) = .empty ∨ t.token (waitSel a) = .faulted then some (BitVec.ofNat 64 (waitSel a)) else none
  | 1 =>
    let bad := match t.newestOf (waitSel a) with
      | some n => n.ended && clearBits n (waitWindow a) b
      | none => true
    if b != 0 && bad then some (BitVec.ofNat 64 (2 ^ 8 * waitSel a + waitWindow a)) else none
  | _ => none

/-! ## Spawning (R85, R334) -/

/-- A vacant tile that no linked launch has reserved (R80, R81). -/
def State.idleTile (s : State) (n : Nat) : Bool :=
  s.vacant n && !(s.parts.any (fun p => (s.reservedTiles p.1).contains n))

/-- The tile that a selector names on a die: a position in its working order, or for 127 the first idle tile. -/
def State.spawnTarget (s : State) (die pos : Nat) : Option Nat :=
  let order := workingTiles s.health die
  if pos = 127 then order.find? s.idleTile
  else match order[pos]? with
    | some n => if s.idleTile n then some n else none
    | none => none

/-- The object a task runs: its launch's, or the monitor image for a monitor instance. -/
def State.taskObject (s : State) (k : Task) : CodeObject :=
  let p := s.part k.part
  match p.objects.find? (fun o => o.addr == k.object), (p.launch? k.launch).bind Launch.object with
  | some o, _ => o
  | none, some o => o
  | none, none =>
    { addr := p.mbase.toNat, size := 0, codeBase := p.mbase.toNat, codeLen := p.total, event := none, clusters := 0xFF, sections := [] }

/-- A spawned task starts on its tile at its entry, with s8 to s15 of its spawner (R334). -/
def State.beginSpawned (s : State) (n : Nat) (child : Task) (entry : Word) (window : List Word) : State :=
  (s.prepareTile n child (s.taskObject child) entry.toNat).mapTile n (fun t =>
    { t with sWindow := (upFrom 0 8).foldl (fun m j => mset 0 m j (nth 0 window j)) [] })

/-- A tile is claimed for a spawned task, which starts at once or as soon as the lines of other modules that this needs have come. -/
def State.startSpawned (s0 : State) (k : Task) (n : Nat) (entry : Word) (window : List Word) : State :=
  let s := s0.forget (.task n)
  let child : Task := { k with work := .spawned s.cur, stub := none }
  match s.attempt (.task n) (fun s => s.beginSpawned n child entry window) with
  | .made t => t
  | a => (a.state s).mapTile n (fun t => { t.emptied with phase := .spawning entry window, task := some child })

/-! ## The operations -/

/-- A redirect to the target after two delay bundles (R191, R325). -/
def opCtlJmp : Operation :=
  { check := fun tr s => eventsOf [targetCheck s tr.word]
    act := fun tr s => redirect tr (s.codeAddress tr.word) .jump s }

/-- The one-move bundle of CTL_JMP. -/
def execCtlJmp (m : Move) (s : State) : Outcome State Fault Refusal := issueOne "CTL_JMP" (.ctlJmp m) m opCtlJmp s
/-- A redirect that creates a frame record of F registers; the record holds the section's base until the link is known (R211, R326). -/
def opCtlCall : Operation :=
  { check := fun tr s =>
      let f := (s.here.port 0x111).toNat
      eventsOf
        [(decide (24 < f), illegalOp 6), targetCheck s tr.word, (s.here.inHandler, illegalOp 8),
         (decide (f ≤ 24) && s.here.spillFull f, { code := .spillMapFull, info := BitVec.ofNat 64 f })]
    act := fun tr s =>
      redirect tr (s.codeAddress tr.word) (.call (s.here.port 0x111).toNat (BitVec.ofNat 64 s.codeSection.1)) s }

/-- The one-move bundle of CTL_CALL. -/
def execCtlCall (m : Move) (s : State) : Outcome State Fault Refusal := issueOne "CTL_CALL" (.ctlCall m) m opCtlCall s
/-- A redirect that removes the newest frame record (R211, R327). -/
def opCtlRet : Operation :=
  { check := fun tr s =>
      eventsOf [(s.here.noFrame, illegalOp 6), targetCheck s tr.word, (s.here.inHandler, illegalOp 8)]
    act := fun tr s => redirect tr (s.codeAddress tr.word) .ret s }

/-- The one-move bundle of CTL_RET. -/
def execCtlRet (m : Move) (s : State) : Outcome State Fault Refusal := issueOne "CTL_RET" (.ctlRet m) m opCtlRet s
/-- The count falls by one and redirects while it stays above zero (R328). -/
def opCtlLoop : Operation :=
  { check := fun tr s => eventsOf [(decide (1 < (s.here.port 0x111).toNat) && (targetCheck s tr.word).1, misaligned tr.word)]
    act := fun tr s =>
      let b := s.here.port 0x111
      if b = 0 then s
      else
        let s1 := s.mapHere (fun t => t.setPort 0x111 (b - 1))
        if b = 1 then s1 else redirect tr (s.codeAddress tr.word) .jump s1 }

/-- The one-move bundle of CTL_LOOP. -/
def execCtlLoop (m : Move) (s : State) : Outcome State Fault Refusal := issueOne "CTL_LOOP" (.ctlLoop m) m opCtlLoop s
/-- Fills start of the line that holds the code offset and of the line after it (R193, R329). -/
def opCtlPref : Operation :=
  { act := fun tr s =>
      let off := tr.word.toNat / 4 * 4
      let line := (s.codeSection.1 + off) / 256
      if s.codeSection.2 ≤ off then s
      else
        s.mapHere (fun t =>
          let want := [line, line + 1].filter (fun l => (t.codeLine t.part l).isNone && !t.fills.any (fun f => f.1 == l))
          { t with fills := t.fills ++ want.map (fun l => (l, true)) }) }

/-- The one-move bundle of CTL_PREF. -/
def execCtlPref (m : Move) (s : State) : Outcome State Fault Refusal := issueOne "CTL_PREF" (.ctlPref m) m opCtlPref s
/-- The task ends with this bundle (R330). -/
def opCtlEnd : Operation :=
  { check := fun _ s => eventsOf [(s.here.inHandler, illegalOp 8)]
    after := fun _ => .finish }

/-- The one-move bundle of CTL_END. -/
def execCtlEnd (m : Move) (s : State) : Outcome State Fault Refusal := issueOne "CTL_END" (.ctlEnd m) m opCtlEnd s
/-- TRAP after the bundle, with INFO a (R331). -/
def opCtlTrap : Operation := { after := fun tr => .trap tr.word tr.bus }

/-- The one-move bundle of CTL_TRAP. -/
def execCtlTrap (m : Move) (s : State) : Outcome State Fault Refusal := issueOne "CTL_TRAP" (.ctlTrap m) m opCtlTrap s
/-- Return from the running handler (R332). -/
def opCtlRfe : Operation :=
  { check := fun _ s => eventsOf [(!s.here.inHandler, illegalOp 8)]
    after := fun _ => .rfe }

/-- The one-move bundle of CTL_RFE. -/
def execCtlRfe (m : Move) (s : State) : Outcome State Fault Refusal := issueOne "CTL_RFE" (.ctlRfe m) m opCtlRfe s
/-- The bundle issues once the condition is met (R156, R333). -/
def opCtlWait : Operation :=
  { check := fun tr s => eventsOf [(waitReserved tr.word, illegalOp 1), (s.here.inHandler, illegalOp 8)]
    fault := fun tr s =>
      (s.here.waitFault tr.word (s.here.port 0x111)).map (fun i => { code := .tokenFault, info := i, bus := tr.bus })
    hold := fun tr s =>
      if s.here.waitMet tr.word (s.here.port 0x111) then [] else [{ row := 6, timeout := s.here.port 0x112, bus := tr.bus }] }

/-- The one-move bundle of CTL_WAIT. -/
def execCtlWait (m : Move) (s : State) : Outcome State Fault Refusal := issueOne "CTL_WAIT" (.ctlWait m) m opCtlWait s
/-- Claims a tile of the die and starts a spawned task on it (R85, R334). -/
def opCtlSpawn : Operation :=
  { check := fun tr s =>
      let b := s.here.port 0x111
      let pos := field b.toNat 6 0
      eventsOf
        [(decide (128 ≤ b.toNat), illegalOp 1), targetCheck s tr.word,
         ((s.spawnTarget (dieOf s.cur) pos).isNone, { code := .spawnTargetBusy, info := BitVec.ofNat 64 pos }),
         (s.here.inHandler, illegalOp 8)]
    act := fun tr s =>
      match s.spawnTarget (dieOf s.cur) (field (s.here.port 0x111).toNat 6 0), s.here.task with
      | some n, some k => s.startSpawned k n tr.word tr.window
      | _, _ => s }

/-- The one-move bundle of CTL_SPAWN. -/
def execCtlSpawn (m : Move) (s : State) : Outcome State Fault Refusal :=
  issueOne "CTL_SPAWN" (.ctlSpawn m) m opCtlSpawn s
/-- Posts a launch record after the accesses issued before it have performed (R75, R186, R335). -/
def opCtlPost : Operation :=
  { check := fun tr _ =>
      firstEvent [(decide (tr.word.toNat % 128 ≠ 0), misaligned tr.word), (decide (2 ^ 55 ≤ tr.word.toNat), copyFaultEvent 1 tr.word)]
    act := fun tr s =>
      let t := s.here
      let p : Posting := { addr := tr.word.toNat, kiln := t.kiln.length, rputs := t.rputs.length, sends := t.sends.length }
      if s.silent then s else (s.mapHere (fun t => { t with postings := t.postings ++ [p] })).duePosts s.cur (t.postings.length + 1) }

/-- The one-move bundle of CTL_POST. -/
def execCtlPost (m : Move) (s : State) : Outcome State Fault Refusal := issueOne "CTL_POST" (.ctlPost m) m opCtlPost s
/-- Reads a system register, which arrives at +2 (R336, R348). -/
def opCtlRsr : Operation :=
  { check := fun tr s => readChecks s.here.isS (field tr.word.toNat 11 0)
    act := fun tr s =>
      let n := field tr.word.toNat 11 0
      let hide := s.here.deterministic && hiddenRegister n
      let s1 := sendResult tr 2 0x104 (if hide then 0 else s.readSysreg n) (if hide then s.markRead else s)
      if n = 0x109 ∨ n = 0x10B then { s1 with fresh := s1.fresh + 32 } else s1 }

/-- The one-move bundle of CTL_RSR. -/
def execCtlRsr (m : Move) (s : State) : Outcome State Fault Refusal := issueOne "CTL_RSR" (.ctlRsr m) m opCtlRsr s
/-- Writes a system register from the next issue cycle on (R336). -/
def opCtlWsr : Operation :=
  { check := fun tr s => writeChecks s.here.isS (field tr.word.toNat 11 0) (s.here.port 0x111)
    late := fun tr s => s.writeSysreg (field tr.word.toNat 11 0) (s.here.port 0x111) }

/-- The one-move bundle of CTL_WSR. -/
def execCtlWsr (m : Move) (s : State) : Outcome State Fault Refusal := issueOne "CTL_WSR" (.ctlWsr m) m opCtlWsr s
end Sys2Proof.Machine
end

