-- ==== Sys2Proof/Machine/VectorInt.lean ====
section
/-! DEFINITION. The vector integer and bit operations of va (R350, R352 to R354). -/

namespace Sys2Proof.Machine

open Host (Outcome)

/-- A va operation on a, b and c, in each cluster it reaches (R352). -/
def vectorOp (latency : Nat) (f : Vec → Vec → Vec → Vec) : Operation where
  act tr s :=
    tr.each (fun c _ lanes s =>
      sendVector tr c latency 0x100 lanes
        (f (s.here.vport c 0x100) (s.here.vport c 0x101) (s.here.vport c 0x102)) s) s

/-- A function of the elements of width w at one index (R350). -/
def byElement (w : Nat) (f : Nat → Nat → Nat) (a b : Vec) : Vec :=
  BitVec.ofNat 512 (ofElems w ((upFrom 0 (512 / w)).map (fun e => f (elem w a e) (elem w b e))))

/-- All ones or zero in an element (R352). -/
def elementFlag (w : Nat) (c : Bool) : Nat := if c then 2 ^ w - 1 else 0

/-- The sixteen lanes of a vector. -/
def lanesOf (a : Vec) : List Lane := (upFrom 0 16).map (lane a)

/-- A function of the lanes at one index. -/
def byLane (f : Lane → Lane → Lane) (a b : Vec) : Vec := ofLanes (List.zipWith f (lanesOf a) (lanesOf b))

/-- The low 32 bits of a carry-less product (R353). -/
def carryless (a b : Lane) : Lane :=
  (upFrom 0 32).foldl (fun z i => if b.getLsbD i then z ^^^ (a <<< i) else z) 0

/-- The running totals of a list from a start. -/
def running (f : Lane → Lane → Lane) (acc : Lane) : List Lane → List Lane
  | [] => []
  | x :: xs => f acc x :: running f (f acc x) xs

/-- A prefix operation across the lanes (R353). -/
def scanLanes (f : Lane → Lane → Lane) (a : Vec) : Vec := ofLanes (running f 0 (lanesOf a))

/-- Byte permute: bit 7 of a selector gives zero, bit 6 is ignored (R353). -/
def permuteBytes (a b : Vec) : Vec :=
  BitVec.ofNat 512 (ofElems 8 ((upFrom 0 64).map (fun j =>
    if bit (elem 8 b j) 7 then 0 else elem 8 a (elem 8 b j % 64))))

/-- A reduction's 64-bit value in lanes 0 and 1, zero above (R354). -/
def reduced (r : Nat) : Vec := BitVec.ofNat 512 (r % 2 ^ 64)

/-- The largest signed lane of a list; zero of none. -/
def largestLane : List Lane → Lane
  | [] => 0
  | x :: [] => x
  | x :: y :: ys => let m := largestLane (y :: ys); if m.slt x then x else m

/-- Sums of 8-bit elements (R352). -/
def opVaAddb : Operation := vectorOp 1 (fun a b _ => byElement 8 (fun x y => x + y) a b)

/-- The one-move bundle of VA_ADDB. -/
def execVaAddb (m : Move) (s : State) : Outcome State Fault Refusal := issueOne "VA_ADDB" (.vaAddb m) m opVaAddb s
/-- Sums of 16-bit elements (R352). -/
def opVaAddh : Operation := vectorOp 1 (fun a b _ => byElement 16 (fun x y => x + y) a b)

/-- The one-move bundle of VA_ADDH. -/
def execVaAddh (m : Move) (s : State) : Outcome State Fault Refusal := issueOne "VA_ADDH" (.vaAddh m) m opVaAddh s
/-- Sums of 32-bit elements (R352). -/
def opVaAddw : Operation := vectorOp 1 (fun a b _ => byElement 32 (fun x y => x + y) a b)

/-- The one-move bundle of VA_ADDW. -/
def execVaAddw (m : Move) (s : State) : Outcome State Fault Refusal := issueOne "VA_ADDW" (.vaAddw m) m opVaAddw s
/-- Differences of 8-bit elements (R352). -/
def opVaSubb : Operation := vectorOp 1 (fun a b _ => byElement 8 (fun x y => 2 ^ 8 + x - y) a b)

/-- The one-move bundle of VA_SUBB. -/
def execVaSubb (m : Move) (s : State) : Outcome State Fault Refusal := issueOne "VA_SUBB" (.vaSubb m) m opVaSubb s
/-- Differences of 16-bit elements (R352). -/
def opVaSubh : Operation := vectorOp 1 (fun a b _ => byElement 16 (fun x y => 2 ^ 16 + x - y) a b)

/-- The one-move bundle of VA_SUBH. -/
def execVaSubh (m : Move) (s : State) : Outcome State Fault Refusal := issueOne "VA_SUBH" (.vaSubh m) m opVaSubh s
/-- Differences of 32-bit elements (R352). -/
def opVaSubw : Operation := vectorOp 1 (fun a b _ => byElement 32 (fun x y => 2 ^ 32 + x - y) a b)

/-- The one-move bundle of VA_SUBW. -/
def execVaSubw (m : Move) (s : State) : Outcome State Fault Refusal := issueOne "VA_SUBW" (.vaSubw m) m opVaSubw s
/-- The smaller of signed 8-bit elements (R352). -/
def opVaMinb : Operation :=
  vectorOp 1 (fun a b _ => byElement 8 (fun x y => if signed 8 x < signed 8 y then x else y) a b)

/-- The one-move bundle of VA_MINB. -/
def execVaMinb (m : Move) (s : State) : Outcome State Fault Refusal := issueOne "VA_MINB" (.vaMinb m) m opVaMinb s
/-- The smaller of signed 16-bit elements (R352). -/
def opVaMinh : Operation :=
  vectorOp 1 (fun a b _ => byElement 16 (fun x y => if signed 16 x < signed 16 y then x else y) a b)

/-- The one-move bundle of VA_MINH. -/
def execVaMinh (m : Move) (s : State) : Outcome State Fault Refusal := issueOne "VA_MINH" (.vaMinh m) m opVaMinh s
/-- The smaller of signed 32-bit elements (R352). -/
def opVaMinw : Operation :=
  vectorOp 1 (fun a b _ => byElement 32 (fun x y => if signed 32 x < signed 32 y then x else y) a b)

/-- The one-move bundle of VA_MINW. -/
def execVaMinw (m : Move) (s : State) : Outcome State Fault Refusal := issueOne "VA_MINW" (.vaMinw m) m opVaMinw s
/-- The larger of signed 8-bit elements (R352). -/
def opVaMaxb : Operation :=
  vectorOp 1 (fun a b _ => byElement 8 (fun x y => if signed 8 x < signed 8 y then y else x) a b)

/-- The one-move bundle of VA_MAXB. -/
def execVaMaxb (m : Move) (s : State) : Outcome State Fault Refusal := issueOne "VA_MAXB" (.vaMaxb m) m opVaMaxb s
/-- The larger of signed 16-bit elements (R352). -/
def opVaMaxh : Operation :=
  vectorOp 1 (fun a b _ => byElement 16 (fun x y => if signed 16 x < signed 16 y then y else x) a b)

/-- The one-move bundle of VA_MAXH. -/
def execVaMaxh (m : Move) (s : State) : Outcome State Fault Refusal := issueOne "VA_MAXH" (.vaMaxh m) m opVaMaxh s
/-- The larger of signed 32-bit elements (R352). -/
def opVaMaxw : Operation :=
  vectorOp 1 (fun a b _ => byElement 32 (fun x y => if signed 32 x < signed 32 y then y else x) a b)

/-- The one-move bundle of VA_MAXW. -/
def execVaMaxw (m : Move) (s : State) : Outcome State Fault Refusal := issueOne "VA_MAXW" (.vaMaxw m) m opVaMaxw s
/-- Equality of 8-bit elements (R352). -/
def opVaCeqb : Operation := vectorOp 1 (fun a b _ => byElement 8 (fun x y => elementFlag 8 (x == y)) a b)

/-- The one-move bundle of VA_CEQB. -/
def execVaCeqb (m : Move) (s : State) : Outcome State Fault Refusal := issueOne "VA_CEQB" (.vaCeqb m) m opVaCeqb s
/-- Equality of 16-bit elements (R352). -/
def opVaCeqh : Operation := vectorOp 1 (fun a b _ => byElement 16 (fun x y => elementFlag 16 (x == y)) a b)

/-- The one-move bundle of VA_CEQH. -/
def execVaCeqh (m : Move) (s : State) : Outcome State Fault Refusal := issueOne "VA_CEQH" (.vaCeqh m) m opVaCeqh s
/-- Equality of 32-bit elements (R352). -/
def opVaCeqw : Operation := vectorOp 1 (fun a b _ => byElement 32 (fun x y => elementFlag 32 (x == y)) a b)

/-- The one-move bundle of VA_CEQW. -/
def execVaCeqw (m : Move) (s : State) : Outcome State Fault Refusal := issueOne "VA_CEQW" (.vaCeqw m) m opVaCeqw s
/-- Signed order of 8-bit elements (R352). -/
def opVaCltb : Operation :=
  vectorOp 1 (fun a b _ => byElement 8 (fun x y => elementFlag 8 (decide (signed 8 x < signed 8 y))) a b)

/-- The one-move bundle of VA_CLTB. -/
def execVaCltb (m : Move) (s : State) : Outcome State Fault Refusal := issueOne "VA_CLTB" (.vaCltb m) m opVaCltb s
/-- Signed order of 16-bit elements (R352). -/
def opVaClth : Operation :=
  vectorOp 1 (fun a b _ => byElement 16 (fun x y => elementFlag 16 (decide (signed 16 x < signed 16 y))) a b)

/-- The one-move bundle of VA_CLTH. -/
def execVaClth (m : Move) (s : State) : Outcome State Fault Refusal := issueOne "VA_CLTH" (.vaClth m) m opVaClth s
/-- Signed order of 32-bit elements (R352). -/
def opVaCltw : Operation :=
  vectorOp 1 (fun a b _ => byElement 32 (fun x y => elementFlag 32 (decide (signed 32 x < signed 32 y))) a b)

/-- The one-move bundle of VA_CLTW. -/
def execVaCltw (m : Move) (s : State) : Outcome State Fault Refusal := issueOne "VA_CLTW" (.vaCltw m) m opVaCltw s
/-- a and b (R352). -/
def opVaAnd : Operation := vectorOp 1 (fun a b _ => a &&& b)

/-- The one-move bundle of VA_AND. -/
def execVaAnd (m : Move) (s : State) : Outcome State Fault Refusal := issueOne "VA_AND" (.vaAnd m) m opVaAnd s
/-- a or b (R352). -/
def opVaOr : Operation := vectorOp 1 (fun a b _ => a ||| b)

/-- The one-move bundle of VA_OR. -/
def execVaOr (m : Move) (s : State) : Outcome State Fault Refusal := issueOne "VA_OR" (.vaOr m) m opVaOr s
/-- a xor b (R352). -/
def opVaXor : Operation := vectorOp 1 (fun a b _ => a ^^^ b)

/-- The one-move bundle of VA_XOR. -/
def execVaXor (m : Move) (s : State) : Outcome State Fault Refusal := issueOne "VA_XOR" (.vaXor m) m opVaXor s
/-- a and not b (R352). -/
def opVaAndn : Operation := vectorOp 1 (fun a b _ => a &&& ~~~b)

/-- The one-move bundle of VA_ANDN. -/
def execVaAndn (m : Move) (s : State) : Outcome State Fault Refusal := issueOne "VA_ANDN" (.vaAndn m) m opVaAndn s
/-- Each lane shifted left by b[4:0] (R352). -/
def opVaSllw : Operation := vectorOp 1 (fun a b _ => byLane (fun x y => x <<< field y.toNat 4 0) a b)

/-- The one-move bundle of VA_SLLW. -/
def execVaSllw (m : Move) (s : State) : Outcome State Fault Refusal := issueOne "VA_SLLW" (.vaSllw m) m opVaSllw s
/-- Each lane shifted right by b[4:0] (R352). -/
def opVaSrlw : Operation := vectorOp 1 (fun a b _ => byLane (fun x y => x >>> field y.toNat 4 0) a b)

/-- The one-move bundle of VA_SRLW. -/
def execVaSrlw (m : Move) (s : State) : Outcome State Fault Refusal := issueOne "VA_SRLW" (.vaSrlw m) m opVaSrlw s
/-- Each lane shifted right arithmetically by b[4:0] (R352). -/
def opVaSraw : Operation := vectorOp 1 (fun a b _ => byLane (fun x y => x.sshiftRight (field y.toNat 4 0)) a b)

/-- The one-move bundle of VA_SRAW. -/
def execVaSraw (m : Move) (s : State) : Outcome State Fault Refusal := issueOne "VA_SRAW" (.vaSraw m) m opVaSraw s
/-- Bitwise choice under c (R352). -/
def opVaSel : Operation := vectorOp 1 (fun a b c => (c &&& a) ||| (~~~c &&& b))

/-- The one-move bundle of VA_SEL. -/
def execVaSel (m : Move) (s : State) : Outcome State Fault Refusal := issueOne "VA_SEL" (.vaSel m) m opVaSel s
/-- Carry-less products of the lanes (R353). -/
def opVaClmul : Operation := vectorOp 3 (fun a b _ => byLane carryless a b)

/-- The one-move bundle of VA_CLMUL. -/
def execVaClmul (m : Move) (s : State) : Outcome State Fault Refusal := issueOne "VA_CLMUL" (.vaClmul m) m opVaClmul s
/-- Prefix exclusive or of the lanes (R353). -/
def opVaXscan : Operation := vectorOp 3 (fun a _ _ => scanLanes (fun x y => x ^^^ y) a)

/-- The one-move bundle of VA_XSCAN. -/
def execVaXscan (m : Move) (s : State) : Outcome State Fault Refusal := issueOne "VA_XSCAN" (.vaXscan m) m opVaXscan s
/-- Prefix sums of the lanes (R353). -/
def opVaAscan : Operation := vectorOp 3 (fun a _ _ => scanLanes (fun x y => x + y) a)

/-- The one-move bundle of VA_ASCAN. -/
def execVaAscan (m : Move) (s : State) : Outcome State Fault Refusal := issueOne "VA_ASCAN" (.vaAscan m) m opVaAscan s
/-- Bytes of a chosen by the bytes of b (R353). -/
def opVaPerm : Operation := vectorOp 2 (fun a b _ => permuteBytes a b)

/-- The one-move bundle of VA_PERM. -/
def execVaPerm (m : Move) (s : State) : Outcome State Fault Refusal := issueOne "VA_PERM" (.vaPerm m) m opVaPerm s
/-- The exact sum of the signed lanes (R354). -/
def opVaRsum : Operation := vectorOp 4 (fun a _ _ => reduced (wrap 64 ((lanesOf a).map BitVec.toInt).sum))

/-- The one-move bundle of VA_RSUM. -/
def execVaRsum (m : Move) (s : State) : Outcome State Fault Refusal := issueOne "VA_RSUM" (.vaRsum m) m opVaRsum s
/-- The exclusive or of the lanes (R354). -/
def opVaRxor : Operation := vectorOp 4 (fun a _ _ => reduced ((lanesOf a).foldl (fun x y => x ^^^ y) 0).toNat)

/-- The one-move bundle of VA_RXOR. -/
def execVaRxor (m : Move) (s : State) : Outcome State Fault Refusal := issueOne "VA_RXOR" (.vaRxor m) m opVaRxor s
/-- The largest signed lane (R354). -/
def opVaRmax : Operation := vectorOp 4 (fun a _ _ => reduced (wrap 64 (largestLane (lanesOf a)).toInt))

/-- The one-move bundle of VA_RMAX. -/
def execVaRmax (m : Move) (s : State) : Outcome State Fault Refusal := issueOne "VA_RMAX" (.vaRmax m) m opVaRmax s
/-- Whether some lane is not zero (R354). -/
def opVaRany : Operation := vectorOp 4 (fun a _ _ => reduced (if (lanesOf a).any (fun x => x != 0) then 1 else 0))

/-- The one-move bundle of VA_RANY. -/
def execVaRany (m : Move) (s : State) : Outcome State Fault Refusal := issueOne "VA_RANY" (.vaRany m) m opVaRany s
end Sys2Proof.Machine
end

