-- ==== Sys2Proof/Machine/PositUnit.lean ====
section
/-! DEFINITION. The format word and the posit arithmetic of vp (R307, R355, R356). -/

namespace Sys2Proof.Machine

open Host (Outcome)

/-- The format word of a cluster: lane 0 of vc.b (R307). -/
def formatWord (t : Tile) (c : Nat) : Lane := lane (t.vport c 0x10D) 0

/-- Cause 1 for the reserved bits of the format word or a condition on its fields, in each cluster reached (R307). -/
def formatChecks (bad : Lane → Bool) (tr : Trigger) (s : State) : List Event :=
  tr.checks (fun c _ _ =>
    let w := formatWord s.here c
    eventsOf [(decide (field w.toNat 31 26 ≠ 0) || bad w, illegalOp 1)])

/-- A vp operation: element by element in format PF, a function of the format and the three encodings (R355). -/
def positOp (latency : Nat) (g : Nat → Nat → Nat → Nat → Nat) : Operation where
  check := formatChecks (fun w => !fmtValid (fmtField w 0))
  act tr s :=
    tr.each (fun c _ lanes s =>
      let t := s.here
      let f := fmtField (formatWord t c) 0
      let w := fmtWidth f
      let at_ (p e : Nat) := elem w (t.vport c p) e
      sendVector tr c latency 0x101 lanes
        (BitVec.ofNat 512 (ofElems w ((upFrom 0 (512 / w)).map (fun e => g f (at_ 0x104 e) (at_ 0x105 e) (at_ 0x106 e))))) s) s

/-- An exact function of the decoded operands, rounded once (R255, R355). -/
def rounded (h : Value → Value → Value → Value) (f x y z : Nat) : Nat :=
  roundPosit (h (decodePosit x f) (decodePosit y f) (decodePosit z f)) f

/-- round(A + B) (R355). -/
def opVpPadd : Operation := positOp 3 (rounded (fun a b _ => vadd a b))

/-- The one-move bundle of VP_PADD. -/
def execVpPadd (m : Move) (s : State) : Outcome State Fault Refusal := issueOne "VP_PADD" (.vpPadd m) m opVpPadd s
/-- round(A − B) (R355). -/
def opVpPsub : Operation := positOp 3 (rounded (fun a b _ => vadd a (vneg b)))

/-- The one-move bundle of VP_PSUB. -/
def execVpPsub (m : Move) (s : State) : Outcome State Fault Refusal := issueOne "VP_PSUB" (.vpPsub m) m opVpPsub s
/-- round(A × B) (R355). -/
def opVpPmul : Operation := positOp 5 (rounded (fun a b _ => vmul a b))

/-- The one-move bundle of VP_PMUL. -/
def execVpPmul (m : Move) (s : State) : Outcome State Fault Refusal := issueOne "VP_PMUL" (.vpPmul m) m opVpPmul s
/-- round(A × B + C) (R355). -/
def opVpPfma : Operation := positOp 7 (rounded (fun a b c => vadd (vmul a b) c))

/-- The one-move bundle of VP_PFMA. -/
def execVpPfma (m : Move) (s : State) : Outcome State Fault Refusal := issueOne "VP_PFMA" (.vpPfma m) m opVpPfma s
/-- round(A × B − C) (R355). -/
def opVpPfms : Operation := positOp 7 (rounded (fun a b c => vadd (vmul a b) (vneg c)))

/-- The one-move bundle of VP_PFMS. -/
def execVpPfms (m : Move) (s : State) : Outcome State Fault Refusal := issueOne "VP_PFMS" (.vpPfms m) m opVpPfms s
/-- The lower in the order of R257 (R355, R356). -/
def opVpPmin : Operation := positOp 1 (fun f x y _ => if positLt (fmtWidth f) y x then y else x)

/-- The one-move bundle of VP_PMIN. -/
def execVpPmin (m : Move) (s : State) : Outcome State Fault Refusal := issueOne "VP_PMIN" (.vpPmin m) m opVpPmin s
/-- The higher in the order of R257 (R355, R356). -/
def opVpPmax : Operation := positOp 1 (fun f x y _ => if positLt (fmtWidth f) x y then y else x)

/-- The one-move bundle of VP_PMAX. -/
def execVpPmax (m : Move) (s : State) : Outcome State Fault Refusal := issueOne "VP_PMAX" (.vpPmax m) m opVpPmax s
/-- The absolute value; NaR stays (R355). -/
def opVpPabs : Operation := positOp 1 (fun f x _ _ => positAbs (fmtWidth f) x)

/-- The one-move bundle of VP_PABS. -/
def execVpPabs (m : Move) (s : State) : Outcome State Fault Refusal := issueOne "VP_PABS" (.vpPabs m) m opVpPabs s
/-- The negation; 0 and NaR stay (R355). -/
def opVpPneg : Operation := positOp 1 (fun f x _ _ => positNeg (fmtWidth f) x)

/-- The one-move bundle of VP_PNEG. -/
def execVpPneg (m : Move) (s : State) : Outcome State Fault Refusal := issueOne "VP_PNEG" (.vpPneg m) m opVpPneg s
/-- Equality of encodings (R355). -/
def opVpPceq : Operation := positOp 2 (fun f x y _ => elementFlag (fmtWidth f) (x == y))

/-- The one-move bundle of VP_PCEQ. -/
def execVpPceq (m : Move) (s : State) : Outcome State Fault Refusal := issueOne "VP_PCEQ" (.vpPceq m) m opVpPceq s
/-- Order of R257 (R355). -/
def opVpPclt : Operation := positOp 2 (fun f x y _ => elementFlag (fmtWidth f) (positLt (fmtWidth f) x y))

/-- The one-move bundle of VP_PCLT. -/
def execVpPclt (m : Move) (s : State) : Outcome State Fault Refusal := issueOne "VP_PCLT" (.vpPclt m) m opVpPclt s
/-- Order of R257 or equality (R355). -/
def opVpPcle : Operation := positOp 2 (fun f x y _ => elementFlag (fmtWidth f) (!positLt (fmtWidth f) y x))

/-- The one-move bundle of VP_PCLE. -/
def execVpPcle (m : Move) (s : State) : Outcome State Fault Refusal := issueOne "VP_PCLE" (.vpPcle m) m opVpPcle s
end Sys2Proof.Machine
end

