-- ==== Sys2Proof/Machine/Convert.lean ====
section
/-! DEFINITION. Conversion and quantisation by vc, with the scale latch (R206, R266 to R270, R362 to R364). -/

namespace Sys2Proof.Machine

open Host (Outcome)

/-- The fields of the format word that vc reads: CS, CD, CSK and CDK (R307). -/
def sourceCode (w : Lane) : Nat := fmtField w 4
def targetCode (w : Lane) : Nat := fmtField w 5
def sourceIsType (w : Lane) : Bool := w.getLsbD 24
def targetIsType (w : Lane) : Bool := w.getLsbD 25

/-- A conversion type that vc accepts: no reserved code and none of 64 bits (R363). -/
def typeAccepted (t : Nat) : Bool := decide (t < 11) && decide (typeWidth t ≤ 32)

/-- An integer type of 8 to 32 bits (R363). -/
def intAccepted (t : Nat) : Bool := typeAccepted t && typeIsInt t

def sourcePosit (w : Lane) : Bool := !sourceIsType w && fmtValid (sourceCode w)
def targetPosit (w : Lane) : Bool := !targetIsType w && fmtValid (targetCode w)

/-- A target of max-scale and quantise: posit, or an integer type of 8 to 32 bits (R363). -/
def targetScaled (w : Lane) : Bool := if targetIsType w then intAccepted (targetCode w) else fmtValid (targetCode w)

/-- The widths of source and destination elements (R362). -/
def sourceWidth (w : Lane) : Nat := if sourceIsType w then typeWidth (sourceCode w) else fmtWidth (sourceCode w)
def targetWidth (w : Lane) : Nat := if targetIsType w then typeWidth (targetCode w) else fmtWidth (targetCode w)

/-- The quantisation target (R269). -/
def scaleTarget (w : Lane) : Target := if targetIsType w then .int (targetCode w) else .posit (targetCode w)

/-- The element mapping of R362; `upper` is an h form. -/
def mapElements (ws wd : Nat) (upper : Bool) (conv : Nat → Nat) (v : Vec) : Vec :=
  let base := if upper && decide (ws < wd) then 256 / ws else 0
  BitVec.ofNat 512 (ofElems wd ((upFrom 0 (512 / max ws wd)).map (fun e => conv (elem ws v (base + e)))))

/-- A conversion of vc: the combinations it accepts and what it makes of an element, given the format word and the scale
latch (R362, R363). -/
def convertOp (upper : Bool) (ok : Lane → Bool) (conv : Lane → Int → Nat → Nat) : Operation where
  check := formatChecks (fun w => !ok w)
  act tr s :=
    tr.each (fun c _ lanes s =>
      let t := s.here
      let w := formatWord t c
      sendVector tr c 3 0x103 lanes
        (mapElements (sourceWidth w) (targetWidth w) upper (conv w (t.cluster c).scale.toInt) (t.vport c 0x10C)) s) s

/-- Posit to posit; equal codes pass the bits unchanged (R363). -/
def convertPosit (w : Lane) (_ : Int) (x : Nat) : Nat :=
  if sourceCode w = targetCode w then x else roundPosit (decodePosit x (sourceCode w)) (targetCode w)

/-- Integer or IEEE value to posit (R267). -/
def convertIn (w : Lane) (_ : Int) (x : Nat) : Nat := roundPosit (decodeType x (sourceCode w)) (targetCode w)

/-- The scale that max-scale finds in the lanes that are on (R269, R364). -/
def scaleOf (w : Lane) (lanes : BitVec 16) (a : Vec) : Int :=
  let vs := ((upFrom 0 16).filter (fun l => lanes.getLsbD l)).flatMap (laneValues (sourceCode w) a)
  maxscale vs (scaleTarget w)

/-- Posit to posit, low elements (R363). -/
def opVcCvt : Operation := convertOp false (fun w => sourcePosit w && targetPosit w) convertPosit

/-- The one-move bundle of VC_CVT. -/
def execVcCvt (m : Move) (s : State) : Outcome State Fault Refusal := issueOne "VC_CVT" (.vcCvt m) m opVcCvt s
/-- Posit to posit, upper elements (R363). -/
def opVcCvth : Operation := convertOp true (fun w => sourcePosit w && targetPosit w) convertPosit

/-- The one-move bundle of VC_CVTH. -/
def execVcCvth (m : Move) (s : State) : Outcome State Fault Refusal := issueOne "VC_CVTH" (.vcCvth m) m opVcCvth s
/-- Integer or IEEE value to posit, low elements (R363). -/
def opVcCvi : Operation :=
  convertOp false (fun w => sourceIsType w && typeAccepted (sourceCode w) && targetPosit w) convertIn

/-- The one-move bundle of VC_CVI. -/
def execVcCvi (m : Move) (s : State) : Outcome State Fault Refusal := issueOne "VC_CVI" (.vcCvi m) m opVcCvi s
/-- Integer or IEEE value to posit, upper elements (R363). -/
def opVcCvih : Operation :=
  convertOp true (fun w => sourceIsType w && typeAccepted (sourceCode w) && targetPosit w) convertIn

/-- The one-move bundle of VC_CVIH. -/
def execVcCvih (m : Move) (s : State) : Outcome State Fault Refusal := issueOne "VC_CVIH" (.vcCvih m) m opVcCvih s
/-- Posit to an integer or IEEE type (R268, R363). -/
def opVcCvo : Operation :=
  convertOp false (fun w => sourcePosit w && targetIsType w && typeAccepted (targetCode w))
    (fun w _ x => toType (decodePosit x (sourceCode w)) (targetCode w))

/-- The one-move bundle of VC_CVO. -/
def execVcCvo (m : Move) (s : State) : Outcome State Fault Refusal := issueOne "VC_CVO" (.vcCvo m) m opVcCvo s
/-- Max-scale: the scale latch takes σ at +3 (R206, R364). -/
def opVcMxsc : Operation :=
  { check := formatChecks (fun w => !(sourcePosit w && targetScaled w))
    act := fun tr s =>
      tr.each (fun c _ lanes s =>
        let w := formatWord s.here c
        let v := BitVec.ofInt 16 (scaleOf w lanes (s.here.vport c 0x10C))
        if lanes = 0 then s
        else s.mapHere (fun t => t.launchFlight { tr.flight 3 none (.scale v) with clus := c })) s }

/-- The one-move bundle of VC_MXSC. -/
def execVcMxsc (m : Move) (s : State) : Outcome State Fault Refusal := issueOne "VC_MXSC" (.vcMxsc m) m opVcMxsc s
/-- Quantise by the scale latch (R270, R363). -/
def opVcQuan : Operation :=
  convertOp false (fun w => sourcePosit w && targetScaled w)
    (fun w scale x => quantise (decodePosit x (sourceCode w)) scale (scaleTarget w))

/-- The one-move bundle of VC_QUAN. -/
def execVcQuan (m : Move) (s : State) : Outcome State Fault Refusal := issueOne "VC_QUAN" (.vcQuan m) m opVcQuan s
/-- Dequantise by the scale latch (R270, R363). -/
def opVcDequ : Operation :=
  convertOp false (fun w => (if sourceIsType w then intAccepted (sourceCode w) else fmtValid (sourceCode w)) && targetPosit w)
    (fun w scale x =>
      dequantise (if sourceIsType w then decodeType x (sourceCode w) else decodePosit x (sourceCode w)) scale (targetCode w))

/-- The one-move bundle of VC_DEQU. -/
def execVcDequ (m : Move) (s : State) : Outcome State Fault Refusal := issueOne "VC_DEQU" (.vcDequ m) m opVcDequ s
end Sys2Proof.Machine
end

