-- ==== Sys2Proof/Machine/Copy.lean ====
section
/-! DEFINITION. The copy operations of a tile (R138 to R141, R148 to R150, R154, R155, R386, R387), and the start and the
landing of a command's chunks as happenings. -/

namespace Sys2Proof.Machine

open Host (Outcome)

/-! ## Issue (R139, R140, R149, R150) -/

/-- The shape image in cp.sh0 to cp.sh7 (R141). -/
def Tile.shapeImage (t : Tile) : Nat := ofElems 64 ((upFrom 0x128 8).map (fun p => (t.port p).toNat))

/-- A slot; zero when it is invalid. -/
def Tile.shape (t : Tile) (slot : Nat) : BitVec 512 := mget 0 t.shapes slot

/-- INVALID_COPY_ISSUE of a channel and a trigger value (R226). -/
def invalidCopy (ch : Nat) (v : Word) : Event :=
  { code := .invalidCopyIssue, info := BitVec.ofNat 64 (2 ^ 8 * ch + v.toNat % 2 ^ 8) }

/-- The class of cp.dst that a DKIND requires (R150). -/
def classOfKind (dkind : Nat) : Nat :=
  if dkind = 0 then 0x8 else if dkind = 1 then 0xB else if dkind = 2 then 0x9 else if dkind = 5 then 0x0 else 0xA

/-- The class of cp.src does not fit the record (R150). -/
def badSource (r : Shape) (src : Word) : Bool :=
  let c := field src.toNat 63 60
  !([0x0, 0x8, 0x9, 0xA].contains c) || ((r.glaze == 1 || r.glaze == 2) && c != 0) || (r.glaze == 3 && c == 0)

/-- The checks of cp.go n, in order (R150). -/
def copyChecks (n : Nat) (tr : Trigger) (s : State) : List Event :=
  let t := s.here
  let v := tr.word
  let r := (t.shape v.toNat).toNat
  let src := t.port 0x120
  let dst := t.port 0x121
  let ctl := t.port 0x122
  firstEvent
    [(decide (255 < v.toNat) || r == 0 || decide (field ctl.toNat 63 40 ≠ 0) || decide (field ctl.toNat 31 26 ≠ 0),
        invalidCopy n v),
     (field dst.toNat 63 60 != classOfKind (Shape.dkind r), invalidCopy n v),
     (badSource r src, invalidCopy n v),
     (ctl.getLsbD 38 && Shape.dkind r != 1 && Shape.dkind r != 2, invalidCopy n v),
     (decide (1024 ≤ (t.copies.filter (fun c => c.phase != .cancelled)).length), invalidCopy n v),
     (src.toNat % Shape.us r != 0, misaligned src), (dst.toNat % Shape.ud r != 0, misaligned dst),
     ((t.tokenFault ctl).isSome, { code := .tokenFault, info := BitVec.ofNat 64 ((t.tokenFault ctl).getD 0) })]

/-- The command that cp.go n issues: its latched record and operands, bound to the producers of its tokens (R139, R153). -/
def Tile.formCopy (t : Tile) (n : Nat) (v : Word) : CopyCmd :=
  let ctl := t.port 0x122
  let bound := t.bindTokens (consumed ctl)
  { id := t.nextId, ch := n, shape := t.shape v.toNat, src := t.port 0x120, dst := t.port 0x121, ctl := ctl, waits := bound.1
    doomed := bound.2, user := !t.isS, phase := .waiting, started := 0, age := 0, map := 0, lost := 0 }

/-- A command issued: its token becomes PENDING, it is the newest of its channel with a zero map, and it starts at once when
it may and the engines run. -/
def Tile.issueCopy (t : Tile) (n : Nat) (v : Word) : Tile :=
  let c := t.formCopy n v
  let none_ : Newest := { id := 0, map := 0, recent := 0, ended := false }
  let t1 := t.produce (produced c.ctl) c.id
  let t2 : Tile :=
    { t1 with
      copies := t1.copies ++ [c]
      newest := mset none_ t1.newest n { id := c.id, map := 0, recent := 0, ended := false } }
  if t.level = .task ∧ t2.copyReady c then t2.startCopy c else t2.settleFaults

/-- One command cancelled (R154, R157). -/
def Tile.cancelCopy (t : Tile) (c : CopyCmd) : Tile :=
  let t1 := if c.phase = .aborted then t.endNewest c else (t.endNewest c).finish c.id (produced c.ctl) false
  let t2 := if c.inFlight then t1.setCopy { c with phase := .cancelled } else t1.dropCopy c
  if c.cev then t2.complete (c.completion 2) else t2

/-- Every command of a channel cancelled, and what waits for their tokens completed faulted (R153, R154). -/
def Tile.cancelChannel (t : Tile) (ch : Nat) : Tile :=
  let t1 := (t.copies.filter (fun c => c.ch == ch && c.phase != .cancelled)).foldl Tile.cancelCopy t
  t1.settleFaults

/-- A window of a channel's map as cp.map samples it (R387). -/
def Tile.mapWindow (t : Tile) (ch win : Nat) : Word :=
  match mfind ch t.newest with
  | some n => wordAt (if n.stamp = t.cycles then n.map &&& ~~~n.recent else n.map).toNat (8 * win)
  | none => 0

/-! ## The operations -/

/-- Writes one shape slot from cp.sh0 to cp.sh7 (R141, R149). -/
def opCpDefs : Operation :=
  { check := fun tr s =>
      firstEvent
        [(decide (255 < tr.word.toNat), illegalOp 1),
         (!Shape.valid s.here.shapeImage, { code := .invalidShapeRecord, info := tr.word })]
    act := fun tr s =>
      s.mapHere (fun t => { t with
        shapes := mset 0 t.shapes (field tr.word.toNat 7 0) (BitVec.ofNat 512 t.shapeImage)
        defined := addTo (field tr.word.toNat 7 0) t.defined }) }

/-- The one-move bundle of CP_DEFS. -/
def execCpDefs (m : Move) (s : State) : Outcome State Fault Refusal := issueOne "CP_DEFS" (.cpDefs m) m opCpDefs s
/-- Ends every command of a channel (R154). -/
def opCpCancel : Operation :=
  { check := fun tr _ => eventsOf [(decide (16 ≤ tr.word.toNat), illegalOp 1)]
    act := fun tr s => s.mapHere (fun t => t.cancelChannel (field tr.word.toNat 3 0)) }

/-- The one-move bundle of CP_CANCEL. -/
def execCpCancel (m : Move) (s : State) : Outcome State Fault Refusal :=
  issueOne "CP_CANCEL" (.cpCancel m) m opCpCancel s
/-- A window of a channel's chunk map, at +2 (R155, R387). -/
def opCpMap : Operation :=
  { check := fun tr _ => eventsOf [(decide (field tr.word.toNat 63 10 ≠ 0) || decide (field tr.word.toNat 7 4 ≠ 0), illegalOp 1)]
    act := fun tr s => sendResult tr 2 0x106 (s.here.mapWindow (field tr.word.toNat 3 0) (field tr.word.toNat 9 8)) s }

/-- The one-move bundle of CP_MAP. -/
def execCpMap (m : Move) (s : State) : Outcome State Fault Refusal := issueOne "CP_MAP" (.cpMap m) m opCpMap s
/-- Issues a copy on channel n (R138 to R140, R150). -/
def opCpGo (n : Fin 16) : Operation :=
  { check := fun tr s => copyChecks n.val tr s
    act := fun tr s => s.mapHere (fun t => t.issueCopy n.val tr.word) }

/-- The one-move bundle of CP_GO. -/
def execCpGo (m : Move) (n : Fin 16) (s : State) : Outcome State Fault Refusal :=
  issueOne "CP_GO" (.cpGo m n) m (opCpGo n) s
/-! ## The engine's happenings -/

/-- The engines of a tile run: it is not frozen and not leaving (R218, R242, R244). -/
def Tile.enginesRun (t : Tile) : Bool := t.level == .task && (t.phase == .running || t.phase == .ended)

/-- A tile whose cycles count its local copies exactly; once its task has ended it has no cycles. -/
def Tile.countsCopies (t : Tile) : Bool := t.fixed && t.phase == .running

/-- COPY_START (R138). In fixed timing the tile's own cycle starts its commands (R165). -/
def execCopyStart (tile cmd : Nat) (s : State) : Outcome State Fault Refusal :=
  if 1024 ≤ tile then .fault (.absent "tile")
  else
    let t := s.tile tile
    match t.copy? cmd with
    | some c =>
      if t.enginesRun && !t.countsCopies && t.copyReady c then .next (s.setTile tile (t.startCopy c))
      else .refused (.notDue "COPY_START")
    | none => .refused (.notDue "COPY_START")

/-- A chunk under way: one in flight, or one that the running command may still start. -/
def Tile.chunkOpen (t : Tile) (c : CopyCmd) (chunk : Nat) : Bool :=
  decide (chunk < c.record.chunks) && !c.map.getLsbD chunk && !c.lost.getLsbD chunk
    && (decide (chunk < c.started) || (c.phase == .running && t.enginesRun))

/-- A chunk whose landing the tile's own cycles count: one of a running local copy, and the last of a copy to a tile of its die (R165,
R166). What an aborted, cancelled or suspended command has in flight lands without a count (R128, R154). -/
def Tile.chunkCounted (t : Tile) (s : State) (tile : Nat) (c : CopyCmd) : Bool :=
  t.countsCopies && t.enginesRun && c.phase == .running
    && (match t.task with
        | some k =>
          c.local_ (ownRank s (s.part k.part) k.job) k
            || ((s.peerTile tile k c).isSome && decide (c.missing.length = 1) && (!c.shared || decide (c.age < c.peerCycles)))
        | none => false)

/-- CHUNK_LANDED (R155): a step of a chunk, which reads the granules and writes the parts it names (R110, R170). A chunk not yet started
starts first, with those below it (R151); the step with its last write lands it, unless the tile's cycles count that. -/
def execChunkLanded (tile cmd : Nat) (step : ChunkStep) (s : State) : Outcome State Fault Refusal :=
  if 1024 ≤ tile then .fault (.absent "tile")
  else
    let t := s.tile tile
    match t.copy? cmd with
    | some c =>
      if t.chunkOpen c step.chunk then .next (s.moveChunk tile cmd step.chunk step.parts (!t.chunkCounted s tile c))
      else .refused (.notDue "CHUNK_LANDED")
    | none => .refused (.notDue "CHUNK_LANDED")

end Sys2Proof.Machine
end

