-- ==== Sys2Proof/Machine/Kiln.lean ====
section
/-! DEFINITION. The kiln operations as a tile issues them (R388 to R394). -/

namespace Sys2Proof.Machine

open Host (Outcome)

/-! ## Checks (R389, R392) -/

/-- Fields of the operand word that an operation may not hold. -/
def knBadWord (k : Nat) (c : Word) : Bool :=
  let reserved := decide (field c.toNat 63 48 ≠ 0) || decide (field c.toNat 43 42 ≠ 0)
  let fmt := knFormat c
  if k = 9 then false
  else if k = 11 ∨ k = 12 then reserved || !fmtValid fmt
  else if k = 13 then
    reserved || !fmtValid fmt || !fmtValid (knScalarFormat c) || knCount c == 0 || decide (64 / fmtWidth fmt < knCount c)
  else reserved

/-- An address that is not aligned as the operation requires. -/
def knMisaligned (k : Nat) (a c : Word) : Bool :=
  let off := a.toNat
  if k = 9 then off % 4 != 0
  else if k = 13 then
    let w := fmtWidth (knFormat c) / 8
    off % w != 0 || decide (8 < off % 8 + knCount c * w)
  else off % knLength k a c != 0

def knChecks (k : Nat) (tr : Trigger) (s : State) : List Event :=
  let t := s.here
  let a := tr.word
  let c := t.port 0x11A
  let waiting := (t.kiln.filter KilnOp.waits).length
  eventsOf [(knBadWord k c, illegalOp 1), (decide (64 ≤ waiting), illegalOp 2)]
    ++ firstEvent
      [(field a.toNat 63 60 != 0xA || mustBeZero a.toNat, copyFaultEvent 1 a),
       (decide ((s.part t.part).dieList.length ≤ field a.toNat 47 44), copyFaultEvent 2 a),
       (knMisaligned k a c, misaligned a)]

/-! ## The digest (R96, R394) -/

/-- The kind of a fold record; a load has none. -/
def knKind (k : Nat) : Nat :=
  if k < 8 then 1 else if k < 10 then 2 else if k = 10 then 3 else if k = 11 then 4 else if k = 12 then 5
  else if k = 13 then 6 else 0

/-- What a kiln operation folds into the task digest. -/
def knFold (k : Nat) (a b c : Word) : Word :=
  let n := if k = 12 then fmtWidth (knFormat c) / 8 else knLength k a c
  let part0 := foldWrite a.toNat (toBytes n (if k = 10 then 0 else b.toNat)) (knKind k) 0
  if k = 14 then 0
  else if k = 9 then part0 + foldWrite a.toNat (toBytes n c.toNat) 2 1
  else if k = 13 then
    part0 + foldWrite (a.toNat / 8 * 8) (toBytes (fmtWidth (knScalarFormat c) / 8) (knScalar c)) 6 1
  else part0

/-- Operation k of R309, sent into the tile's kiln queue. -/
def kilnTrigger (k : Nat) : Operation where
  check tr s := knChecks k tr s
  act tr s :=
    let t := s.here
    let o : KilnOp :=
      { k := k, addr := tr.word, b := t.port 0x119, c := t.port 0x11A, stage := .sent, bundle := tr.bundle, bus := tr.bus }
    let o1 := { o with due := s.kilnDue s.cur o }
    (s.mapHere (fun t => { t with kiln := t.kiln ++ [o1] })).fold s.cur (knFold k tr.word o.b o.c)

/-- The sum of y and b (R391). -/
def opKnAdd : Operation := kilnTrigger 0

/-- The one-move bundle of KN_ADD. -/
def execKnAdd (m : Move) (s : State) : Outcome State Fault Refusal := issueOne "KN_ADD" (.knAdd m) m opKnAdd s
/-- The smaller, signed (R391). -/
def opKnMin : Operation := kilnTrigger 1

/-- The one-move bundle of KN_MIN. -/
def execKnMin (m : Move) (s : State) : Outcome State Fault Refusal := issueOne "KN_MIN" (.knMin m) m opKnMin s
/-- The smaller, unsigned (R391). -/
def opKnMinu : Operation := kilnTrigger 2

/-- The one-move bundle of KN_MINU. -/
def execKnMinu (m : Move) (s : State) : Outcome State Fault Refusal := issueOne "KN_MINU" (.knMinu m) m opKnMinu s
/-- The larger, signed (R391). -/
def opKnMax : Operation := kilnTrigger 3

/-- The one-move bundle of KN_MAX. -/
def execKnMax (m : Move) (s : State) : Outcome State Fault Refusal := issueOne "KN_MAX" (.knMax m) m opKnMax s
/-- The larger, unsigned (R391). -/
def opKnMaxu : Operation := kilnTrigger 4

/-- The one-move bundle of KN_MAXU. -/
def execKnMaxu (m : Move) (s : State) : Outcome State Fault Refusal := issueOne "KN_MAXU" (.knMaxu m) m opKnMaxu s
/-- Bitwise and (R391). -/
def opKnAnd : Operation := kilnTrigger 5

/-- The one-move bundle of KN_AND. -/
def execKnAnd (m : Move) (s : State) : Outcome State Fault Refusal := issueOne "KN_AND" (.knAnd m) m opKnAnd s
/-- Bitwise or (R391). -/
def opKnOr : Operation := kilnTrigger 6

/-- The one-move bundle of KN_OR. -/
def execKnOr (m : Move) (s : State) : Outcome State Fault Refusal := issueOne "KN_OR" (.knOr m) m opKnOr s
/-- Bitwise exclusive or (R391). -/
def opKnXor : Operation := kilnTrigger 7

/-- The one-move bundle of KN_XOR. -/
def execKnXor (m : Move) (s : State) : Outcome State Fault Refusal := issueOne "KN_XOR" (.knXor m) m opKnXor s
/-- The operand replaces y (R391). -/
def opKnSwap : Operation := kilnTrigger 8

/-- The one-move bundle of KN_SWAP. -/
def execKnSwap (m : Move) (s : State) : Outcome State Fault Refusal := issueOne "KN_SWAP" (.knSwap m) m opKnSwap s
/-- The operand replaces y when y equals kn.c (R391). -/
def opKnCas : Operation := kilnTrigger 9

/-- The one-move bundle of KN_CAS. -/
def execKnCas (m : Move) (s : State) : Outcome State Fault Refusal := issueOne "KN_CAS" (.knCas m) m opKnCas s
/-- A ticket: y rises by one (R391). -/
def opKnTick : Operation := kilnTrigger 10

/-- The one-move bundle of KN_TICK. -/
def execKnTick (m : Move) (s : State) : Outcome State Fault Refusal := issueOne "KN_TICK" (.knTick m) m opKnTick s
/-- A posit sum, rounded (R391). -/
def opKnPadd : Operation := kilnTrigger 11

/-- The one-move bundle of KN_PADD. -/
def execKnPadd (m : Move) (s : State) : Outcome State Fault Refusal := issueOne "KN_PADD" (.knPadd m) m opKnPadd s
/-- An exact addition to a quire cell (R391). -/
def opKnQadd : Operation := kilnTrigger 12

/-- The one-move bundle of KN_QADD. -/
def execKnQadd (m : Move) (s : State) : Outcome State Fault Refusal := issueOne "KN_QADD" (.knQadd m) m opKnQadd s
/-- An element-wise update (R391). -/
def opKnUpd : Operation := kilnTrigger 13

/-- The one-move bundle of KN_UPD. -/
def execKnUpd (m : Move) (s : State) : Outcome State Fault Refusal := issueOne "KN_UPD" (.knUpd m) m opKnUpd s
/-- A load (R391). -/
def opKnLd : Operation := kilnTrigger 14

/-- The one-move bundle of KN_LD. -/
def execKnLd (m : Move) (s : State) : Outcome State Fault Refusal := issueOne "KN_LD" (.knLd m) m opKnLd s
/-- A store (R391). -/
def opKnSt : Operation := kilnTrigger 15

/-- The one-move bundle of KN_ST. -/
def execKnSt (m : Move) (s : State) : Outcome State Fault Refusal := issueOne "KN_ST" (.knSt m) m opKnSt s
end Sys2Proof.Machine
end

