-- ==== Sys2Proof/Machine/Link.lean ====
section
/-! DEFINITION. The link operations of a tile (R161 to R164, R396 to R398). -/

namespace Sys2Proof.Machine

open Host (Outcome)

/-- Reserved bits of lk.a as lk.send reads it. -/
def linkReserved (a : Word) : Bool :=
  let x := a.toNat
  decide (field x 63 56 ≠ 0) || decide (field x 47 42 ≠ 0) || decide (field x 31 8 ≠ 0) || decide (field x 3 0 ≠ 0)

/-- The lk.src of a message: the sender's rank and logical index (R396). -/
def linkSource (rank index : Nat) : Word :=
  BitVec.ofNat 64 (rank % 2 ^ 8 * 2 ^ 48 + index % 2 ^ 10 * 2 ^ 32 + index / 2 ^ 10 % 2 ^ 14 * 2 ^ 18)

/-- What a received message becomes: its latches, or the poison event with the queue in INFO (R397). -/
def Received.payload (m : Received) (q : Nat) : Payload :=
  if m.poisoned then .poisoned (m.src ||| BitVec.ofNat 64 (16 * q)) else .message m.data m.src

/-- A message placed in the send buffer, and folded (R96, R397). -/
def opLkSend : Operation :=
  { check := fun tr _ => eventsOf [(linkReserved tr.word, illegalOp 1)]
    hold := fun tr s => if s.here.sends.length < 32 then [] else [{ row := 4, timeout := s.here.port 0x11E, bus := tr.bus }]
    act := fun tr s =>
      let t := s.here
      let b := t.port 0x11D
      let src := match t.task with
        | some k => linkSource (ownRank s (s.part k.part) k.job) k.index
        | none => 0
      let m : Outgoing := { dest := tr.word, data := b, src := src, refused := false, due := s.sendDue s.cur tr.word }
      (s.mapHere (fun t => { t with sends := t.sends ++ [m] })).fold s.cur
        (foldWrite tr.word.toNat (toBytes 8 b.toNat) 7 0) }

/-- The one-move bundle of LK_SEND. -/
def execLkSend (m : Move) (s : State) : Outcome State Fault Refusal := issueOne "LK_SEND" (.lkSend m) m opLkSend s
/-- Pops the head of a queue into lk.res and lk.src, at +2 (R163, R397). -/
def opLkRecv : Operation :=
  { hold := fun tr s =>
      if (s.here.queue (linkQueue tr.word)).isEmpty then [{ row := 5, timeout := s.here.port 0x11E, bus := tr.bus }] else []
    act := fun tr s =>
      let q := linkQueue tr.word
      match s.here.queue q with
      | m :: ms =>
        s.mapHere (fun t => { t with queues := mset [] t.queues q ms }.launchFlight (tr.flight 2 none (m.payload q)))
      | [] => s }

/-- The one-move bundle of LK_RECV. -/
def execLkRecv (m : Move) (s : State) : Outcome State Fault Refusal := issueOne "LK_RECV" (.lkRecv m) m opLkRecv s
/-- The entry count of a queue, at +2 (R397). -/
def opLkProbe : Operation :=
  { act := fun tr s => sendResult tr 2 0x108 (BitVec.ofNat 64 (s.here.queue (linkQueue tr.word)).length) s }

/-- The one-move bundle of LK_PROBE. -/
def execLkProbe (m : Move) (s : State) : Outcome State Fault Refusal := issueOne "LK_PROBE" (.lkProbe m) m opLkProbe s
/-- The head of a queue without popping, at +2 (R397). -/
def opLkPeek : Operation :=
  { act := fun tr s =>
      let q := linkQueue tr.word
      let body := match s.here.queue q with
        | m :: _ => m.payload q
        | [] => .message 0 (BitVec.allOnes 64)
      s.mapHere (fun t => t.launchFlight (tr.flight 2 none body)) }

/-- The one-move bundle of LK_PEEK. -/
def execLkPeek (m : Move) (s : State) : Outcome State Fault Refusal := issueOne "LK_PEEK" (.lkPeek m) m opLkPeek s
end Sys2Proof.Machine
end

