-- ==== Sys2Proof/Machine/LoadStore.lean ====
section
/-! DEFINITION. Loads and stores of the own tile store by ls (R322 to R324). -/

namespace Sys2Proof.Machine

open Host (Outcome)

/-- The checks of an access of n bytes at offset a (R323). -/
def storeChecks (n : Nat) (a : Word) : List Event :=
  firstEvent
    [(decide (2 ^ 21 < a.toNat + n), { code := .tileStoreBounds, info := a }), (decide (a.toNat % n ≠ 0), misaligned a)]

/-- A load of n bytes, which performs at +2 and arrives at +4 (R322). -/
def load (n : Nat) (sign : Bool) : Operation where
  check tr _ := storeChecks n tr.word
  touch tr _ := [(tr.word.toNat, n)]
  act tr s := s.mapHere (fun t => t.launchFlight (tr.flight 4 (some 2) (.load tr.word.toNat n sign)))

/-- A store of the low n bytes of b, which performs at +2 (R322). -/
def store (n : Nat) : Operation where
  check tr _ := storeChecks n tr.word
  touch tr _ := [(tr.word.toNat, n)]
  act tr s :=
    s.mapHere (fun t => t.launchFlight
      (tr.flight 2 (some 2) (.store tr.word.toNat n (BitVec.ofNat 64 ((t.port 0x10D).toNat % 2 ^ (8 * n))))))

/-- One byte, zero-extended (R322). -/
def opLsLd8 : Operation := load 1 false

/-- The one-move bundle of LS_LD8. -/
def execLsLd8 (m : Move) (s : State) : Outcome State Fault Refusal := issueOne "LS_LD8" (.lsLd8 m) m opLsLd8 s
/-- One byte, sign-extended (R322). -/
def opLsLd8s : Operation := load 1 true

/-- The one-move bundle of LS_LD8S. -/
def execLsLd8s (m : Move) (s : State) : Outcome State Fault Refusal := issueOne "LS_LD8S" (.lsLd8s m) m opLsLd8s s
/-- 16 bits, zero-extended (R322). -/
def opLsLd16 : Operation := load 2 false

/-- The one-move bundle of LS_LD16. -/
def execLsLd16 (m : Move) (s : State) : Outcome State Fault Refusal := issueOne "LS_LD16" (.lsLd16 m) m opLsLd16 s
/-- 16 bits, sign-extended (R322). -/
def opLsLd16s : Operation := load 2 true

/-- The one-move bundle of LS_LD16S. -/
def execLsLd16s (m : Move) (s : State) : Outcome State Fault Refusal := issueOne "LS_LD16S" (.lsLd16s m) m opLsLd16s s
/-- 32 bits, zero-extended (R322). -/
def opLsLd32 : Operation := load 4 false

/-- The one-move bundle of LS_LD32. -/
def execLsLd32 (m : Move) (s : State) : Outcome State Fault Refusal := issueOne "LS_LD32" (.lsLd32 m) m opLsLd32 s
/-- 32 bits, sign-extended (R322). -/
def opLsLd32s : Operation := load 4 true

/-- The one-move bundle of LS_LD32S. -/
def execLsLd32s (m : Move) (s : State) : Outcome State Fault Refusal := issueOne "LS_LD32S" (.lsLd32s m) m opLsLd32s s
/-- 64 bits (R322). -/
def opLsLd64 : Operation := load 8 false

/-- The one-move bundle of LS_LD64. -/
def execLsLd64 (m : Move) (s : State) : Outcome State Fault Refusal := issueOne "LS_LD64" (.lsLd64 m) m opLsLd64 s
/-- Stores one byte (R322). -/
def opLsSt8 : Operation := store 1

/-- The one-move bundle of LS_ST8. -/
def execLsSt8 (m : Move) (s : State) : Outcome State Fault Refusal := issueOne "LS_ST8" (.lsSt8 m) m opLsSt8 s
/-- Stores 16 bits (R322). -/
def opLsSt16 : Operation := store 2

/-- The one-move bundle of LS_ST16. -/
def execLsSt16 (m : Move) (s : State) : Outcome State Fault Refusal := issueOne "LS_ST16" (.lsSt16 m) m opLsSt16 s
/-- Stores 32 bits (R322). -/
def opLsSt32 : Operation := store 4

/-- The one-move bundle of LS_ST32. -/
def execLsSt32 (m : Move) (s : State) : Outcome State Fault Refusal := issueOne "LS_ST32" (.lsSt32 m) m opLsSt32 s
/-- Stores 64 bits (R322). -/
def opLsSt64 : Operation := store 8

/-- The one-move bundle of LS_ST64. -/
def execLsSt64 (m : Move) (s : State) : Outcome State Fault Refusal := issueOne "LS_ST64" (.lsSt64 m) m opLsSt64 s
end Sys2Proof.Machine
end

