-- ==== Sys2Proof/Machine/Matrix.lean ====
section
/-! DEFINITION. The triggers of the matrix engine: the commands they form and their checks (R371 to R384). -/

namespace Sys2Proof.Machine

open Host (Outcome)

/-- The command that a trigger forms from its value and the ten ports (R372). -/
def formMatrix (t : Tile) (tr : Trigger) : MatrixCmd :=
  { id := t.nextId, op := tr.code, z := tr.word, ctl := t.port 0x130, geo := t.port 0x131, fmt := t.port 0x132, bnk := t.port 0x133,
    dst := t.port 0x134, rsd := t.port 0x135, scl := t.port 0x136, seed := t.port 0x137, drp := t.port 0x138, org := t.port 0x139,
    waits := [], doomed := false }

/-- A residual or an mload source is read (R374). -/
def MatrixCmd.readsStore (c : MatrixCmd) : Bool := (c.drains && c.rv) || c.op == 0x215

/-- A drain or an msave writes through mx.dst (R374). -/
def MatrixCmd.writesDst (c : MatrixCmd) : Bool := c.drains || c.op == 0x214

/-- Reserved bits of the trigger value and of every port that the operation's row names (R374, R383). -/
def MatrixCmd.reservedBits (c : MatrixCmd) : Bool :=
  let fmt := c.multiplies || c.drains
  decide (c.z.toNat / (if c.multiplies then 2 else 1) ≠ 0) || decide (field c.ctl.toNat 63 26 ≠ 0) || c.geo.getLsbD 17
    || (fmt && decide (field c.fmt.toNat 63 48 ≠ 0))
    || (c.drains && (decide (field c.scl.toNat 63 36 ≠ 0) || decide (field c.drp.toNat 63 25 ≠ 0)))

/-- Formats, plane counts, KLEN and the drained block within their limits (R376 to R378, R383). -/
def MatrixCmd.badFields (c : MatrixCmd) : Bool :=
  let pair := c.multiplies || c.drains
  let planes (k p f : Nat) := decide (2 ≤ k) && decide (k ≤ p) && decide (p ≤ fmtWidth f)
  let cf := field c.scl.toNat 35 32
  (pair && !(fmtValid c.fa && fmtValid c.fb))
    || (c.multiplies && !(planes c.ka c.pa c.fa && planes c.kb c.pb c.fb && decide (1 ≤ c.klen)))
    || (c.drains && (!fmtValid c.df || (c.rv && !fmtValid c.rf) || !(decide (8 ≤ cf) && decide (cf < 12))
        || decide (c.side ≤ c.dr) || decide (c.side ≤ c.dc)
        || (if c.toStore then decide (c.pd ≠ 0) else !(decide (2 ≤ c.pd) && decide (c.pd ≤ fmtWidth c.df)))))

/-- Groups that run past their buffer (R383). -/
def MatrixCmd.pastBuffer (c : MatrixCmd) : Bool :=
  (c.multiplies && (decide (65536 < c.aoff + groupBytes (c.klen * c.side) c.pa)
      || decide (65536 < c.boff + groupBytes (c.klen * c.side) c.pb)))
    || (c.drains && !c.toStore && decide (65536 < c.dst.toNat % 65536 + groupBytes (c.side * c.side) c.pd))

/-- An own tile-store address of class 0x8 (R103). -/
def ownStore (a : Word) : Bool := decide (a.toNat / 2 ^ 21 = 8 * 2 ^ 39)

/-- A class-0xB address that names the given rank and logical index, with its must-be-zero bits zero (R103). -/
def ownBuffer (rank index : Nat) (a : Word) : Bool :=
  decide (field a.toNat 63 60 = 0xB) && decide (field a.toNat 59 56 = 0) && decide (field a.toNat 55 48 = rank)
    && decide (field a.toNat 47 42 = 0) && decide (field a.toNat 41 32 = index) && decide (field a.toNat 31 18 = 0)

/-- Addresses of the wrong class, or with a must-be-zero bit set (R383). -/
def MatrixCmd.badAddress (c : MatrixCmd) (rank index : Nat) : Bool :=
  (c.drains && !(ownStore c.dst || ownBuffer rank index c.dst)) || (c.op == 0x214 && !ownStore c.dst)
    || (c.readsStore && !ownStore c.rsd)

/-- A plane-form drain of less than the block, or DORD with a tile-store destination (R383). -/
def MatrixCmd.badDrain (c : MatrixCmd) : Bool :=
  c.drains && (if c.toStore then c.dord else decide (c.dr + 1 ≠ c.side) || decide (c.dc + 1 ≠ c.side))

/-- A byte read or written in a bank outside BANKS (R115, R383). -/
def MatrixCmd.outsideBanks (c : MatrixCmd) : Bool := (c.writes ++ c.reads).any (fun r => (banksOf r.1 r.2 &&& ~~~c.banks) != 0)

/-- The offset of the first byte past the tile store (R383). -/
def MatrixCmd.pastStore (c : MatrixCmd) : Option Nat :=
  ((c.writes ++ c.reads).find? (fun r => decide (2 ^ 21 < r.1 + r.2))).map (fun r => max r.1 (2 ^ 21))

/-- The first misaligned address or offset of a command (R383). -/
def MatrixCmd.misalignedAt (c : MatrixCmd) : Option Word :=
  let ds := fmtWidth c.df / 8
  let rs := fmtWidth c.rf / 8
  let w (n : Nat) : Word := BitVec.ofNat 64 n
  let dp := field c.bnk.toNat 47 32
  let rp := field c.bnk.toNat 63 48
  (([(c.multiplies && decide (c.aoff % 8 ≠ 0), w c.aoff), (c.multiplies && decide (c.boff % 8 ≠ 0), w c.boff),
     (c.drains && !c.toStore && decide (c.dst.toNat % 8 ≠ 0), c.dst),
     (c.drains && c.toStore && decide (c.dst.toNat % ds ≠ 0), c.dst), (c.drains && c.rv && decide (c.rsd.toNat % rs ≠ 0), c.rsd),
     (c.drains && c.toStore && decide (dp % ds ≠ 0), w dp), (c.drains && c.rv && decide (rp % rs ≠ 0), w rp),
     (c.op == 0x214 && decide (c.dst.toNat % 64 ≠ 0), c.dst), (c.op == 0x215 && decide (c.rsd.toNat % 64 ≠ 0), c.rsd)]
    : List (Bool × Word)).find? Prod.fst).map Prod.snd

/-- The buffer that a plane-form drain of mx.mmd writes while the command reads it (R383). -/
def MatrixCmd.overlap (c : MatrixCmd) : Option Nat :=
  let b := field c.dst.toNat 17 16
  if c.op = 0x211 ∧ c.toStore = false ∧ (b = c.asel ∨ b = c.bsel) then some b else none

/-- The rank and logical index of a tile's task. -/
def State.ownName (s : State) (t : Tile) : Nat × Nat :=
  match t.task with
  | some k => (ownRank s (s.part k.part) k.job, k.index)
  | none => (0, 0)

/-- The events of a matrix trigger in the order of R383. -/
def matrixChecks (tr : Trigger) (s : State) : List Event :=
  let t := s.here
  let c := formMatrix t tr
  let (rank, index) := s.ownName t
  eventsOf
    [(c.reservedBits || c.badFields || c.pastBuffer || c.badAddress rank index || c.badDrain || c.outsideBanks, illegalOp 1),
     (decide (2 ≤ t.matrix.shadow.length), illegalOp 3)]
    ++ (c.pastStore.map (fun o => ({ code := .tileStoreBounds, info := BitVec.ofNat 64 o } : Event))).toList
    ++ (c.misalignedAt.map misaligned).toList
    ++ (c.overlap.map (fun b => ({ code := .matrixOperandOverlap, info := BitVec.ofNat 64 b } : Event))).toList
    ++ ((t.tokenFault c.ctl).map (fun k => ({ code := .tokenFault, info := BitVec.ofNat 64 k } : Event))).toList

/-- A command enters the channel when it and the shadow set are empty, else the shadow set (R372, R384). -/
def enterMatrix (tr : Trigger) (t : Tile) : Tile :=
  let c0 := formMatrix t tr
  let bound := t.bindTokens (consumed c0.ctl)
  let c := { c0 with waits := bound.1, doomed := bound.2 }
  let t1 := t.produce (produced c.ctl) c.id
  if t1.matrix.channel.isNone && t1.matrix.shadow.isEmpty then
    ({ t1 with matrix := { t1.matrix with channel := some (c, none) } }).startMatrix
  else { t1 with matrix := { t1.matrix with shadow := t1.matrix.shadow ++ [c] } }

/-- A trigger of the matrix engine; what the command does is in Engine. -/
def matrixOp : Operation where
  check := matrixChecks
  act tr s := s.mapHere (enterMatrix tr)

/-- Accumulate (R380). -/
def opMxMma : Operation := matrixOp

/-- The one-move bundle of MX_MMA. -/
def execMxMma (m : Move) (s : State) : Outcome State Fault Refusal := issueOne "MX_MMA" (.mxMma m) m opMxMma s
/-- Accumulate, then drain (R374, R380, R381). -/
def opMxMmd : Operation := matrixOp

/-- The one-move bundle of MX_MMD. -/
def execMxMmd (m : Move) (s : State) : Outcome State Fault Refusal := issueOne "MX_MMD" (.mxMmd m) m opMxMmd s
/-- Drain (R381). -/
def opMxMdrn : Operation := matrixOp

/-- The one-move bundle of MX_MDRN. -/
def execMxMdrn (m : Move) (s : State) : Outcome State Fault Refusal := issueOne "MX_MDRN" (.mxMdrn m) m opMxMdrn s
/-- Clear a bank (R382). -/
def opMxMclr : Operation := matrixOp

/-- The one-move bundle of MX_MCLR. -/
def execMxMclr (m : Move) (s : State) : Outcome State Fault Refusal := issueOne "MX_MCLR" (.mxMclr m) m opMxMclr s
/-- Save a bank (R382). -/
def opMxMsave : Operation := matrixOp

/-- The one-move bundle of MX_MSAVE. -/
def execMxMsave (m : Move) (s : State) : Outcome State Fault Refusal := issueOne "MX_MSAVE" (.mxMsave m) m opMxMsave s
/-- Load a bank (R382). -/
def opMxMload : Operation := matrixOp

/-- The one-move bundle of MX_MLOAD. -/
def execMxMload (m : Move) (s : State) : Outcome State Fault Refusal := issueOne "MX_MLOAD" (.mxMload m) m opMxMload s
end Sys2Proof.Machine
end

