-- ==== Sys2Proof/Machine/QuireUnit.lean ====
section
/-! DEFINITION. The quire operations of vq (R357 to R361); what they do to the quires is in Flights. -/

namespace Sys2Proof.Machine

open Host (Outcome)

/-- A vq operation added to those that have not taken effect (R357), with its trigger value, or for one that reads lane 0 of port a
that port. The held b counts for qmac alone (R234). -/
def quirePush (op : QuireOp) (q remain : Nat) (perf : Option Nat) (tr : Trigger) (s : State) : State :=
  tr.each (fun c v lanes s =>
    s.mapHere (fun t =>
      let k : QuireStep :=
        { issue := t.issues, clus := c, q := q, op := op, lanes := lanes
          a := if op = .qsav ∨ op = .qld ∨ op = .qovf then t.vport c 0x108 else v
          b := if op = .qmac then t.vport c 0x109 else 0
          fmt := formatWord t c, remain := remain, perf := perf, image := none, done := false, bundle := tr.bundle, bus := tr.bus }
      { t with quires := t.quires ++ [k] })) s

/-- A vq operation with its check of the fields it reads (R307, R357, R358). -/
def quireOp (op : QuireOp) (q remain : Nat) (perf : Option Nat) (bad : Lane → Bool) : Operation where
  check := formatChecks bad
  act := quirePush op q remain perf

/-- The offset of a save or load: lane 0 of vq.a (R360). -/
def quireOffset (t : Tile) (c : Nat) : Nat := (lane (t.vport c 0x108) 0).toNat

/-- A save or load of a quire, which performs at +2 (R360). -/
def quireMemory (op : QuireOp) (q remain : Nat) : Operation where
  check tr s :=
    formatChecks (fun _ => false) tr s ++ tr.checks (fun c _ _ =>
      let a := quireOffset s.here c
      firstEvent
        [(decide (2 ^ 21 < a + 2048), { code := .tileStoreBounds, info := BitVec.ofNat 64 a }),
         (decide (a % 128 ≠ 0), misaligned (BitVec.ofNat 64 a))])
  touch tr s := tr.value.parts.map (fun p => (quireOffset s.here p.1, 2048))
  act := quirePush op q remain (some 2)

/-- Clear (R358) on q0. -/
def opVqQclr0 : Operation := quireOp .qclr 0 1 none (fun _ => false)

/-- The one-move bundle of VQ_QCLR0. -/
def execVqQclr0 (m : Move) (s : State) : Outcome State Fault Refusal := issueOne "VQ_QCLR0" (.vqQclr0 m) m opVqQclr0 s
/-- Exact multiply-accumulate (R358) on q0. -/
def opVqQmac0 : Operation :=
  quireOp .qmac 0 2 none (fun w => !fmtValid (fmtField w 1) || !fmtValid (fmtField w 2)
    || fmtWidth (fmtField w 1) != fmtWidth (fmtField w 2))

/-- The one-move bundle of VQ_QMAC0. -/
def execVqQmac0 (m : Move) (s : State) : Outcome State Fault Refusal := issueOne "VQ_QMAC0" (.vqQmac0 m) m opVqQmac0 s
/-- Exact add of the elements (R358) on q0. -/
def opVqQadd0 : Operation := quireOp .qadd 0 2 none (fun w => !fmtValid (fmtField w 1))

/-- The one-move bundle of VQ_QADD0. -/
def execVqQadd0 (m : Move) (s : State) : Outcome State Fault Refusal := issueOne "VQ_QADD0" (.vqQadd0 m) m opVqQadd0 s
/-- Exact subtract of the elements (R358) on q0. -/
def opVqQsub0 : Operation := quireOp .qsub 0 2 none (fun w => !fmtValid (fmtField w 1))

/-- The one-move bundle of VQ_QSUB0. -/
def execVqQsub0 (m : Move) (s : State) : Outcome State Fault Refusal := issueOne "VQ_QSUB0" (.vqQsub0 m) m opVqQsub0 s
/-- Round (R358) on q0. -/
def opVqQrnd0 : Operation := quireOp .qrnd 0 4 none (fun w => !fmtValid (fmtField w 3))

/-- The one-move bundle of VQ_QRND0. -/
def execVqQrnd0 (m : Move) (s : State) : Outcome State Fault Refusal := issueOne "VQ_QRND0" (.vqQrnd0 m) m opVqQrnd0 s
/-- Save (R360) on q0. -/
def opVqQsav0 : Operation := quireMemory .qsav 0 2

/-- The one-move bundle of VQ_QSAV0. -/
def execVqQsav0 (m : Move) (s : State) : Outcome State Fault Refusal := issueOne "VQ_QSAV0" (.vqQsav0 m) m opVqQsav0 s
/-- Load (R360) on q0. -/
def opVqQld0 : Operation := quireMemory .qld 0 6

/-- The one-move bundle of VQ_QLD0. -/
def execVqQld0 (m : Move) (s : State) : Outcome State Fault Refusal := issueOne "VQ_QLD0" (.vqQld0 m) m opVqQld0 s
/-- Cross-cluster exact total (R359) on q0. -/
def opVqQxadd0 : Operation := quireOp .qxadd 0 4 none (fun w => !fmtValid (fmtField w 3))

/-- The one-move bundle of VQ_QXADD0. -/
def execVqQxadd0 (m : Move) (s : State) : Outcome State Fault Refusal :=
  issueOne "VQ_QXADD0" (.vqQxadd0 m) m opVqQxadd0 s
/-- Exact reduction over the lanes (R359) on q0. -/
def opVqQred0 : Operation := quireOp .qred 0 6 none (fun w => !fmtValid (fmtField w 3))

/-- The one-move bundle of VQ_QRED0. -/
def execVqQred0 (m : Move) (s : State) : Outcome State Fault Refusal := issueOne "VQ_QRED0" (.vqQred0 m) m opVqQred0 s
/-- Overflow control (R361) on q0. -/
def opVqQovf0 : Operation := quireOp .qovf 0 1 none (fun _ => false)

/-- The one-move bundle of VQ_QOVF0. -/
def execVqQovf0 (m : Move) (s : State) : Outcome State Fault Refusal := issueOne "VQ_QOVF0" (.vqQovf0 m) m opVqQovf0 s
/-- Clear (R358) on q1. -/
def opVqQclr1 : Operation := quireOp .qclr 1 1 none (fun _ => false)

/-- The one-move bundle of VQ_QCLR1. -/
def execVqQclr1 (m : Move) (s : State) : Outcome State Fault Refusal := issueOne "VQ_QCLR1" (.vqQclr1 m) m opVqQclr1 s
/-- Exact multiply-accumulate (R358) on q1. -/
def opVqQmac1 : Operation :=
  quireOp .qmac 1 2 none (fun w => !fmtValid (fmtField w 1) || !fmtValid (fmtField w 2)
    || fmtWidth (fmtField w 1) != fmtWidth (fmtField w 2))

/-- The one-move bundle of VQ_QMAC1. -/
def execVqQmac1 (m : Move) (s : State) : Outcome State Fault Refusal := issueOne "VQ_QMAC1" (.vqQmac1 m) m opVqQmac1 s
/-- Exact add of the elements (R358) on q1. -/
def opVqQadd1 : Operation := quireOp .qadd 1 2 none (fun w => !fmtValid (fmtField w 1))

/-- The one-move bundle of VQ_QADD1. -/
def execVqQadd1 (m : Move) (s : State) : Outcome State Fault Refusal := issueOne "VQ_QADD1" (.vqQadd1 m) m opVqQadd1 s
/-- Exact subtract of the elements (R358) on q1. -/
def opVqQsub1 : Operation := quireOp .qsub 1 2 none (fun w => !fmtValid (fmtField w 1))

/-- The one-move bundle of VQ_QSUB1. -/
def execVqQsub1 (m : Move) (s : State) : Outcome State Fault Refusal := issueOne "VQ_QSUB1" (.vqQsub1 m) m opVqQsub1 s
/-- Round (R358) on q1. -/
def opVqQrnd1 : Operation := quireOp .qrnd 1 4 none (fun w => !fmtValid (fmtField w 3))

/-- The one-move bundle of VQ_QRND1. -/
def execVqQrnd1 (m : Move) (s : State) : Outcome State Fault Refusal := issueOne "VQ_QRND1" (.vqQrnd1 m) m opVqQrnd1 s
/-- Save (R360) on q1. -/
def opVqQsav1 : Operation := quireMemory .qsav 1 2

/-- The one-move bundle of VQ_QSAV1. -/
def execVqQsav1 (m : Move) (s : State) : Outcome State Fault Refusal := issueOne "VQ_QSAV1" (.vqQsav1 m) m opVqQsav1 s
/-- Load (R360) on q1. -/
def opVqQld1 : Operation := quireMemory .qld 1 6

/-- The one-move bundle of VQ_QLD1. -/
def execVqQld1 (m : Move) (s : State) : Outcome State Fault Refusal := issueOne "VQ_QLD1" (.vqQld1 m) m opVqQld1 s
/-- Cross-cluster exact total (R359) on q1. -/
def opVqQxadd1 : Operation := quireOp .qxadd 1 4 none (fun w => !fmtValid (fmtField w 3))

/-- The one-move bundle of VQ_QXADD1. -/
def execVqQxadd1 (m : Move) (s : State) : Outcome State Fault Refusal :=
  issueOne "VQ_QXADD1" (.vqQxadd1 m) m opVqQxadd1 s
/-- Exact reduction over the lanes (R359) on q1. -/
def opVqQred1 : Operation := quireOp .qred 1 6 none (fun w => !fmtValid (fmtField w 3))

/-- The one-move bundle of VQ_QRED1. -/
def execVqQred1 (m : Move) (s : State) : Outcome State Fault Refusal := issueOne "VQ_QRED1" (.vqQred1 m) m opVqQred1 s
/-- Overflow control (R361) on q1. -/
def opVqQovf1 : Operation := quireOp .qovf 1 1 none (fun _ => false)

/-- The one-move bundle of VQ_QOVF1. -/
def execVqQovf1 (m : Move) (s : State) : Outcome State Fault Refusal := issueOne "VQ_QOVF1" (.vqQovf1 m) m opVqQovf1 s
end Sys2Proof.Machine
end

