-- ==== Sys2Proof/Machine/Scalar.lean ====
section
/-! DEFINITION. The scalar units: sa0 and sa1, and sm with its divider (R318 to R321). -/

namespace Sys2Proof.Machine

open Host (Outcome)

/-- An operation of a scalar ALU (R318): `u` is false for sa0 and true for sa1; its result is a function of a, b and c. -/
def alu (u : Bool) (latency : Nat) (f : Word → Word → Word → Word) : Operation where
  act tr s :=
    let p := if u then 0x104 else 0x100
    sendResult tr latency (if u then 0x101 else 0x100)
      (f (s.here.port p) (s.here.port (p + 1)) (s.here.port (p + 2))) s

/-- The shift count of b (R318). -/
def shiftCount (b : Word) : Nat := field b.toNat 5 0

/-- The field that a control word of R319 names: its offset and the bits of it that exist. -/
def fieldSpan (b : Word) : Nat × Nat :=
  let off := field b.toNat 7 0
  let w := min (field b.toNat 15 8) 64
  (off, if w = 0 ∨ 64 ≤ off then 0 else min w (64 - off))

/-- The field of a, zero-extended (R319). -/
def extractField (a b : Word) : Word :=
  let (off, n) := fieldSpan b
  BitVec.ofNat 64 (a.toNat / 2 ^ off % 2 ^ n)

/-- The field of a, sign-extended from its highest bit (R319). -/
def extractSigned (a b : Word) : Word :=
  let (off, n) := fieldSpan b
  if n = 0 then 0 else BitVec.ofInt 64 (signed n (a.toNat / 2 ^ off))

/-- The low bits of c in the field of a (R319). -/
def insertField (a b c : Word) : Word :=
  let (off, n) := fieldSpan b
  if n = 0 then a
  else
    let x := a.toNat
    BitVec.ofNat 64 (x / 2 ^ (off + n) * 2 ^ (off + n) + c.toNat % 2 ^ n * 2 ^ off + x % 2 ^ off)

/-- How many bits of a number of 64 bits are ones. -/
def countOnes (a : Word) : Nat := (upFrom 0 64).countP (fun i => a.getLsbD i)

/-- The zeros above the highest one; 64 when there is none (R318). -/
def leadingZeros (a : Word) : Nat := if a = 0 then 64 else 63 - a.toNat.log2

/-- The zeros below the lowest one; 64 when there is none (R318). -/
def trailingZeros (a : Word) : Nat := ((upFrom 0 64).find? (fun i => a.getLsbD i)).getD 64

/-! ## sa0 and sa1 -/

/-- Add (R318). -/
def opSaAdd (u : Bool) : Operation := alu u 1 (fun a b _ => a + b)

/-- The one-move bundle of SA_ADD. -/
def execSaAdd (m : Move) (u : Bool) (s : State) : Outcome State Fault Refusal :=
  issueOne "SA_ADD" (.saAdd m u) m (opSaAdd u) s
/-- Subtract (R318). -/
def opSaSub (u : Bool) : Operation := alu u 1 (fun a b _ => a - b)

/-- The one-move bundle of SA_SUB. -/
def execSaSub (m : Move) (u : Bool) (s : State) : Outcome State Fault Refusal :=
  issueOne "SA_SUB" (.saSub m u) m (opSaSub u) s
/-- Bitwise and (R318). -/
def opSaAnd (u : Bool) : Operation := alu u 1 (fun a b _ => a &&& b)

/-- The one-move bundle of SA_AND. -/
def execSaAnd (m : Move) (u : Bool) (s : State) : Outcome State Fault Refusal :=
  issueOne "SA_AND" (.saAnd m u) m (opSaAnd u) s
/-- Bitwise or (R318). -/
def opSaOr (u : Bool) : Operation := alu u 1 (fun a b _ => a ||| b)

/-- The one-move bundle of SA_OR. -/
def execSaOr (m : Move) (u : Bool) (s : State) : Outcome State Fault Refusal :=
  issueOne "SA_OR" (.saOr m u) m (opSaOr u) s
/-- Bitwise exclusive or (R318). -/
def opSaXor (u : Bool) : Operation := alu u 1 (fun a b _ => a ^^^ b)

/-- The one-move bundle of SA_XOR. -/
def execSaXor (m : Move) (u : Bool) (s : State) : Outcome State Fault Refusal :=
  issueOne "SA_XOR" (.saXor m u) m (opSaXor u) s
/-- a and not b (R318). -/
def opSaAndn (u : Bool) : Operation := alu u 1 (fun a b _ => a &&& ~~~b)

/-- The one-move bundle of SA_ANDN. -/
def execSaAndn (m : Move) (u : Bool) (s : State) : Outcome State Fault Refusal :=
  issueOne "SA_ANDN" (.saAndn m u) m (opSaAndn u) s
/-- a or not b (R318). -/
def opSaOrn (u : Bool) : Operation := alu u 1 (fun a b _ => a ||| ~~~b)

/-- The one-move bundle of SA_ORN. -/
def execSaOrn (m : Move) (u : Bool) (s : State) : Outcome State Fault Refusal :=
  issueOne "SA_ORN" (.saOrn m u) m (opSaOrn u) s
/-- Not (a xor b) (R318). -/
def opSaXnor (u : Bool) : Operation := alu u 1 (fun a b _ => ~~~(a ^^^ b))

/-- The one-move bundle of SA_XNOR. -/
def execSaXnor (m : Move) (u : Bool) (s : State) : Outcome State Fault Refusal :=
  issueOne "SA_XNOR" (.saXnor m u) m (opSaXnor u) s
/-- Shift left by b[5:0] (R318). -/
def opSaSll (u : Bool) : Operation := alu u 1 (fun a b _ => a <<< shiftCount b)

/-- The one-move bundle of SA_SLL. -/
def execSaSll (m : Move) (u : Bool) (s : State) : Outcome State Fault Refusal :=
  issueOne "SA_SLL" (.saSll m u) m (opSaSll u) s
/-- Logical shift right by b[5:0] (R318). -/
def opSaSrl (u : Bool) : Operation := alu u 1 (fun a b _ => a >>> shiftCount b)

/-- The one-move bundle of SA_SRL. -/
def execSaSrl (m : Move) (u : Bool) (s : State) : Outcome State Fault Refusal :=
  issueOne "SA_SRL" (.saSrl m u) m (opSaSrl u) s
/-- Arithmetic shift right by b[5:0] (R318). -/
def opSaSra (u : Bool) : Operation := alu u 1 (fun a b _ => a.sshiftRight (shiftCount b))

/-- The one-move bundle of SA_SRA. -/
def execSaSra (m : Move) (u : Bool) (s : State) : Outcome State Fault Refusal :=
  issueOne "SA_SRA" (.saSra m u) m (opSaSra u) s
/-- Rotate right by b[5:0] (R318). -/
def opSaRor (u : Bool) : Operation := alu u 1 (fun a b _ => a.rotateRight (shiftCount b))

/-- The one-move bundle of SA_ROR. -/
def execSaRor (m : Move) (u : Bool) (s : State) : Outcome State Fault Refusal :=
  issueOne "SA_ROR" (.saRor m u) m (opSaRor u) s
/-- The smaller of sa and sb (R318). -/
def opSaMin (u : Bool) : Operation := alu u 1 (fun a b _ => if a.slt b then a else b)

/-- The one-move bundle of SA_MIN. -/
def execSaMin (m : Move) (u : Bool) (s : State) : Outcome State Fault Refusal :=
  issueOne "SA_MIN" (.saMin m u) m (opSaMin u) s
/-- The larger of sa and sb (R318). -/
def opSaMax (u : Bool) : Operation := alu u 1 (fun a b _ => if a.slt b then b else a)

/-- The one-move bundle of SA_MAX. -/
def execSaMax (m : Move) (u : Bool) (s : State) : Outcome State Fault Refusal :=
  issueOne "SA_MAX" (.saMax m u) m (opSaMax u) s
/-- The smaller of a and b, unsigned (R318). -/
def opSaMinu (u : Bool) : Operation := alu u 1 (fun a b _ => if a.ult b then a else b)

/-- The one-move bundle of SA_MINU. -/
def execSaMinu (m : Move) (u : Bool) (s : State) : Outcome State Fault Refusal :=
  issueOne "SA_MINU" (.saMinu m u) m (opSaMinu u) s
/-- The larger of a and b, unsigned (R318). -/
def opSaMaxu (u : Bool) : Operation := alu u 1 (fun a b _ => if a.ult b then b else a)

/-- The one-move bundle of SA_MAXU. -/
def execSaMaxu (m : Move) (u : Bool) (s : State) : Outcome State Fault Refusal :=
  issueOne "SA_MAXU" (.saMaxu m u) m (opSaMaxu u) s
/-- 1 when a = b, else 0 (R318). -/
def opSaCeq (u : Bool) : Operation := alu u 1 (fun a b _ => flagWord (a == b))

/-- The one-move bundle of SA_CEQ. -/
def execSaCeq (m : Move) (u : Bool) (s : State) : Outcome State Fault Refusal :=
  issueOne "SA_CEQ" (.saCeq m u) m (opSaCeq u) s
/-- 1 when a differs from b, else 0 (R318). -/
def opSaCne (u : Bool) : Operation := alu u 1 (fun a b _ => flagWord (a != b))

/-- The one-move bundle of SA_CNE. -/
def execSaCne (m : Move) (u : Bool) (s : State) : Outcome State Fault Refusal :=
  issueOne "SA_CNE" (.saCne m u) m (opSaCne u) s
/-- 1 when sa < sb, else 0 (R318). -/
def opSaClt (u : Bool) : Operation := alu u 1 (fun a b _ => flagWord (a.slt b))

/-- The one-move bundle of SA_CLT. -/
def execSaClt (m : Move) (u : Bool) (s : State) : Outcome State Fault Refusal :=
  issueOne "SA_CLT" (.saClt m u) m (opSaClt u) s
/-- 1 when sa is at most sb, else 0 (R318). -/
def opSaCle (u : Bool) : Operation := alu u 1 (fun a b _ => flagWord (a.sle b))

/-- The one-move bundle of SA_CLE. -/
def execSaCle (m : Move) (u : Bool) (s : State) : Outcome State Fault Refusal :=
  issueOne "SA_CLE" (.saCle m u) m (opSaCle u) s
/-- 1 when a < b unsigned, else 0 (R318). -/
def opSaCltu (u : Bool) : Operation := alu u 1 (fun a b _ => flagWord (a.ult b))

/-- The one-move bundle of SA_CLTU. -/
def execSaCltu (m : Move) (u : Bool) (s : State) : Outcome State Fault Refusal :=
  issueOne "SA_CLTU" (.saCltu m u) m (opSaCltu u) s
/-- 1 when a is at most b unsigned, else 0 (R318). -/
def opSaCleu (u : Bool) : Operation := alu u 1 (fun a b _ => flagWord (a.ule b))

/-- The one-move bundle of SA_CLEU. -/
def execSaCleu (m : Move) (u : Bool) (s : State) : Outcome State Fault Refusal :=
  issueOne "SA_CLEU" (.saCleu m u) m (opSaCleu u) s
/-- 1 when a and b share a one, else 0 (R318). -/
def opSaCtst (u : Bool) : Operation := alu u 1 (fun a b _ => flagWord (a &&& b != 0))

/-- The one-move bundle of SA_CTST. -/
def execSaCtst (m : Move) (u : Bool) (s : State) : Outcome State Fault Refusal :=
  issueOne "SA_CTST" (.saCtst m u) m (opSaCtst u) s
/-- a when c[0] is 1, else b (R318). -/
def opSaSel (u : Bool) : Operation := alu u 1 (fun a b c => if c.getLsbD 0 then a else b)

/-- The one-move bundle of SA_SEL. -/
def execSaSel (m : Move) (u : Bool) (s : State) : Outcome State Fault Refusal :=
  issueOne "SA_SEL" (.saSel m u) m (opSaSel u) s
/-- The field of a, zero-extended (R319). -/
def opSaBext (u : Bool) : Operation := alu u 1 (fun a b _ => extractField a b)

/-- The one-move bundle of SA_BEXT. -/
def execSaBext (m : Move) (u : Bool) (s : State) : Outcome State Fault Refusal :=
  issueOne "SA_BEXT" (.saBext m u) m (opSaBext u) s
/-- The field of a, sign-extended (R319). -/
def opSaBexts (u : Bool) : Operation := alu u 1 (fun a b _ => extractSigned a b)

/-- The one-move bundle of SA_BEXTS. -/
def execSaBexts (m : Move) (u : Bool) (s : State) : Outcome State Fault Refusal :=
  issueOne "SA_BEXTS" (.saBexts m u) m (opSaBexts u) s
/-- The field of a replaced by the low bits of c (R319). -/
def opSaBins (u : Bool) : Operation := alu u 1 insertField

/-- The one-move bundle of SA_BINS. -/
def execSaBins (m : Move) (u : Bool) (s : State) : Outcome State Fault Refusal :=
  issueOne "SA_BINS" (.saBins m u) m (opSaBins u) s
/-- The number of ones in a (R318). -/
def opSaPopc (u : Bool) : Operation := alu u 2 (fun a _ _ => BitVec.ofNat 64 (countOnes a))

/-- The one-move bundle of SA_POPC. -/
def execSaPopc (m : Move) (u : Bool) (s : State) : Outcome State Fault Refusal :=
  issueOne "SA_POPC" (.saPopc m u) m (opSaPopc u) s
/-- The zeros above the highest one of a (R318). -/
def opSaClz (u : Bool) : Operation := alu u 2 (fun a _ _ => BitVec.ofNat 64 (leadingZeros a))

/-- The one-move bundle of SA_CLZ. -/
def execSaClz (m : Move) (u : Bool) (s : State) : Outcome State Fault Refusal :=
  issueOne "SA_CLZ" (.saClz m u) m (opSaClz u) s
/-- The zeros below the lowest one of a (R318). -/
def opSaCtz (u : Bool) : Operation := alu u 2 (fun a _ _ => BitVec.ofNat 64 (trailingZeros a))

/-- The one-move bundle of SA_CTZ. -/
def execSaCtz (m : Move) (u : Bool) (s : State) : Outcome State Fault Refusal :=
  issueOne "SA_CTZ" (.saCtz m u) m (opSaCtz u) s
/-- b + a × 2^c[2:0] (R318). -/
def opSaAddsh (u : Bool) : Operation := alu u 1 (fun a b c => b + (a <<< field c.toNat 2 0))

/-- The one-move bundle of SA_ADDSH. -/
def execSaAddsh (m : Move) (u : Bool) (s : State) : Outcome State Fault Refusal :=
  issueOne "SA_ADDSH" (.saAddsh m u) m (opSaAddsh u) s
/-- a (R318). -/
def opSaMov (u : Bool) : Operation := alu u 1 (fun a _ _ => a)

/-- The one-move bundle of SA_MOV. -/
def execSaMov (m : Move) (u : Bool) (s : State) : Outcome State Fault Refusal :=
  issueOne "SA_MOV" (.saMov m u) m (opSaMov u) s
/-! ## sm -/

/-- The divider is busy from t + 1 to t + 19, so any sm trigger then is refused (R321). -/
def dividerBusy (t : Tile) : Bool :=
  (t.unitsAt t.level).flights.any (fun f => f.body == .divider && decide (f.remain ≠ 0))

/-- A multiply: latency 3 (R320). -/
def multiplier (f : Word → Word → Word) : Operation where
  check _ s := eventsOf [(dividerBusy s.here, illegalOp 2)]
  act tr s := sendResult tr 3 0x102 (f (s.here.port 0x108) (s.here.port 0x109)) s

/-- A divide or remainder: latency 20, with the divider's own record (R320, R321). -/
def divider (f : Word → Word → Word) : Operation where
  check _ s := eventsOf [(dividerBusy s.here, illegalOp 2)]
  act tr s :=
    (sendResult tr 20 0x102 (f (s.here.port 0x108) (s.here.port 0x109)) s).mapHere
      (fun t => t.launchFlight (tr.flight 20 none .divider))

/-- The low 64 bits of a × b (R320). -/
def opSmMul : Operation := multiplier (fun a b => a * b)

/-- The one-move bundle of SM_MUL. -/
def execSmMul (m : Move) (s : State) : Outcome State Fault Refusal := issueOne "SM_MUL" (.smMul m) m opSmMul s
/-- The high 64 bits of sa × sb (R320). -/
def opSmMulh : Operation := multiplier (fun a b => BitVec.ofInt 64 (a.toInt * b.toInt / 2 ^ 64))

/-- The one-move bundle of SM_MULH. -/
def execSmMulh (m : Move) (s : State) : Outcome State Fault Refusal := issueOne "SM_MULH" (.smMulh m) m opSmMulh s
/-- The high 64 bits of a × b unsigned (R320). -/
def opSmMulhu : Operation := multiplier (fun a b => BitVec.ofNat 64 (a.toNat * b.toNat / 2 ^ 64))

/-- The one-move bundle of SM_MULHU. -/
def execSmMulhu (m : Move) (s : State) : Outcome State Fault Refusal := issueOne "SM_MULHU" (.smMulhu m) m opSmMulhu s
/-- The product of the sign-extended low halves (R320). -/
def opSmMulw : Operation :=
  multiplier (fun a b => BitVec.signExtend 64 (BitVec.setWidth 32 a) * BitVec.signExtend 64 (BitVec.setWidth 32 b))

/-- The one-move bundle of SM_MULW. -/
def execSmMulw (m : Move) (s : State) : Outcome State Fault Refusal := issueOne "SM_MULW" (.smMulw m) m opSmMulw s
/-- Signed quotient; all ones for b = 0, a for −2^63 over −1 (R320). -/
def opSmDiv : Operation :=
  divider (fun a b => if b = 0 then BitVec.allOnes 64 else BitVec.ofInt 64 (a.toInt.tdiv b.toInt))

/-- The one-move bundle of SM_DIV. -/
def execSmDiv (m : Move) (s : State) : Outcome State Fault Refusal := issueOne "SM_DIV" (.smDiv m) m opSmDiv s
/-- Unsigned quotient; all ones for b = 0 (R320). -/
def opSmDivu : Operation :=
  divider (fun a b => if b = 0 then BitVec.allOnes 64 else BitVec.ofNat 64 (a.toNat / b.toNat))

/-- The one-move bundle of SM_DIVU. -/
def execSmDivu (m : Move) (s : State) : Outcome State Fault Refusal := issueOne "SM_DIVU" (.smDivu m) m opSmDivu s
/-- Signed remainder with the sign of the dividend; a for b = 0 (R320). -/
def opSmRem : Operation :=
  divider (fun a b => if b = 0 then a else BitVec.ofInt 64 (a.toInt - b.toInt * a.toInt.tdiv b.toInt))

/-- The one-move bundle of SM_REM. -/
def execSmRem (m : Move) (s : State) : Outcome State Fault Refusal := issueOne "SM_REM" (.smRem m) m opSmRem s
/-- Unsigned remainder; a for b = 0 (R320). -/
def opSmRemu : Operation := divider (fun a b => if b = 0 then a else BitVec.ofNat 64 (a.toNat % b.toNat))

/-- The one-move bundle of SM_REMU. -/
def execSmRemu (m : Move) (s : State) : Outcome State Fault Refusal := issueOne "SM_REMU" (.smRemu m) m opSmRemu s
end Sys2Proof.Machine
end

