-- ==== Sys2Proof/Machine/Sync.lean ====
section
/-! DEFINITION. The operations of sy (R182 to R184, R343 to R348): semaphores, remote scalar writes, drains, fences, clock
and identity reads. -/

namespace Sys2Proof.Machine

open Host (Outcome)

/-! ## Remote writes (R344) -/

def rputBytes (ctl : Word) : Nat := 2 ^ field ctl.toNat 1 0

/-- The checks of a remote write, in order. -/
def rputChecks (a ctl : Word) : List Event :=
  let n := rputBytes ctl
  let reserved := decide (field ctl.toNat 63 16 ≠ 0) || ctl.getLsbD 14 || decide (field ctl.toNat 7 2 ≠ 0)
  firstEvent
    [(reserved, illegalOp 1), (field a.toNat 63 60 != 9 || mustBeZero a.toNat, copyFaultEvent 1 a),
     (decide (2 ^ 21 < field a.toNat 20 0 + n), copyFaultEvent 2 a), (a.toNat % n != 0, misaligned a)]

/-- The count of a tile's cycles before which a remote write to another tile of its pinned die is not delivered: its message takes 28
cycles from its source router, which it leaves after its trigger (R166, log 12). -/
def State.rputReady (s : State) (n : Nat) (a : Word) : Option Word :=
  let t := s.tile n
  let near := t.task.any (fun k =>
    match s.resolve n k a.toNat 0 1 with | .ok (.tile m, _) => decide (m ≠ n) && decide (dieOf m = dieOf n) | _ => false)
  if t.fixed && near then some (t.cycles + 28) else none

/-! ## Fences (R183) -/

/-- The scope that first holds a home: the tile's own store or queues, its die, the module, the domain. -/
def homeScope (n m : Nat) : Nat := if m = n then 0 else if dieOf m = dieOf n then 1 else 2

/-- The scope of an address of class 0x9 or 0xA; one that does not resolve lies in the domain only. -/
def State.addressScope (s : State) (n : Nat) (k : Task) (a : Word) : Nat :=
  match s.resolve n k a.toNat 0 1 with
  | .ok (.tile m, _) => homeScope n m
  | .ok (.kiln d, _) => if d = dieOf n then 1 else 2
  | _ => 3

/-- The scope of a message's receive queue; that of a switched-out task lies on its die. -/
def State.messageScope (s : State) (n : Nat) (k : Task) (a : Word) : Nat :=
  match s.peer k (field a.toNat 55 48) (field a.toNat 41 32) with
  | .ok (some m, _) => homeScope n m
  | .ok (none, _) => 3
  | .error _ =>
    if s.dies.any (fun d => d.1 == dieOf n && d.2.shadow.any (fun x => x.launch == k.launch && x.index == field a.toNat 41 32)) then 1
    else if s.dies.any (fun d => d.2.shadow.any (fun x => x.launch == k.launch && x.index == field a.toNat 41 32)) then 2
    else 3

/-- Some access issued earlier, whose home lies within a scope, has not performed. -/
def State.fencePending (s : State) (n scope : Nat) : Bool :=
  let t := s.tile n
  match t.task with
  | none => false
  | some k =>
    t.kiln.any (fun o => decide (s.addressScope n k o.addr ≤ scope))
      || t.rputs.any (fun r => decide (s.addressScope n k r.addr ≤ scope))
      || t.sends.any (fun m => decide (s.messageScope n k m.dest ≤ scope))

/-! ## Clocks and identities (R346 to R348) -/

def State.clockValue (s : State) (a : Nat) : Word :=
  let t := s.here
  if a = 0 then s.timeBase else if a = 1 then t.icyc else if a = 2 then t.hcyc else t.fcyc

def State.identity (s : State) (a : Nat) : Word :=
  let t := s.here
  let w (x : Nat) : Word := BitVec.ofNat 64 x
  match t.task with
  | none => 0
  | some k =>
    let p := s.part k.part
    let die := logicalDie p (dieOf s.cur)
    if a = 0 then w k.index
    else if a = 1 then w k.total
    else if a = 2 then w (ownRank s p k.job)
    else if a = 3 then w (p.ranks k.job)
    else if a = 4 then w k.job
    else if a = 5 then w die
    else if a = 6 then w (if t.isS then s.cur else k.index)
    else if a = 7 then w (if t.isS then meshX s.cur + 2 ^ 8 * meshY s.cur else die)
    else s.stepping

/-! ## The operations -/

/-- The count of a semaphore, at +2 (R343). -/
def opSySemrd : Operation :=
  { check := fun tr _ => eventsOf [(decide (64 ≤ tr.word.toNat), illegalOp 1)]
    act := fun tr s => sendResult tr 2 0x105 (BitVec.setWidth 64 (s.here.sema (field tr.word.toNat 5 0))) s }

/-- The one-move bundle of SY_SEMRD. -/
def execSySemrd (m : Move) (s : State) : Outcome State Fault Refusal := issueOne "SY_SEMRD" (.sySemrd m) m opSySemrd s
/-- Sets a semaphore to b (R343). -/
def opSySemwr : Operation :=
  { check := fun tr _ => eventsOf [(decide (64 ≤ tr.word.toNat), illegalOp 1)]
    act := fun tr s => s.mapHere (fun t => t.setSema (field tr.word.toNat 5 0) (BitVec.setWidth 32 (t.port 0x115))) }

/-- The one-move bundle of SY_SEMWR. -/
def execSySemwr (m : Move) (s : State) : Outcome State Fault Refusal := issueOne "SY_SEMWR" (.sySemwr m) m opSySemwr s
/-- Adds b to a semaphore (R343). -/
def opSySemadd : Operation :=
  { check := fun tr _ => eventsOf [(decide (64 ≤ tr.word.toNat), illegalOp 1)]
    act := fun tr s => s.mapHere (fun t => t.addSema (field tr.word.toNat 5 0) (BitVec.setWidth 32 (t.port 0x115)).toNat) }

/-- The one-move bundle of SY_SEMADD. -/
def execSySemadd (m : Move) (s : State) : Outcome State Fault Refusal :=
  issueOne "SY_SEMADD" (.sySemadd m) m opSySemadd s
/-- A write of b to another tile's store, folded as it enters the remote-tile queue (R96, R344). -/
def opSyRput : Operation :=
  { check := fun tr s => rputChecks tr.word (s.here.port 0x116)
    act := fun tr s =>
      let ctl := s.here.port 0x116
      let n := rputBytes ctl
      let b := s.here.port 0x115
      let r : Rput := { addr := tr.word, n := n, data := b, ctl := ctl, ready := s.rputReady s.cur tr.word }
      if s.silent then s
      else
        (s.mapHere (fun t => { t with rputs := t.rputs ++ [r] })).fold s.cur (foldWrite tr.word.toNat (toBytes n b.toNat) 0 0) }

/-- The one-move bundle of SY_RPUT. -/
def execSyRput (m : Move) (s : State) : Outcome State Fault Refusal := issueOne "SY_RPUT" (.syRput m) m opSyRput s
/-- The bundle issues once every earlier remote write has performed (R182, R184). -/
def opSyDrain : Operation :=
  { hold := fun tr s => if s.here.rputs.isEmpty then [] else [{ row := 7, timeout := s.here.port 0x116, bus := tr.bus }] }

/-- The one-move bundle of SY_DRAIN. -/
def execSyDrain (m : Move) (s : State) : Outcome State Fault Refusal := issueOne "SY_DRAIN" (.syDrain m) m opSyDrain s
/-- The bundle issues once every earlier access within the scope has performed (R183, R184). -/
def opSyFence : Operation :=
  { check := fun tr _ => eventsOf [(decide (3 < tr.word.toNat), illegalOp 7)]
    hold := fun tr s =>
      if s.fencePending s.cur tr.word.toNat then [{ row := 7, timeout := s.here.port 0x116, bus := tr.bus }] else [] }

/-- The one-move bundle of SY_FENCE. -/
def execSyFence (m : Move) (s : State) : Outcome State Fault Refusal := issueOne "SY_FENCE" (.syFence m) m opSyFence s
/-- The time base or a counter, at +2 (R346, R348). -/
def opSyClk : Operation :=
  { check := fun tr _ => eventsOf [(decide (3 < tr.word.toNat), illegalOp 1)]
    act := fun tr s =>
      if s.here.deterministic then sendResult tr 2 0x105 0 s.markRead
      else sendResult tr 2 0x105 (s.clockValue tr.word.toNat) s }

/-- The one-move bundle of SY_CLK. -/
def execSyClk (m : Move) (s : State) : Outcome State Fault Refusal := issueOne "SY_CLK" (.syClk m) m opSyClk s
/-- An identity, at +2 (R347, R348). -/
def opSyIdn : Operation :=
  { check := fun tr _ => eventsOf [(decide (8 < tr.word.toNat), illegalOp 1)]
    act := fun tr s =>
      if s.here.deterministic && (tr.word == 5 || tr.word == 7) then sendResult tr 2 0x105 0 s.markRead
      else sendResult tr 2 0x105 (s.identity tr.word.toNat) s }

/-- The one-move bundle of SY_IDN. -/
def execSyIdn (m : Move) (s : State) : Outcome State Fault Refusal := issueOne "SY_IDN" (.syIdn m) m opSyIdn s
end Sys2Proof.Machine
end

