-- ==== Sys2Proof/Machine/VectorMem.lean ====
section
/-! DEFINITION. Vector memory, cross-cluster copies and function evaluation: vm, vx and vf (R365 to R369). -/

namespace Sys2Proof.Machine

open Host (Outcome)

/-! ## vm -/

/-- How the offsets of the lanes are formed (R365). -/
inductive Pattern where
  | contiguous
  | strided
  | gathered
  deriving DecidableEq, Repr

/-- The offsets of the sixteen lanes from a vector of them (R365). -/
def laneOffsets (p : Pattern) (v : Vec) : List Lane :=
  (upFrom 0 16).map (fun l =>
    match p with
    | .contiguous => lane v 0 + BitVec.ofNat 32 (4 * l)
    | .strided => lane v 0 + BitVec.ofNat 32 l * lane v 1
    | .gathered => lane v l)

/-- The checks of R366 in one cluster. -/
def offsetChecks (os : List Lane) : List Event :=
  let bad (f : Nat → Bool) := os.filter (fun o => f o.toNat)
  let info (xs : List Lane) : Word := BitVec.setWidth 64 (xs.headD 0)
  let past := bad (fun o => decide (0x1FFFFC < o))
  let odd := bad (fun o => decide (o % 4 ≠ 0))
  firstEvent [(!past.isEmpty, { code := .tileStoreBounds, info := info past }), (!odd.isEmpty, misaligned (info odd))]

/-- A vm load: offsets from the trigger value, performs at +2, arrives at +6 (R365, R367). -/
def vectorLoad (p : Pattern) : Operation where
  check tr _ := tr.checks (fun _ v _ => offsetChecks (laneOffsets p v))
  touch tr _ := tr.value.parts.flatMap (fun x => (laneOffsets p x.2.1).map (fun o => (o.toNat, 4)))
  act tr s :=
    tr.each (fun c v lanes s => s.mapHere (fun t =>
      t.launchFlight { tr.flight 6 (some 2) (.gather (laneOffsets p v) lanes) with clus := c })) s

/-- A vm store: data from the trigger value, offsets from vm.o, performs at +2 (R365, R367). -/
def vectorStore (p : Pattern) : Operation where
  check tr s := tr.checks (fun c _ _ => offsetChecks (laneOffsets p (s.here.vport c 0x110)))
  touch tr s := tr.value.parts.flatMap (fun x => (laneOffsets p (s.here.vport x.1 0x110)).map (fun o => (o.toNat, 4)))
  act tr s :=
    tr.each (fun c v lanes s => s.mapHere (fun t =>
      t.launchFlight { tr.flight 2 (some 2) (.scatter (laneOffsets p (t.vport c 0x110)) lanes v) with clus := c })) s

/-- Contiguous load (R365). -/
def opVmLd : Operation := vectorLoad .contiguous

/-- The one-move bundle of VM_LD. -/
def execVmLd (m : Move) (s : State) : Outcome State Fault Refusal := issueOne "VM_LD" (.vmLd m) m opVmLd s
/-- Strided load (R365). -/
def opVmLds : Operation := vectorLoad .strided

/-- The one-move bundle of VM_LDS. -/
def execVmLds (m : Move) (s : State) : Outcome State Fault Refusal := issueOne "VM_LDS" (.vmLds m) m opVmLds s
/-- Gather (R365). -/
def opVmLdg : Operation := vectorLoad .gathered

/-- The one-move bundle of VM_LDG. -/
def execVmLdg (m : Move) (s : State) : Outcome State Fault Refusal := issueOne "VM_LDG" (.vmLdg m) m opVmLdg s
/-- Contiguous store (R365). -/
def opVmSt : Operation := vectorStore .contiguous

/-- The one-move bundle of VM_ST. -/
def execVmSt (m : Move) (s : State) : Outcome State Fault Refusal := issueOne "VM_ST" (.vmSt m) m opVmSt s
/-- Strided store (R365). -/
def opVmSts : Operation := vectorStore .strided

/-- The one-move bundle of VM_STS. -/
def execVmSts (m : Move) (s : State) : Outcome State Fault Refusal := issueOne "VM_STS" (.vmSts m) m opVmSts s
/-- Scatter (R365). -/
def opVmSct : Operation := vectorStore .gathered

/-- The one-move bundle of VM_SCT. -/
def execVmSct (m : Move) (s : State) : Outcome State Fault Refusal := issueOne "VM_SCT" (.vmSct m) m opVmSct s
/-! ## vx -/

/-- A cross-cluster copy of the vx value of the cluster that a function of c and d names (R368). -/
def crossCopy (source : Nat → Nat → Nat) : Operation where
  act tr s :=
    tr.each (fun c _ lanes s =>
      let d := (lane (s.here.vport c 0x114) 0).toNat % 8
      sendVector tr c 4 0x105 lanes (mget 0 tr.carried (source c d)) s) s

/-- The vx value of cluster (c − d) mod 8 (R368). -/
def opVxXrot : Operation := crossCopy (fun c d => (c + 8 - d) % 8)

/-- The one-move bundle of VX_XROT. -/
def execVxXrot (m : Move) (s : State) : Outcome State Fault Refusal := issueOne "VX_XROT" (.vxXrot m) m opVxXrot s
/-- The vx value of cluster d (R368). -/
def opVxXbc : Operation := crossCopy (fun _ d => d)

/-- The one-move bundle of VX_XBC. -/
def execVxXbc (m : Move) (s : State) : Outcome State Fault Refusal := issueOne "VX_XBC" (.vxXbc m) m opVxXbc s
/-! ## vf -/

/-- The result of a function evaluation: under a valid table feval, else NaR in the widths of R369. -/
def evaluate (coeff : Memory) (h : Nat) (v : Vec) : Vec :=
  if h % 16 ≠ 0 ∨ 16384 < h + 16 then splat 0x80000000
  else
    let t := tableHeader (ofBytes (readBytes coeff h 16))
    if !fmtValid t.ifmt || !fmtValid t.ofmt then splat 0x80000000
    else
      mapElements (fmtWidth t.ifmt) (fmtWidth t.ofmt) false
        (fun x => if tableValid t then feval x t coeff else narOf (fmtWidth t.ofmt)) v

/-- Function evaluation (R369). -/
def opVfFeval : Operation :=
  { act := fun tr s =>
      tr.each (fun c v lanes s =>
        sendVector tr c 9 0x106 lanes (evaluate (s.here.cluster c).coeff (lane (s.here.vport c 0x118) 0).toNat v) s) s }

/-- The one-move bundle of VF_FEVAL. -/
def execVfFeval (m : Move) (s : State) : Outcome State Fault Refusal := issueOne "VF_FEVAL" (.vfFeval m) m opVfFeval s
end Sys2Proof.Machine
end

