-- ==== Sys2Proof/Machine/Bundles.lean ====
section
/-! DEFINITION. The operation of every trigger, and the cycle of a tile with the bundle that its code holds (R190, R191,
R276 to R279). -/

namespace Sys2Proof.Machine

open Host (Outcome)

/-- The operation a trigger starts; none for a step that is no trigger. -/
def operationOf : Instr → Option Operation
  | .saAdd _ u => some (opSaAdd u)
  | .saSub _ u => some (opSaSub u)
  | .saAnd _ u => some (opSaAnd u)
  | .saOr _ u => some (opSaOr u)
  | .saXor _ u => some (opSaXor u)
  | .saAndn _ u => some (opSaAndn u)
  | .saOrn _ u => some (opSaOrn u)
  | .saXnor _ u => some (opSaXnor u)
  | .saSll _ u => some (opSaSll u)
  | .saSrl _ u => some (opSaSrl u)
  | .saSra _ u => some (opSaSra u)
  | .saRor _ u => some (opSaRor u)
  | .saMin _ u => some (opSaMin u)
  | .saMax _ u => some (opSaMax u)
  | .saMinu _ u => some (opSaMinu u)
  | .saMaxu _ u => some (opSaMaxu u)
  | .saCeq _ u => some (opSaCeq u)
  | .saCne _ u => some (opSaCne u)
  | .saClt _ u => some (opSaClt u)
  | .saCle _ u => some (opSaCle u)
  | .saCltu _ u => some (opSaCltu u)
  | .saCleu _ u => some (opSaCleu u)
  | .saCtst _ u => some (opSaCtst u)
  | .saSel _ u => some (opSaSel u)
  | .saBext _ u => some (opSaBext u)
  | .saBexts _ u => some (opSaBexts u)
  | .saBins _ u => some (opSaBins u)
  | .saPopc _ u => some (opSaPopc u)
  | .saClz _ u => some (opSaClz u)
  | .saCtz _ u => some (opSaCtz u)
  | .saAddsh _ u => some (opSaAddsh u)
  | .saMov _ u => some (opSaMov u)
  | .smMul _ => some opSmMul
  | .smMulh _ => some opSmMulh
  | .smMulhu _ => some opSmMulhu
  | .smMulw _ => some opSmMulw
  | .smDiv _ => some opSmDiv
  | .smDivu _ => some opSmDivu
  | .smRem _ => some opSmRem
  | .smRemu _ => some opSmRemu
  | .lsLd8 _ => some opLsLd8
  | .lsLd8s _ => some opLsLd8s
  | .lsLd16 _ => some opLsLd16
  | .lsLd16s _ => some opLsLd16s
  | .lsLd32 _ => some opLsLd32
  | .lsLd32s _ => some opLsLd32s
  | .lsLd64 _ => some opLsLd64
  | .lsSt8 _ => some opLsSt8
  | .lsSt16 _ => some opLsSt16
  | .lsSt32 _ => some opLsSt32
  | .lsSt64 _ => some opLsSt64
  | .ctlJmp _ => some opCtlJmp
  | .ctlCall _ => some opCtlCall
  | .ctlRet _ => some opCtlRet
  | .ctlLoop _ => some opCtlLoop
  | .ctlPref _ => some opCtlPref
  | .ctlEnd _ => some opCtlEnd
  | .ctlTrap _ => some opCtlTrap
  | .ctlRfe _ => some opCtlRfe
  | .ctlWait _ => some opCtlWait
  | .ctlSpawn _ => some opCtlSpawn
  | .ctlPost _ => some opCtlPost
  | .ctlRsr _ => some opCtlRsr
  | .ctlWsr _ => some opCtlWsr
  | .sySemrd _ => some opSySemrd
  | .sySemwr _ => some opSySemwr
  | .sySemadd _ => some opSySemadd
  | .syRput _ => some opSyRput
  | .syDrain _ => some opSyDrain
  | .syFence _ => some opSyFence
  | .syClk _ => some opSyClk
  | .syIdn _ => some opSyIdn
  | .cpDefs _ => some opCpDefs
  | .cpCancel _ => some opCpCancel
  | .cpMap _ => some opCpMap
  | .cpGo _ n => some (opCpGo n)
  | .mxMma _ => some opMxMma
  | .mxMmd _ => some opMxMmd
  | .mxMdrn _ => some opMxMdrn
  | .mxMclr _ => some opMxMclr
  | .mxMsave _ => some opMxMsave
  | .mxMload _ => some opMxMload
  | .knAdd _ => some opKnAdd
  | .knMin _ => some opKnMin
  | .knMinu _ => some opKnMinu
  | .knMax _ => some opKnMax
  | .knMaxu _ => some opKnMaxu
  | .knAnd _ => some opKnAnd
  | .knOr _ => some opKnOr
  | .knXor _ => some opKnXor
  | .knSwap _ => some opKnSwap
  | .knCas _ => some opKnCas
  | .knTick _ => some opKnTick
  | .knPadd _ => some opKnPadd
  | .knQadd _ => some opKnQadd
  | .knUpd _ => some opKnUpd
  | .knLd _ => some opKnLd
  | .knSt _ => some opKnSt
  | .lkSend _ => some opLkSend
  | .lkRecv _ => some opLkRecv
  | .lkProbe _ => some opLkProbe
  | .lkPeek _ => some opLkPeek
  | .vaAddb _ => some opVaAddb
  | .vaAddh _ => some opVaAddh
  | .vaAddw _ => some opVaAddw
  | .vaSubb _ => some opVaSubb
  | .vaSubh _ => some opVaSubh
  | .vaSubw _ => some opVaSubw
  | .vaMinb _ => some opVaMinb
  | .vaMinh _ => some opVaMinh
  | .vaMinw _ => some opVaMinw
  | .vaMaxb _ => some opVaMaxb
  | .vaMaxh _ => some opVaMaxh
  | .vaMaxw _ => some opVaMaxw
  | .vaCeqb _ => some opVaCeqb
  | .vaCeqh _ => some opVaCeqh
  | .vaCeqw _ => some opVaCeqw
  | .vaCltb _ => some opVaCltb
  | .vaClth _ => some opVaClth
  | .vaCltw _ => some opVaCltw
  | .vaAnd _ => some opVaAnd
  | .vaOr _ => some opVaOr
  | .vaXor _ => some opVaXor
  | .vaAndn _ => some opVaAndn
  | .vaSllw _ => some opVaSllw
  | .vaSrlw _ => some opVaSrlw
  | .vaSraw _ => some opVaSraw
  | .vaSel _ => some opVaSel
  | .vaClmul _ => some opVaClmul
  | .vaXscan _ => some opVaXscan
  | .vaAscan _ => some opVaAscan
  | .vaPerm _ => some opVaPerm
  | .vaRsum _ => some opVaRsum
  | .vaRxor _ => some opVaRxor
  | .vaRmax _ => some opVaRmax
  | .vaRany _ => some opVaRany
  | .vpPadd _ => some opVpPadd
  | .vpPsub _ => some opVpPsub
  | .vpPmul _ => some opVpPmul
  | .vpPfma _ => some opVpPfma
  | .vpPfms _ => some opVpPfms
  | .vpPmin _ => some opVpPmin
  | .vpPmax _ => some opVpPmax
  | .vpPabs _ => some opVpPabs
  | .vpPneg _ => some opVpPneg
  | .vpPceq _ => some opVpPceq
  | .vpPclt _ => some opVpPclt
  | .vpPcle _ => some opVpPcle
  | .vqQclr0 _ => some opVqQclr0
  | .vqQmac0 _ => some opVqQmac0
  | .vqQadd0 _ => some opVqQadd0
  | .vqQsub0 _ => some opVqQsub0
  | .vqQrnd0 _ => some opVqQrnd0
  | .vqQsav0 _ => some opVqQsav0
  | .vqQld0 _ => some opVqQld0
  | .vqQxadd0 _ => some opVqQxadd0
  | .vqQred0 _ => some opVqQred0
  | .vqQovf0 _ => some opVqQovf0
  | .vqQclr1 _ => some opVqQclr1
  | .vqQmac1 _ => some opVqQmac1
  | .vqQadd1 _ => some opVqQadd1
  | .vqQsub1 _ => some opVqQsub1
  | .vqQrnd1 _ => some opVqQrnd1
  | .vqQsav1 _ => some opVqQsav1
  | .vqQld1 _ => some opVqQld1
  | .vqQxadd1 _ => some opVqQxadd1
  | .vqQred1 _ => some opVqQred1
  | .vqQovf1 _ => some opVqQovf1
  | .vcCvt _ => some opVcCvt
  | .vcCvth _ => some opVcCvth
  | .vcCvi _ => some opVcCvi
  | .vcCvih _ => some opVcCvih
  | .vcCvo _ => some opVcCvo
  | .vcMxsc _ => some opVcMxsc
  | .vcQuan _ => some opVcQuan
  | .vcDequ _ => some opVcDequ
  | .vmLd _ => some opVmLd
  | .vmLds _ => some opVmLds
  | .vmLdg _ => some opVmLdg
  | .vmSt _ => some opVmSt
  | .vmSts _ => some opVmSts
  | .vmSct _ => some opVmSct
  | .vxXrot _ => some opVxXrot
  | .vxXbc _ => some opVxXbc
  | .vfFeval _ => some opVfFeval
  | .moduleStart _ => none
  | .coldPowerCycle _ => none
  | .edgeDown _ => none
  | .flitReceive _ _ => none
  | .ackOnlyFlit _ => none
  | .portRetrain _ _ => none
  | .routeSwitch _ _ _ => none
  | .thermalCeilingLower _ => none
  | .thermalDispatchStop _ => none
  | .thermalForceStop _ => none
  | .droopStretch _ _ => none
  | .emergencyDroopStretch _ _ => none
  | .memoryScrub _ _ _ => none
  | .stopTimeout _ => none
  | .snapshotLatch => none
  | .launchReady _ _ => none
  | .taskDispatch _ _ => none
  | .fabricClockUnpin _ => none
  | .gangStart _ _ => none
  | .taskRetire _ => none
  | .checkpointTakeEffect _ _ => none
  | .logReplay _ _ => none
  | .copyStart _ _ => none
  | .chunkLanded _ _ _ => none
  | .remoteWritePerform _ _ => none
  | .linkMessageArrive _ _ => none
  | .linkResend _ _ => none
  | .kilnOperationPerform _ _ => none
  | .knResultReturn _ => none
  | .mxCommandStart _ => none
  | .mxCommandRetire _ => none
  | .bundleIssue _ => none
  | .codeFillComplete _ _ => none
  | .resultArrival _ => none
  | .tileStorePerform _ => none
  | .copyFault _ => none
  | .poisonConsumed _ => none
  | .waitTimeout _ => none
  | .userCompletion _ => none
  | .preemption _ => none
  | .taskResume _ _ _ _ => none
  | .sysregWrite _ _ => none
  | .tlbiPage _ => none
  | .tlbiPartition _ => none
  | .tlbiComplete _ => none
  | .jobctlSelect _ => none
  | .jobctlRollback _ => none
  | .jobctlFail _ => none
  | .karmWrite _ => none
  | .semarmWrite _ => none
  | .ctxdatWrite _ => none
  | .rankdatWrite _ => none
  | .xwinWrite _ => none
  | .move _ _ => none
  | .filler => none
  | .effectivePriorityRise _ => none
  | .duplicateRequest => none
  | .unassignedType => none
  | .info => none
  | .recordClear => none
  | .powerCap => none
  | .firmwareImage => none
  | .partCreate => none
  | .partDestroy => none
  | .monitorLoad => none
  | .keyInstall => none
  | .keyClear => none
  | .partConfigRead => none
  | .partConfigReplace => none
  | .partConfigAppend => none
  | .memWrite => none
  | .memRead => none
  | .memWriteRaw => none
  | .memReadRaw => none
  | .kilnRead => none
  | .kilnWrite => none
  | .chainPost => none
  | .stop => none
  | .forceStop => none
  | .resume => none
  | .dirtyScan => none
  | .stateExport => none
  | .stateImport => none
  | .attest => none
  | .errorRead => none
  | .snapshotTrigger => none
  | .snapshotArm => none
  | .snapshotRead => none

/-! ## The code a tile fetches -/

/-- The slot of a decoded item; the filler has none. -/
def slotOf : Item → Option Slot
  | .reserved m d => some { move := m, code := d, op := none }
  | .op i => i.parts.map (fun x => { move := x.1, code := x.2, op := operationOf i })

/-- What the sequencer finds at pc (R190 to R192, R287). An illegal word among the resident ones is found at once, also when the bundle would run
on into a line that is missing or failed to fill (DESIGN CHOICE, log 77). -/
def fetchCode (s : State) : Fetched :=
  let t := s.here
  let (ws, next) := t.codeAt
  match (if ws.isEmpty then none else decodeBundle t.inUse ws) with
  | some (.ok b) => .ready (b.items.filterMap (fun x => slotOf x.2)) b.words
  | some (.error i) => .illegal i.info i.bus
  | none =>
    match t.fillFault with
    | some (line, e) => if line = next then .failed e else .missing [next]
    | none => .missing [next]

/-- A tile whose task waits for lines of other modules before it starts (R334, R411). -/
def Tile.starting (t : Tile) : Bool := match t.phase with | .spawning _ _ => true | .rebinding => true | _ => false

/-- The start of the current tile's task tried again. -/
def State.startAgain (s : State) : Attempt :=
  match s.here.phase, s.here.task with
  | .spawning entry window, some k => s.attempt (.task s.cur) (fun s => s.beginSpawned s.cur k entry window)
  | .rebinding, _ => s.attempt (.task s.cur) (fun s => (s.mapHere (fun t => { t with phase := .running })).rebindNow s.cur)
  | _, _ => .early

/-- BUNDLE_ISSUE (R191): a cycle of a tile with the bundle at its pc; a tile whose task has still to start tries again. -/
def execBundleIssue (tile : Nat) (s : State) : Outcome State Fault Refusal :=
  if 1024 ≤ tile then .fault (.absent "tile")
  else if (s.tile tile).starting then
    match ({ s with cur := tile } : State).startAgain with
    | .made t => .next t
    | .asked t => .next t
    | .early => .refused (.notDue "BUNDLE_ISSUE")
  else cycle "BUNDLE_ISSUE" fetchCode { s with cur := tile }

/-- The one-move bundle of a move that triggers nothing (R279). -/
def execMove (m : Move) (d : Dest) (s : State) : Outcome State Fault Refusal :=
  cycle "MOVE" (fun _ => .ready [{ move := m, code := d.code, op := none }] (wordCount m)) s

/-- The filler bundle (R277). -/
def execFiller (s : State) : Outcome State Fault Refusal := cycle "FILLER" (fun _ => .ready [] 1) s

/-! ## Between the happenings -/

/-- Whether the current tile has a cycle: it can issue, or an event waits for a tile whose task has ended, in a partition that runs (R53,
R242). -/
def State.canCycle (s : State) : Bool :=
  s.here.canIssue || (s.here.phase == .ended && (s.part s.here.part).state != .stopped && !s.here.alarms.isEmpty)

/-- The current tile's cycle; with none to have, or while its task waits for other modules, one count of the time base passes (log 12). -/
def tileCycle (s : State) : Outcome State Fault Refusal :=
  if s.canCycle && decide (s.cur < 1024) then execBundleIssue s.cur s
  else if s.here.starting && decide (s.cur < 1024) then
    match s.startAgain with
    | .made t => .next t
    | .asked t => .next t
    | .early => .next { s with timeBase := s.timeBase + 1 }
  else .next { s with timeBase := s.timeBase + 1 }

/-- A happening of the agenda comes: its counts of the time base pass and its message, if any, stands at the control port
(log 3). -/
def arrive (h : Happening) (s : State) : State :=
  { s with
    timeBase := s.timeBase + BitVec.ofNat 64 h.wait
    control := match h.message with | some m => { s.control with arrived := m } | none => s.control }

/-! ## An instruction placed for the next step (log 2) -/

/-- A move word that ends the bundle of a word with E = 0 and performs nothing: a tile move that p1 suppresses, or a fan
move with every lane off, on a bus above the word's. -/
def closingWord (w : Nat) : Nat :=
  let d := if field w 9 0 = 8 then 9 else 8
  2 ^ 31 + 2 ^ 20 + d + 2 ^ 25 * (if field w 30 25 < 39 then 39 else 43)

/-- The words of an instruction whose bits are w, with a closing word when it does not end its bundle. -/
def placedWords (nbits w : Nat) : List Lane :=
  let x := w % 2 ^ nbits
  (wordsOf (toBytes 8 x)).take (if hasLong (x % 2 ^ 32) then 2 else 1)
    ++ (if bit x 31 then [] else [BitVec.ofNat 32 (closingWord (x % 2 ^ 32))])

/-- A tile that runs a task of partition 0 whose first bundle is given, from address 0 of its code heap. -/
def Tile.loaded (t : Tile) (code : List Lane) : Tile :=
  let task : Task :=
    { part := 0, launch := 0, job := 0, index := 0, total := 1, clock := 0, determ := false, serial := false,
      work := .dispatched, start := [], object := 0, codeBase := 0, codeLen := 256, handler := none, clusters := 0xFF,
      foot := [], footEng := 0, spill := [], stub := none, began := 0, order := 0 }
  { t.fillLine { line := 0, part := 0, pinned := false, data := code ++ List.replicate (64 - code.length) 0 } with
    phase := .running, task := some task, pc := 0, level := .task, p := 0, units := { t.units with flights := [] }, quires := [],
    alarms := [], done := [], matrix := { t.matrix with preempt := false } }

end Sys2Proof.Machine
end

