-- ==== Sys2Proof/Machine/Requests.lean ====
section
/-! DEFINITION. Requests of the control node: their header, their acceptance, and the responses (R40 to R45). -/

namespace Sys2Proof

open Machine (field)

/-! ## The header (R40) -/

def Message.get (m : Message) (hi lo : Nat) : Nat := field m.header.toNat hi lo
def Message.type (m : Message) : Nat := m.get 7 0
def Message.part (m : Message) : Nat := m.get 23 16
def Message.seq (m : Message) : Lane := BitVec.extractLsb' 64 32 m.header
def Message.len (m : Message) : Nat := m.get 127 96
def Message.resp (m : Message) : Bool := m.header.getLsbD 40
def Message.force (m : Message) : Bool := m.header.getLsbD 41
def Message.hold (m : Message) : Bool := m.header.getLsbD 42

/-- A non-zero reserved header field. A STATUS that is not 0 in a request, and HOLD or FORCE set for a type that does not use it, are taken as
zero (DESIGN CHOICE, log 75: R40 states no fate of such a request). -/
def Message.reserved (m : Message) : Bool :=
  decide (m.get 63 43 ≠ 0) || decide (m.get 31 24 ≠ 0) || decide (m.get 15 8 ≠ 0)

/-- PART names no partition. -/
def Message.isModule (m : Message) : Bool := m.part == 0xFF

end Sys2Proof

namespace Sys2Proof.Machine

/-- The status codes (R43). -/
inductive Status where
  | ok
  | badType
  | badPart
  | badState
  | badArg
  | busy
  | timeout
  | denied
  | fault
  | auth
  deriving DecidableEq, Repr

def Status.number : Status → Nat
  | .ok => 0
  | .badType => 1
  | .badPart => 2
  | .badState => 3
  | .badArg => 4
  | .busy => 5
  | .timeout => 6
  | .denied => 7
  | .fault => 8
  | .auth => 9

/-- The response to a request: its header with RESP set, STATUS filled in and LEN that of the response's payload. -/
def responseTo (h : BitVec 128) (st : Status) (payload : List Byte) : Response :=
  let x := h.toNat
  { header := BitVec.ofNat 128 (field x 31 0 + st.number * 2 ^ 32 + 2 ^ 40 + field x 95 41 * 2 ^ 41 + payload.length * 2 ^ 96)
    payload := payload }

/-- A response is sent, once for the request and once for each duplicate that waits, and kept (R41). -/
def Control.respond (c : Control) (h : BitVec 128) (st : Status) (payload : List Byte) : Control :=
  let r := responseTo h st payload
  let seq : Lane := BitVec.extractLsb' 64 32 h
  { c with
    kept := c.kept.map (fun k => if k.1 = seq ∧ k.2.isNone then (k.1, some r) else k)
    again := c.again.filter (fun x => x != seq)
    sent := c.sent ++ List.replicate (1 + (c.again.filter (fun x => x == seq)).length) r }

def State.respond (s : State) (h : BitVec 128) (st : Status) (payload : List Byte) : State :=
  { s with control := s.control.respond h st payload }

/-! ## Acceptance (R41, R42) -/

/-- A request that is one of the last 1,024 accepted. -/
def Control.isDuplicate (c : Control) (m : Message) : Bool := c.kept.any (fun k => k.1 == m.seq)

/-- A request whose SEQ is the next expected. -/
def Control.isNext (c : Control) (m : Message) : Bool := match c.next with | some n => n == m.seq | none => true

/-- A request accepted, not yet answered. -/
def Control.accept (c : Control) (m : Message) : Control :=
  let ks := c.kept ++ [(m.seq, none)]
  { c with next := some (m.seq + 1), kept := ks.drop (ks.length - 1024) }

/-- A partition with a request that has not completed: a STOP or a FORCE_STOP. -/
def Partition.busy (p : Partition) : Bool := p.stopping.isSome || p.forced.isSome

/-- A request that has to wait for earlier ones, given those that wait before it (R42). -/
def State.mustWait (s : State) (m : Message) (before : List Message) : Bool :=
  if m.isModule then s.parts.any (fun p => p.2.busy) || !before.isEmpty
  else (s.part m.part).busy || before.any (fun x => x.isModule || x.part == m.part)

/-! ## Payloads (R45) -/

/-- The little-endian field of n bytes at an offset. -/
def le (bs : List Byte) (off n : Nat) : Nat := ofBytes ((bs.drop off).take n)

/-- Reserved bytes that are not zero. -/
def dirty (bs : List Byte) (off n : Nat) : Bool := ((bs.drop off).take n).any (fun b => b != 0)

/-- What a request's execution gives: its answer, none while it has not completed, and the state. -/
abbrev Reply := Option (Status × List Byte) × State

def deny (st : Status) (s : State) : Reply := (some (st, []), s)
def done (s : State) : Reply := (some (.ok, []), s)
/-- FAULT with the first failing address. -/
def faulted (a : Nat) (s : State) : Reply := (some (.fault, toBytes 8 a), s)

/-- The first status whose condition holds, else what follows. -/
def guarded (cs : List (Bool × Status)) (s : State) (k : State → Reply) : Reply :=
  match cs.find? Prod.fst with
  | some c => deny c.2 s
  | none => k s

end Sys2Proof.Machine
end

