-- ==== Sys2Proof/Machine/PartitionPort.lean ====
section
/-! DEFINITION. Requests that make, load, configure and destroy partitions and fill their key slots (R35, R46, R49 to R54,
R57, R59, R61, R62, R450). -/

namespace Sys2Proof.Machine

/-! ## Creation (R35, R49) -/

/-- The die edges that a message from die a to die b crosses: along X first, then along Y (R14, R15). -/
def routeEdges (a b : Nat) : List Nat :=
  let ax := a % 4
  let ay := a / 4
  let bx := b % 4
  let b_y := b / 4
  (upFrom (min ax bx) (max ax bx - min ax bx)).map (fun x => ay * 3 + x)
    ++ (upFrom (min ay b_y) (max ay b_y - min ay b_y)).map (fun y => 12 + y * 4 + bx)

/-- Two dies whose route crosses a down edge one way or the other (R35). -/
def apart (h : Health) (a b : Nat) : Bool := (routeEdges a b ++ routeEdges b a).any (edgeDown h)

/-- The pairs of available dies that no partition may hold together, lower number first (R35). -/
def apartPairs (h : Health) : List (Nat × Nat) :=
  (upFrom 0 16).flatMap (fun a => ((upFrom 0 16).filter (fun b =>
    decide (a < b) && dieAvailable h a && dieAvailable h b && apart h a b)).map (fun b => (a, b)))

/-- A die that a partition other than n owns. -/
def State.ownedByOther (s : State) (n d : Nat) : Bool := s.parts.any (fun p => p.1 != n && p.2.dies.getLsbD d)

/-- A key range that includes slot 0, passes slot 4,095 or overlaps another partition's (R49). -/
def State.badKeys (s : State) (n base count : Nat) : Bool :=
  count != 0
    && (base == 0 || decide (4096 < base + count)
      || s.parts.any (fun p => p.1 != n && p.2.keyCount != 0
          && decide (base < p.2.keyBase + p.2.keyCount) && decide (p.2.keyBase < base + count)))

/-- PART_CREATE (R49). -/
def partCreateReply (m : Message) (s : State) : Reply :=
  let b := m.payload
  let mask := le b 0 2
  let dies := (upFrom 0 16).filter (fun d => mask.testBit d)
  let sealed_ := bit (le b 2 1) 0
  guarded
    [(m.len != 16 || decide (2 ≤ le b 2 1) || dirty b 3 1 || (!sealed_ && le b 8 8 != 0) || decide (2 ^ 55 ≤ le b 8 8), .badArg),
     (mask == 0 || dies.any (fun d => !dieAvailable s.health d || s.ownedByOther m.part d), .badArg),
     ((apartPairs s.health).any (fun x => mask.testBit x.1 && mask.testBit x.2), .badArg),
     (s.badKeys m.part (le b 4 2) (le b 6 2) || (s.health.noKeys && le b 6 2 != 0), .badArg)] s
    (fun s => done (s.setPart m.part
      { state := .created, dies := BitVec.ofNat 16 mask, sealed_ := sealed_, xwin := BitVec.ofNat 64 (le b 8 8)
        keyBase := le b 4 2, keyCount := le b 6 2 }))

/-! ## Destruction (R54) -/

/-- A line of memory that the dies of a mask own (R50). -/
def ownedLine (h : Health) (dies : BitVec 16) (line : Nat) : Bool := dies.getLsbD (ownerDie h (64 * line))

/-- The slots of a key range emptied. -/
def emptySlots (keys : SMap (BitVec 512)) (base count : Nat) : SMap (BitVec 512) :=
  keys.filter (fun k => !(decide (base ≤ k.1) && decide (k.1 < base + count)))

/-- Everything of a set of dies zeroed under grade S: tile stores, code stores, kiln, shadow store and memory. -/
def State.zeroDies (s : State) (dies : BitVec 16) : State :=
  let keep (line : Nat) : Bool := !ownedLine s.health dies line
  { s with
    tiles := s.tiles.filter (fun t => !dies.getLsbD (dieOf t.1))
    dies := s.dies.map (fun d =>
      (d.1, if dies.getLsbD d.1 then { d.2 with kiln := [], badWords := [], cache := [], shadow := [] } else d.2))
    memory := s.memory.filter (fun c => keep (c.1 / 64))
    glaze := s.glaze.filter (fun g => keep g.1)
    badLines := s.badLines.filter keep
    grades := s.grades.filter (fun g => keep g.1) }

/-- The domain number is released with the last configuration (R450). -/
def State.releaseDomain (s : State) : State :=
  if s.parts.any (fun p => p.2.config.self.isSome || p.2.staged.isSome) then s else { s with domain := none }

/-- PART_DESTROY (R54). -/
def partDestroyReply (m : Message) (s : State) : Reply :=
  let p := s.part m.part
  guarded [(m.len != 0, .badArg)] s
    (fun s =>
      let s1 := s.zeroDies p.dies
      let s2 : State :=
        { s1 with keys := emptySlots s1.keys p.keyBase p.keyCount, causes := s1.causes.filter (fun c => c.part != m.part)
                  answers := s1.answers.filter (fun x => x.flit.part != m.part)
                  awaited := s1.awaited.filter (fun q => q.part != m.part) }
      done (s2.setPart m.part {}).releaseDomain)

/-! ## Configuration taking effect (R27, R57, R450) -/

/-- A route as a new configuration begins to use it: what its predecessor for the same module and class holds back goes
with it, and a route over a port that is not up is held. -/
def State.beginRoute (s : State) (old : List Route) (r : Route) : Route :=
  match old.find? (fun x => x.dst == r.dst && x.cls == r.cls) with
  | some x =>
    if x.port = r.port then { r with held := x.held, waiting := x.waiting, owed := x.owed }
    else { r with held := !s.portUp r.port, waiting := x.waiting }
  | none => { r with held := !s.portUp r.port }

/-- Flits that wait on a route which is not held leave. -/
def State.flushRoute (s : State) (r : Route) : State :=
  if r.held then s else s.setPort r.port (r.waiting.foldl (fun p f => p.push s.sourceModule s.timeBase f) (s.port r.port))

/-- The configuration written last takes effect as the partition begins to run. -/
def State.activate (s : State) (n : Nat) : State :=
  let p := s.part n
  match p.staged with
  | none => s
  | some c =>
    let rs := c.routes.map (s.beginRoute p.config.routes)
    let s1 := rs.foldl State.flushRoute { s with domain := if s.domain.isNone then c.self else s.domain }
    let kept := rs.map (fun r => if r.held then r else { r with waiting := [] })
    s1.setPart n { p with config := { c with routes := kept }, staged := none }

/-! ## The monitor (R46, R52) -/

/-- The monitor instance that MONITOR_LOAD or RESUME starts, on the first tile of the partition's lowest die. -/
def State.startMonitor (s : State) (n : Nat) : State :=
  let p := s.part n
  match (workingTiles s.health (p.dieList.headD 0)).head? with
  | none => s
  | some t =>
    let k : Task :=
      { part := n, launch := 0, job := 0, index := 0, total := 1, clock := 0, determ := false, serial := false, work := .monitor
        start := [], object := p.mbase.toNat, codeBase := 0, codeLen := 0, handler := none, clusters := 0, foot := [], footEng := 0
        spill := [], stub := none, began := s.timeBase, order := 0 }
    let o : CodeObject :=
      { addr := p.mbase.toNat, size := 0, codeBase := p.mbase.toNat, codeLen := p.total, event := none, clusters := 0xFF
        sections := [] }
    (s.mapPart n (fun p => { p with begun := true })).prepareTile t k o p.entry

/-- Bytes stored at a partition physical address as plaintext, under the grades the lines have. -/
def State.writePhysical (s : State) (p : Partition) : List (Nat × Nat) → List Byte → State
  | [], _ => s
  | (a, n) :: ps, bs =>
    match physicalOf s.health p a with
    | none => s.writePhysical p ps (bs.drop n)
    | some x =>
      let l : Leaf :=
        { ppa := a, phys := x, key := 0, grade := mget 0 s.grades (x / 64), shared := false, home := 0, foreign := false
          entry := 0, entryAt := 0 }
      (s.storeLine l 0 (pieceMask a n) (padLine a (bs.take n)) false none).writePhysical p ps (bs.drop n)

/-- The head of a piece without the fields that differ from piece to piece. -/
def pieceHead (bs : List Byte) (head off : Nat) : List Byte :=
  bs.take off ++ List.replicate 8 0 ++ (bs.take head).drop (off + 8)

/-- A piece that continues a partial image: OFFSET is what has been accepted, and the head repeats (R46). -/
def continues (i : Option PartialImage) (head : List Byte) (offset : Nat) : Bool :=
  match i with
  | none => offset == 0
  | some x => offset == x.bytes.length && head == x.head && offset != 0

/-- The image with a piece appended. -/
def grown (i : Option PartialImage) (head piece : List Byte) : PartialImage :=
  { head := head, bytes := (i.map PartialImage.bytes).getD [] ++ piece }

/-- The pages of a range at which a partition's memory is not owned. -/
def unowned (h : Health) (p : Partition) (a n : Nat) : Bool :=
  (pagePieces a n).any (fun x => (physicalOf h p x.1).isNone || (physicalOf h p (x.1 + x.2 - 1)).isNone)

/-- A number that is no 64 KiB-aligned partition physical address (R108). -/
def badPhysical (a : Nat) : Bool := a % 65536 != 0 || decide (2 ^ 42 ≤ a) || bit a 40

/-- A MONITOR_LOAD head out of its limits (R46). -/
def badMonitorHead (h : Health) (p : Partition) (b : List Byte) : Bool :=
  let total := le b 28 4
  let plen := le b 36 4
  badPhysical (le b 0 8) || badPhysical (le b 8 8) || le b 16 8 % 65536 != 0 || decide (2 ^ 55 < le b 16 8 + total) || le b 24 4 % 4 != 0 || decide (total ≤ le b 24 4)
    || total % 4 != 0 || decide (total < 4) || decide (67108864 < total) || plen % 4 != 0 || decide (plen < 4)
    || decide (8912 < plen) || dirty b 40 8 || decide (total < le b 32 4 + plen) || unowned h p (le b 0 8) total

/-- The image is complete: it is measured, the registers are set, and the partition runs or is stopped (R51, R52, R62). -/
def State.loadMonitor (s : State) (n : Nat) (b image : List Byte) (hold : Bool) : State :=
  let s1 := s.mapPart n (fun p =>
    { p with
      image := none, mm := extend p.mm image, root := BitVec.ofNat 64 (le b 8 8), mbase := BitVec.ofNat 64 (le b 16 8)
      svec := BitVec.ofNat 64 (le b 16 8), entry := le b 24 4, total := le b 28 4
      state := if hold then .stopped else .running })
  if hold then s1 else (s1.activate n).startMonitor n

/-- MONITOR_LOAD (R46, R52). -/
def monitorLoadReply (m : Message) (s : State) : Reply :=
  let b := m.payload
  let p := s.part m.part
  let head := pieceHead b 48 32
  let piece := (b.drop 48).take (le b 36 4)
  if m.len < 48 ∨ m.len ≠ 48 + le b 36 4 ∨ badMonitorHead s.health p b ∨ continues p.image head (le b 32 4) = false then
    deny .badArg (s.mapPart m.part (fun p => { p with image := none }))
  else
    let i := grown p.image head piece
    let s1 := (s.mapPart m.part (fun p => { p with image := some i })).writePhysical p
      (linePieces (le b 0 8 + le b 32 4) piece.length) piece
    if i.bytes.length = le b 28 4 then done (s1.loadMonitor m.part b i.bytes m.hold) else done s1

/-! ## Key slots (R59, R61) -/

/-- A slot of a partition's range. -/
def Partition.ownsSlot (p : Partition) (k : Nat) : Bool := decide (p.keyBase ≤ k) && decide (k < p.keyBase + p.keyCount)

/-- KEY_INSTALL (R61). -/
def keyInstallReply (m : Message) (s : State) : Reply :=
  let b := m.payload
  let k := le b 0 2
  guarded
    [(m.len != 520 || dirty b 2 6 || !(s.part m.part).ownsSlot k, .badArg), ((mfind k s.keys).isSome, .busy),
     (s.health.noKeys, .auth)] s
    (fun s =>
      match Config.unwrap (b.drop 8) with
      | some key => done { s with keys := mput k key s.keys }
      | none => deny .auth s)

/-- KEY_CLEAR (R61). -/
def keyClearReply (m : Message) (s : State) : Reply :=
  let b := m.payload
  let k := le b 0 2
  guarded [(m.len != 8 || dirty b 2 6 || !(s.part m.part).ownsSlot k, .badArg)] s
    (fun s => done { s with keys := mdel k s.keys })

/-! ## Partition configuration (R57) -/

/-- A section: its KIND and body. -/
structure ConfigSection where
  kind : Nat
  body : List Byte
  deriving DecidableEq, Repr

/-- The sections that follow a head, when they fill the payload exactly. -/
def parseSections : Nat → List Byte → Option (List ConfigSection)
  | 0, bs => if bs.isEmpty then some [] else none
  | n + 1, bs =>
    let len := le bs 2 2
    if bs.length < 8 + len ∨ dirty bs 1 1 ∨ dirty bs 4 4 then none
    else
      (parseSections n (bs.drop (8 + len))).map (fun xs => { kind := le bs 0 1, body := (bs.drop 8).take len } :: xs)

/-- A configuration with a section added; none when the section breaks a limit. A sharer set may lie at or reach past 2^55, which no
access can (log 62). -/
def addSection (c : PartConfig) (x : ConfigSection) : Option PartConfig :=
  let b := x.body
  if x.kind = 0 then
    if b.length = 8 ∧ dirty b 1 7 = false ∧ c.self.isNone then some { c with self := some (le b 0 1) } else none
  else if x.kind = 1 then
    let n := le b 2 2
    if 8 ≤ b.length ∧ dirty b 4 4 = false ∧ 1 ≤ n ∧ n ≤ 256 ∧ b.length = 8 + n ∧ le b 0 2 < 4096 then
      some { c with ranks := c.ranks ++ [(le b 0 2, (b.drop 8).map BitVec.toNat)] }
    else none
  else if x.kind = 2 then
    let standby := le b 3 1
    if b.length = 8 ∧ dirty b 4 4 = false ∧ le b 1 1 < 4 ∧ le b 2 1 < 16 ∧ (standby < 16 ∨ standby = 0xFF) then
      some { c with routes := c.routes ++ [{ dst := le b 0 1, cls := le b 1 1, port := le b 2 1
                                             standby := if standby = 0xFF then none else some standby }] }
    else none
  else if x.kind = 3 then
    if b.length = 48 ∧ dirty b 12 4 = false ∧ le b 0 8 % 65536 = 0 ∧ 1 ≤ le b 8 4 then
      some { c with shares := c.shares ++ [{ base := BitVec.ofNat 64 (le b 0 8), pages := le b 8 4
                                             mask := BitVec.ofNat 256 (le b 16 32) }] }
    else none
  else none

def addSections (c : PartConfig) : List ConfigSection → Option PartConfig
  | [] => some c
  | x :: xs => (addSection c x).bind (fun c1 => addSections c1 xs)

/-- No two entries of a list are equal. -/
def distinct {α : Type} [DecidableEq α] : List α → Bool
  | [] => true
  | x :: xs => !xs.contains x && distinct xs

/-- The limits of a whole configuration. -/
def PartConfig.legal (c : PartConfig) : Bool :=
  match c.self with
  | none => false
  | some d =>
    decide (c.ranks.length ≤ 64) && distinct (c.ranks.map Prod.fst) && c.ranks.all (fun r => distinct r.2 && r.2.contains d)
      && decide (c.routes.length ≤ 1024) && distinct (c.routes.map (fun r => (r.dst, r.cls))) && decide (c.shares.length ≤ 256)

/-- SELF agrees with the module's domain number and every other configuration (R450). -/
def State.selfAgrees (s : State) (n : Nat) (c : PartConfig) : Bool :=
  let same (x : Option Nat) : Bool := x.isNone || x == c.self
  same s.domain && s.parts.all (fun p => p.1 == n || (same p.2.config.self && same (p.2.staged.bind PartConfig.self)))

/-- A section as its bytes. -/
def ConfigSection.bytes (x : ConfigSection) : List Byte :=
  [BitVec.ofNat 8 x.kind, 0] ++ toBytes 2 x.body.length ++ List.replicate 4 0 ++ x.body

/-- The sections of a configuration as OP 0 returns them and CURSOR counts them: by KIND, and the sections of one KIND as they were written
(DESIGN CHOICE, log 74: R57 names no order). -/
def PartConfig.sections (c : PartConfig) : List ConfigSection :=
  (match c.self with | some d => [{ kind := 0, body := toBytes 8 d }] | none => [])
    ++ c.ranks.map (fun r => { kind := 1, body := toBytes 2 r.1 ++ toBytes 2 r.2.length ++ List.replicate 4 0 ++ r.2.map (BitVec.ofNat 8) })
    ++ c.routes.map (fun r => { kind := 2, body := toBytes 1 r.dst ++ toBytes 1 r.cls ++ toBytes 1 r.port
                                                    ++ toBytes 1 (r.standby.getD 0xFF) ++ List.replicate 4 0 })
    ++ c.shares.map (fun x => { kind := 3, body := toBytes 8 x.base.toNat ++ toBytes 4 x.pages ++ List.replicate 4 0
                                                    ++ toBytes 32 x.mask.toNat })

/-- The leading sections that fit into a number of bytes. -/
def fitSections : Nat → List ConfigSection → List ConfigSection
  | _, [] => []
  | room, x :: xs => if x.bytes.length ≤ room then x :: fitSections (room - x.bytes.length) xs else []

/-- PART_CONFIG with OP 0 (R57). After a write that has still to take effect it returns what was written (log 51). -/
def configRead (m : Message) (s : State) : Reply :=
  let p := s.part m.part
  let all := (p.staged.getD p.config).sections
  let from_ := le m.payload 4 4
  let xs := fitSections 8952 (all.drop from_)
  let next := if all.length ≤ from_ + xs.length then 0xFFFFFFFF else from_ + xs.length
  guarded [(m.len != 8 || dirty m.payload 1 1, .badArg)] s
    (fun s => (some (.ok, toBytes 2 0 ++ toBytes 2 xs.length ++ toBytes 4 next ++ xs.flatMap ConfigSection.bytes), s))

/-- PART_CONFIG with OP 1 or 2, from the configuration that the sections are added to (R57). -/
def configWrite (m : Message) (base : PartConfig) (s : State) : Reply :=
  let p := s.part m.part
  if p.state ≠ .created ∧ p.state ≠ .stopped then deny .badState s
  else if m.len < 8 ∨ dirty m.payload 1 1 ∨ dirty m.payload 4 4 then deny .badArg s
  else
    match (parseSections (le m.payload 2 2) (m.payload.drop 8)).bind (addSections base) with
    | some c =>
      if c.legal && s.selfAgrees m.part c then done (s.mapPart m.part (fun p => { p with staged := some c }))
      else deny .badArg s
    | none => deny .badArg s

/-- PART_CONFIG (R57). -/
def partConfigReply (m : Message) (s : State) : Reply :=
  let p := s.part m.part
  match le m.payload 0 1 with
  | 0 => if m.payload.isEmpty then deny .badArg s else configRead m s
  | 1 => configWrite m {} s
  | 2 => configWrite m (p.staged.getD p.config) s
  | _ => deny .badArg s

end Sys2Proof.Machine
end

