-- ==== Sys2Proof/Machine/ReportPort.lean ====
section
/-! DEFINITION. Requests that report on the module or set what belongs to it: INFO, flash records, the power cap, firmware
images, attestation, the error log and snapshots (R33, R34, R45, R46, R63, R69, R70, R249 to R251). -/

namespace Sys2Proof.Machine

/-! ## INFO, RECORD_CLEAR, POWER_CAP (R44, R45) -/

/-- A flash record as its 16 bytes (R34). -/
def FlashRecord.bytes (r : FlashRecord) : List Byte :=
  toBytes 16 (r.step.toNat + 2 ^ 32 * r.unit.toNat + 2 ^ 48 * r.form.toNat + 2 ^ 64 * r.code.toNat + 2 ^ 96 * r.start.toNat)

/-- The mask of the numbers below n for which f holds. -/
def maskOf (n : Nat) (f : Nat → Bool) : Nat := ((upFrom 0 n).map (fun i => if f i then 2 ^ i else 0)).sum

/-- The working tiles of a die that bring-up left available. -/
def reportedTiles (h : Health) (d : Nat) : List Nat := if dieAvailable h d then workingTiles h d else []

/-- The pseudo-channels of a stack that work. -/
def reportedChannels (h : Health) (stack : Nat) : Nat := if h.deadStacks.contains stack then 0 else (workingChannels h stack).length

/-- The INFO payload (R45). -/
def State.infoBytes (s : State) : List Byte :=
  let h := s.health
  let pairs := apartPairs h
  toBytes 8 s.stepping.toNat ++ toBytes 8 s.serial.toNat ++ toBytes 2 (maskOf 16 (dieAvailable h)) ++ toBytes 2 0
    ++ toBytes 4 (maskOf 24 (fun e => !edgeDown h e)) ++ toBytes 4 (maskOf 32 (fun c => !h.deadLpddr.contains c))
    ++ toBytes 2 (maskOf 16 (fun p => !h.deadPorts.contains p && !(s.port p).failed)) ++ toBytes 2 0
    ++ (upFrom 0 16).map (fun d => BitVec.ofNat 8 (reportedTiles h d).length)
    ++ (upFrom 0 16).flatMap (fun d => toBytes 8 (maskOf 64 (fun t => (reportedTiles h d).contains (64 * d + t))))
    ++ (upFrom 0 8).map (fun k => BitVec.ofNat 8 (reportedChannels h k))
    ++ toBytes 2 s.flash.length ++ toBytes 2 pairs.length ++ toBytes 4 0 ++ s.flash.flatMap FlashRecord.bytes
    ++ pairs.flatMap (fun x => [BitVec.ofNat 8 x.1, BitVec.ofNat 8 x.2])

/-- INFO (R45). -/
def infoReply (m : Message) (s : State) : Reply := guarded [(m.len != 0, .badArg)] s (fun s => (some (.ok, s.infoBytes), s))

/-- RECORD_CLEAR (R33, R34). -/
def recordClearReply (m : Message) (s : State) : Reply := guarded [(m.len != 0, .badArg)] s (fun s => done { s with flash := [] })

/-- POWER_CAP (R44). -/
def powerCapReply (m : Message) (s : State) : Reply :=
  let w := le m.payload 0 4
  guarded [(m.len != 4 || decide (w < 1000) || decide (4400 < w), .badArg)] s (fun s => done { s with powerCap := w })

/-! ## FIRMWARE_IMAGE (R46) -/

/-- A whole image: verified, written into the slot not booted from, and primary from then on. -/
def State.takeFirmware (s : State) (image : List Byte) : Reply :=
  let s1 : State := { s with control := { s.control with firmware := none } }
  if 512 ≤ image.length ∧ Config.signatureHolds image = true then
    let slot := 1 - s.bootSlot
    done { s1 with slots := mput slot image s1.slots, primary := slot }
  else deny .auth s1

/-- FIRMWARE_IMAGE (R46). -/
def firmwareImageReply (m : Message) (s : State) : Reply :=
  let b := m.payload
  let total := le b 0 4
  let plen := le b 8 4
  let head := pieceHead b 16 4
  let bad := m.len < 16 || m.len != 16 + plen || decide (total < 4) || decide (67108864 < total) || decide (plen < 1)
    || decide (8944 < plen) || dirty b 12 4 || decide (total < le b 4 4 + plen)
  if bad || !continues s.control.firmware head (le b 4 4) then
    deny .badArg { s with control := { s.control with firmware := none } }
  else
    let i := grown s.control.firmware head (b.drop 16)
    if i.bytes.length = total then s.takeFirmware i.bytes
    else done { s with control := { s.control with firmware := some i } }

/-! ## ATTEST (R63) -/

/-- The number of a partition's state in a report. -/
def PartState.number : PartState → Nat
  | .free => 0
  | .created => 1
  | .running => 2
  | .stopped => 3

/-- Bytes 0 to 351 of a report. -/
def State.reportBytes (s : State) (m : Message) : List Byte :=
  let p := if m.isModule then ({} : Partition) else s.part m.part
  m.payload ++ toBytes 64 s.mf.toNat ++ toBytes 64 p.mm.toNat ++ toBytes 64 p.mc.toNat ++ toBytes 8 s.serial.toNat
    ++ toBytes 8 s.stepping.toNat ++ toBytes 4 p.mcCount ++ toBytes 1 (if m.isModule then 0 else m.part)
    ++ toBytes 1 p.state.number ++ toBytes 1 (if p.sealed_ then 1 else 0) ++ toBytes 1 0 ++ toBytes 8 s.timeBase.toNat
    ++ toBytes 64 Config.transportKey.toNat

/-- ATTEST (R63). -/
def attestReply (m : Message) (s : State) : Reply :=
  guarded [(m.len != 64, .badArg), (s.health.noKeys, .auth)] s
    (fun s => (some (.ok, s.reportBytes m ++ toBytes 512 (Config.sign (s.reportBytes m)).toNat), s))

/-! ## ERROR_READ (R69) -/

/-- A scan of the ring from an entry on: the entries returned, and how many were examined. -/
def scanErrors (part : Nat) : Nat → List (BitVec 256) → List (BitVec 256) × Nat
  | 0, _ => ([], 0)
  | _, [] => ([], 0)
  | n + 1, e :: es =>
    if part = 0xFF ∨ field e.toNat 47 40 = part then
      let r := scanErrors part n es
      (e :: r.1, r.2 + 1)
    else
      let r := scanErrors part (n + 1) es
      (r.1, r.2 + 1)

/-- The highest entry number that a cursor can mean. -/
def State.cursorNumber (s : State) (c : Nat) : Nat :=
  let n := s.errorCount / 2 ^ 32 * 2 ^ 32 + c
  if s.errorCount < n ∧ 2 ^ 32 ≤ n then n - 2 ^ 32 else n

/-- ERROR_READ (R69). -/
def errorReadReply (m : Message) (s : State) : Reply :=
  let b := m.payload
  let count := le b 4 2
  guarded [(m.len != 8 || decide (count < 1) || decide (256 < count) || dirty b 6 2, .badArg)] s
    (fun s =>
      let oldest := s.errorCount - s.errors.length
      let first := max oldest (s.cursorNumber (le b 0 4))
      let r := scanErrors m.part count (s.errors.drop (first - oldest))
      let next := if r.2 = 0 then le b 0 4 else (first + r.2) % 2 ^ 32
      (some (.ok, toBytes 4 next ++ toBytes 4 s.overflow ++ toBytes 2 r.1.length ++ List.replicate 6 0
        ++ r.1.flatMap (fun e => toBytes 32 e.toNat)), s))

/-! ## Snapshots (R70, R249 to R251) -/

/-- When a request was accepted: now, unless it has waited since (R42). -/
def State.acceptedAt (s : State) (m : Message) : Word := ((s.control.times.find? (fun x => x.1 == m.seq)).map Prod.snd).getD s.timeBase

/-- SNAPSHOT_TRIGGER (R249): a mask of zero or none sets T, 1,000 counts after its acceptance; another arms. -/
def snapshotTriggerReply (m : Message) (s : State) : Reply :=
  let mask : Lane := BitVec.ofNat 32 (le m.payload 0 4)
  guarded [(m.len != 0 && m.len != 4, .badArg), (s.snapshot.latched.isSome && !m.force, .busy)] s
    (fun s =>
      done { s with snapshot := { s.snapshot with
        due := if mask = 0 then some (s.acceptedAt m + 1000) else none
        mask := mask, early := none } })

/-- The bytes of a block (R250). -/
def blockSize (n : Nat) : Option Nat :=
  if n < 0x400 then some 512
  else if n < 0x410 then some 4096
  else if n < 0x418 then some 1024
  else if 0x420 ≤ n ∧ n < 0x440 then some 256
  else if 0x440 ≤ n ∧ n < 0x458 then some 256
  else if 0x460 ≤ n ∧ n < 0x470 then some 512
  else if n = 0x470 then some 4096
  else none

/-- The channels with a command that has not completed. -/
def Tile.busyChannels (t : Tile) : Nat := maskOf 16 (fun n => t.copies.any (fun c => c.ch == n))

/-- The level a tile runs at and the FROM of the handler that runs, if any (R251). -/
def Tile.levelWord (t : Tile) : Word :=
  Config.levelWord (match t.level with | .task => if t.isMonitorTask then 2 else 0 | .user => 1 | .monitor => 2)
    (if t.inHandler then some (field t.handler.word.toNat 21 20) else none)

/-- The words of a tile block from its start (R251); how level and FROM are written is not stated (log 23). -/
def Tile.snapshotBytes (t : Tile) (free : Nat) : List Byte :=
  let k0 (f : Task → Nat) : Nat := match t.task with | some k => f k | none => 0
  [t.pc, t.levelWord, t.lastEvent, t.icyc, t.hcyc, t.fcyc].flatMap (fun w => toBytes 8 w.toNat)
    ++ toBytes 8 t.holds.toNat ++ toBytes 8 (t.reserved.foldl (fun (m : BitVec 32) r => m ||| r.2) 0).toNat
    ++ (upFrom 0 64).map (fun k => BitVec.ofNat 8 (tokenByte (t.token k)))
    ++ [t.busyChannels, k0 Task.index, k0 Task.launch, (t.flightRecords free).length].flatMap (toBytes 8)
    ++ List.replicate 352 0

/-- Bytes of a latched block; those of any block but a tile's are not stated. -/
def snapshotBlock (x : SMap Tile × Nat) (block : Nat) : List Byte :=
  if block < 0x400 then (mget {} x.1 block).snapshotBytes x.2
  else (upFrom 0 ((blockSize block).getD 0)).map (fun i => Config.freeByte x.2 (4096 * block + i))

/-- SNAPSHOT_READ (R70, R250). The last byte of the last block frees the snapshot. A range that passes the end of its block gets the
bytes up to the end, and arguments out of their range get BAD_ARG whether or not a snapshot is latched (log 51). -/
def snapshotReadReply (m : Message) (s : State) : Reply :=
  let b := m.payload
  let block := le b 0 2
  let off := le b 4 4
  let n := le b 8 4
  let size := (blockSize block).getD 0
  guarded [(m.len != 12 || dirty b 2 2 || decide (size ≤ off) || decide (n < 1) || decide (8192 < n), .badArg)] s
    (fun s =>
      match s.snapshot.latched with
      | none => deny .badState s
      | some x =>
        let s1 : State := if block = 0x470 ∧ size ≤ off + n then { s with snapshot := { s.snapshot with latched := none } } else s
        (some (.ok, ((snapshotBlock x block).drop off).take n), s1))

end Sys2Proof.Machine
end

