-- ==== Sys2Proof/Machine/TransferPort.lean ====
section
/-! DEFINITION. Requests that move memory and kiln lines, and the dirty scan (R47, R55, R56, R64 to R67). -/

namespace Sys2Proof.Machine

/-! ## Memory through translation (R55, R56) -/

/-- A range of virtual addresses that is no legal one; one that starts below 2^55 and runs past it is among them, so that its request
gets BAD_ARG (log 51). -/
def badRange (va n : Nat) : Bool := decide (2 ^ 55 < va + n) || decide (2 ^ 55 ≤ va)

/-- A range that a sealed partition's transfer window excludes (R56). -/
def Partition.excludes (p : Partition) (va n : Nat) : Bool := p.sealed_ && decide (p.xwin.toNat < va + n)

/-- Every page checked before any byte moves; a fault leaves the state as it was, and what moves moves under the leaves that the check
found, line by line (R55). -/
def State.checkedPages (s : State) (w : Who) (r : Right) (va n : Nat) (k : List PageLeaf → State → Reply) : Reply :=
  match s.mapPages w r (pagePieces va n) with
  | (.error f, _) => faulted f.addr s
  | (.ok ls, s1) => k (lineLeaves ls) s1

/-- MEM_WRITE (R55). -/
def memWriteReply (m : Message) (s : State) : Reply :=
  let b := m.payload
  let va := le b 0 8
  let n := le b 8 4
  let w := s.dispatcher m.part none
  guarded
    [(decide (m.len < 16) || n == 0 || decide (8944 < n) || m.len != 16 + n || dirty b 12 4 || badRange va n, .badArg),
     ((s.part m.part).excludes va n, .denied)] s
    (fun s => s.checkedPages w .write va n (fun ls s1 => done (s1.writeMapped w false ls (b.drop 16))))

/-- MEM_READ (R55). The answer to a read of a poisoned line of a shared page waits until the other modules know of it (R135). -/
def memReadReply (m : Message) (s : State) : Reply :=
  let b := m.payload
  let va := le b 0 8
  let n := le b 8 4
  let w := s.dispatcher m.part none
  guarded
    [(m.len != 16 || n == 0 || decide (8960 < n) || dirty b 12 4 || badRange va n, .badArg),
     ((s.part m.part).excludes va n, .denied)] s
    (fun s => s.checkedPages w .read va n (fun ls s1 =>
      let g := s1.readMapped ls
      let s2 := g.2.awaitNotifies w g.1.shared
      match g.1.poison with | some a => faulted a s2 | none => (some (.ok, g.1.bytes), s2)))

/-! ## Raw lines (R47, R66) -/

/-- A line record: the stored line, its glaze bits and its poison flag. -/
def lineRecord (bs : List Byte) (glaze : Nat) (poison : Bool) : List Byte :=
  bs ++ toBytes 7 glaze ++ [if poison then 1 else 0] ++ List.replicate 8 0

/-- A line record with a non-zero reserved byte or flag. -/
def badRecord (kiln : Bool) (bs : List Byte) : Bool :=
  dirty bs 72 8 || decide (2 ≤ le bs 71 1) || (kiln && dirty bs 64 7)

/-- The first n records of a payload. -/
def recordsOf : Nat → List Byte → List (List Byte)
  | 0, _ => []
  | n + 1, bs => bs.take 80 :: recordsOf n (bs.drop 80)

/-- Raw lines stored as they are under their leaves. -/
def State.storeRaws (s : State) (w : Who) : List PageLeaf → List (List Byte) → State
  | x :: xs, r :: rs =>
    let poison := bit (le r 71 1) 0
    ((s.setDirty w x.addr x.leaf).storeLine { x.leaf with key := 0 } x.addr (List.replicate 64 true) (r.take 64) poison
      (some (le r 64 7))).storeRaws w xs rs
  | _, _ => s

/-- MEM_WRITE_RAW (R66). -/
def memWriteRawReply (m : Message) (s : State) : Reply :=
  let b := m.payload
  let va := le b 0 8
  let n := le b 8 4
  let w := s.dispatcher m.part none
  let rs := recordsOf n (b.drop 16)
  guarded
    [(decide (m.len < 16) || n == 0 || decide (111 < n) || m.len != 16 + 80 * n || dirty b 12 4 || va % 64 != 0
        || badRange va (64 * n) || rs.any (badRecord false), .badArg),
     ((s.part m.part).excludes va (64 * n), .denied)] s
    (fun s => s.checkedPages w .write va (64 * n) (fun ls s1 => done (s1.storeRaws w ls rs)))

/-- One raw line as a record under its leaf; a line that its grade has left undefined gives free bytes. -/
def State.rawRecord (s : State) (l : Leaf) : List Byte × State :=
  let line := l.phys / 64
  if mget 0 s.grades line ≠ l.grade then
    (lineRecord ((upFrom 0 64).map (Config.freeByte s.fresh)) ((Config.freeWord s.fresh).toNat % 2 ^ glazeBits l.grade)
      (Config.freeBit s.fresh), s.nextFree)
  else (lineRecord (s.rawLine line) ((mget 0 s.glaze line).toNat % 2 ^ glazeBits l.grade) (s.badLines.contains line), s)

def State.rawRecords (s : State) : List PageLeaf → List Byte × State
  | [] => ([], s)
  | x :: xs =>
    let r := s.rawRecord x.leaf
    let rest := r.2.rawRecords xs
    (r.1 ++ rest.1, rest.2)

/-- The poisoned lines of shared pages among some raw lines as they were read (R135). -/
def sharedPoison (ls : List PageLeaf) (records : List (List Byte)) : List Nat :=
  (List.zip ls records).filterMap (fun x => if x.1.leaf.shared && bit (le x.2 71 1) 0 then some x.1.addr else none)

/-- MEM_READ_RAW (R66). The answer to a read of a poisoned line of a shared page waits until the other modules know of it (R135). -/
def memReadRawReply (m : Message) (s : State) : Reply :=
  let b := m.payload
  let va := le b 0 8
  let n := le b 8 4
  let w := s.dispatcher m.part none
  guarded
    [(m.len != 16 || n == 0 || decide (112 < n) || dirty b 12 4 || va % 64 != 0 || badRange va (64 * n), .badArg),
     ((s.part m.part).excludes va (64 * n), .denied)] s
    (fun s => s.checkedPages w .read va (64 * n) (fun ls s1 =>
      let r := s1.rawRecords ls
      (some (.ok, r.1), r.2.awaitNotifies w (sharedPoison ls (recordsOf n r.1)))))

/-! ## Kiln lines (R67) -/

/-- The head of a kiln request: die, slot, offset and count. -/
structure KilnHead where
  die   : Nat
  slot  : Nat
  off   : Nat
  count : Nat
  deriving DecidableEq, Repr

def kilnHead (b : List Byte) : KilnHead := { die := le b 0 1, slot := le b 2 2, off := le b 4 4, count := le b 8 4 }

/-- A head out of its limits. -/
def KilnHead.bad (h : KilnHead) (p : Partition) (keys : SMap (BitVec 512)) (most : Nat) (b : List Byte) : Bool :=
  decide (p.dieList.length ≤ h.die) || dirty b 1 1 || dirty b 12 4 || h.off % 64 != 0 || h.count == 0 || decide (most < h.count)
    || decide (2 ^ 25 < h.off + 64 * h.count)
    || (h.slot != 0 && (decide (h.slot < p.keyBase) || decide (p.keyBase + p.keyCount ≤ h.slot) || (mfind h.slot keys).isNone))

/-- A line under the request's slot, with its own tweak. -/
def KilnHead.crypt (h : KilnHead) (keys : SMap (BitVec 512)) (decrypt : Bool) (off : Nat) (bs : List Byte) : List Byte :=
  if h.slot = 0 then bs else xtsLine decrypt (mget 0 keys h.slot) ((h.die * 2 ^ 25 + off) / 64) bs

/-- KILN_READ (R67). -/
def kilnReadReply (m : Message) (s : State) : Reply :=
  let b := m.payload
  let h := kilnHead b
  let p := s.part m.part
  guarded [(m.len != 16 || h.bad p s.keys 112 b, .badArg), (p.sealed_ && h.slot == 0, .denied)] s
    (fun s =>
      let d := s.die (nth 0 p.dieList h.die)
      let one (i : Nat) : List Byte :=
        let off := h.off + 64 * i
        lineRecord (h.crypt s.keys false off (readBytes d.kiln off 64)) 0 (d.kilnPoison off 64)
      (some (.ok, (upFrom 0 h.count).flatMap one), s))

/-- KILN_WRITE (R67). -/
def kilnWriteReply (m : Message) (s : State) : Reply :=
  let b := m.payload
  let h := kilnHead b
  let p := s.part m.part
  let rs := recordsOf h.count (b.drop 16)
  guarded
    [(decide (m.len < 16) || h.bad p s.keys 111 b || m.len != 16 + 80 * h.count || rs.any (badRecord true), .badArg),
     (p.sealed_ && h.slot == 0, .denied)] s
    (fun s =>
      let die := nth 0 p.dieList h.die
      let w := s.dispatcher m.part none
      done ((List.zipWith (fun i r => (h.off + 64 * i, r)) (upFrom 0 h.count) rs).foldl
        (fun s x => s.writeKiln w die x.1 (h.crypt s.keys true x.1 (x.2.take 64)) (bit (le x.2 71 1) 0)) s))

/-! ## The dirty scan (R64, R65) -/

/-- The entry that maps a page, when a dirty one does. -/
def State.dirtyEntry (s : State) (p : Partition) (va : Nat) : Option Walked :=
  match walk s p va 3 1 p.root.toNat with
  | .ok k => if bit k.entry 12 then some k else none
  | .error _ => none

/-- An entry's dirty bit cleared in memory, and the entry dropped from every cache. -/
def State.clearDirty (s : State) (place : Nat) : State :=
  let b := readByte s.memory (place + 1)
  let keep (c : List CacheEntry) : List CacheEntry := c.filter (fun e => e.home != place)
  { s with
    memory := writeByte s.memory (place + 1) (b &&& 0xEF)
    dies := s.dies.map (fun d => (d.1, { d.2 with cache := keep d.2.cache }))
    tiles := s.tiles.map (fun t => (t.1, { t.2 with copyCache := keep t.2.copyCache })) }

/-- A region of 512 MiB that holds a dirty entry. -/
def State.regionDirty (s : State) (p : Partition) (region : Nat) : Bool :=
  (upFrom 0 8192).any (fun i => (s.dirtyEntry p (region * 2 ^ 29 + 65536 * i)).isSome)

/-- The bits of a list as bytes, bit i in bit i mod 8 of byte i div 8. -/
def packBits : Nat → List Bool → List Byte
  | 0, _ => []
  | n + 1, bs =>
    BitVec.ofNat 8 ((List.zipWith (fun i b => if b then 2 ^ i else 0) (upFrom 0 8) bs).sum) :: packBits n (bs.drop 8)

/-- DIRTY_SCAN (R65): every page is reported as it stood before any bit was cleared. -/
def dirtyScanReply (m : Message) (s : State) : Reply :=
  let b := m.payload
  let va := le b 0 8
  let n := le b 8 4
  let p := s.part m.part
  guarded
    [(m.len != 16 || n == 0 || decide (65536 < n) || dirty b 12 4 || va % 65536 != 0 || badRange va (65536 * n), .badArg)] s
    (fun s =>
      let pages := (upFrom 0 n).map (fun i => va + 65536 * i)
      let found := pages.map (fun a => if p.dirtyMap.contains (a / 2 ^ 29) then s.dirtyEntry p a else none)
      let s1 := (found.filterMap id).foldl (fun s k => s.clearDirty k.place) s
      let scanned (r : Nat) : Bool := decide (va / 2 ^ 29 ≤ r) && decide (r ≤ (va + 65536 * n - 1) / 2 ^ 29)
      let blocks := (List.zipWith (fun a k => (k.map (fun x => leafRegions x.level a)).getD (0, 0)) pages found).filter
        (fun r => decide (1 < r.2))
      let cleared (r : Nat) : Bool := blocks.any (fun b => decide (b.1 ≤ r) && decide (r < b.1 + b.2))
      let s2 := s1.mapPart m.part (fun q =>
        { q with dirtyMap := q.dirtyMap.filter (fun r => !(scanned r || cleared r) || s1.regionDirty q r) })
      (some (.ok, packBits (ceilDiv n 8) (found.map Option.isSome)), s2))

end Sys2Proof.Machine
end

