-- ==== Sys2Proof/Machine/Recovery.lean ====
section
/-! DEFINITION. Checkpoints and the replay of the bisque log (R88 to R95, R99). -/

namespace Sys2Proof.Machine

/-! ## Launches taken up again -/

/-- A launch taken up again with the progress of a STATUS word and its accumulator, its record read afresh, for its job where that is known. A launch that
had latched its code and not retired keeps it; one that stands at READY or beyond without is examined as at READY, and a checkpoint that
stands at READY is asked for again. A record that cannot be read is entered with code 0x8011 and its launch dropped (log 39). -/
def State.reinstate (s : State) (part : Nat) (job : Option Nat) (addr : Nat) (status : Nat) (lacc : Option Word) (old : Option Launch) : State :=
  match s.readDispatch part job addr 128 with
  | (.error f, s1) => s1.logModule 0x8011 f.addr addr part
  | (.ok bs, s1) =>
    let r := ofBytes bs
    let l0 := (postedLaunch addr r).withStatus status
    let l1 := { l0 with lacc := lacc.getD (BitVec.ofNat 64 (field r 959 896)), readyAt := (old.map Launch.readyAt).getD s.timeBase }
    let keep (l : Launch) : State :=
      s1.mapPart part (fun p => p.setLaunch { l1 with object := l.object, cell := l.cell, bound := l.bound })
    let plain := s1.mapPart part (fun p => p.setLaunch l1)
    let asksAgain := plain.mapPart part (fun p =>
      p.setJob { (p.job l1.job).quiesce with asked := (p.job l1.job).asked ++ [some addr] })
    if 2 ≤ l1.state.number ∧ l1.state.number ≤ 4 ∧ l1.kind = 0 then
      match old with
      | some l =>
        if l.object.isSome ∧ l.state ≠ .retired then keep l
        else
          match plain.examine part l1 r with
          | (.ok l2, s2) => s2.mapPart part (fun p => p.setLaunch l2)
          | (.error info, s2) => s2.reject part l1 info
      | none =>
        match plain.examine part l1 r with
        | (.ok l2, s2) => s2.mapPart part (fun p => p.setLaunch l2)
        | (.error info, s2) => s2.reject part l1 info
    else if l1.kind = 1 ∧ l1.state = .ready then asksAgain
    else plain

/-- USE of the cell of a launch that had latched its TARGET and has not retired given back (R408). -/
def State.returnCell (s : State) (part : Nat) (l : Launch) : State :=
  match l.cell with
  | some c => if l.bound && l.state != .retired && l.state != .rejected then s.addUse part l.job c false else s
  | none => s

/-! ## Checkpoints (R88, R89) -/

/-- The pending list: the records of a job with STATE 1 to 4, but for the checkpoint's own. -/
def Partition.pending (p : Partition) (job : Nat) (own : Option Nat) : List Nat :=
  (p.launches.filter (fun l => l.job == job && decide (1 ≤ l.state.number) && decide (l.state.number ≤ 4) && some l.addr != own)).map
    Launch.addr

/-- The log fields a checkpoint opens its interval with: its record's, or the last explicit checkpoint's. -/
def Partition.checkpointLog (p : Partition) (job : Nat) (rec_ : Option Nat) : Option LogFields :=
  match rec_.bind p.launch? with
  | some l => some { base := l.get 127 64, pages := l.get 223 192, reserve := l.get 255 224, record := some l.addr }
  | none => (p.job job).log

/-- The bytes of page 0 of a log. -/
def pendingBytes (as : List Nat) : List Byte := toBytes 8 as.length ++ as.flatMap (toBytes 8)

/-- One checkpoint takes effect: the successors are posted, the pending list is written, the record gets STATE 5, and a new
interval opens. A list of more than 8,191 records rejects the checkpoint, and the interval stays as it was. A list that cannot be
written fails the job like a log record that cannot (log 39). -/
def State.takeCheckpoint (s : State) (part job : Nat) (rec_ : Option Nat) : State :=
  let l? := rec_.bind (s.part part).launch?
  let posted := s.postAll part job ((l?.map Launch.succs).getD [])
  let list := (posted.part part).pending job rec_
  match (posted.part part).checkpointLog job rec_ with
  | none => posted
  | some f =>
    if 8191 < list.length then
      match l? with
      | some l => s.nextFree.reject part l (Config.freeWord s.fresh).toNat
      | none => s
    else
      let bytes := pendingBytes list
      match writeLog posted (posted.dispatcher part (some job)) (linePieces f.base bytes.length) bytes with
      | .error a => posted.addCause { part := part, job := job, addr := a, what := .overflow a }
      | .ok s1 =>
        let s2 := match l? with
          | some l => s1.writeLaunch part { l with state := .retired }
          | none => s1
        s2.mapPart part (fun p => p.setJob { p.job job with log := some f, records := 0, filters := [], rollbacks := 0 })

/-- The job after its checkpoints: open again, and stopped when a STOP stands (R53). -/
def Job.reopened (j : Job) (stopping : Bool) : Job :=
  { j with
    asked := [], stopped := j.stopped || j.stopAsked || stopping
    state := if j.state = .failed then .failed else if j.log.isNone then .unprotected else if j.serialRun then .serial else .open_ }

/-- The checkpoints asked for take effect in the order in which they became READY; an implicit one only by itself (R88). -/
def State.takeCheckpoints (s : State) (part job : Nat) : State :=
  let asked := ((s.part part).job job).asked
  let records := asked.filter Option.isSome
  let s1 := (if records.isEmpty then [none] else records).foldl (fun s r => s.takeCheckpoint part job r) s
  (s1.mapPart part (fun p => p.setJob ((p.job job).reopened p.stopping.isSome))).settleRoutes part job false

/-! ## Replay (R91, R95) -/

/-- The GRADE of the first leaf, in table order, that maps a partition physical address to memory of a rank, searched from a table
at a level by the levels that remain (R122). -/
def State.gradeUnder (s : State) (p : Partition) (own ppa : Nat) : Nat → Nat → Nat → Option Nat
  | 0, _, _ => none
  | n + 1, lv, table =>
    (upFrom 0 8192).findSome? (fun i =>
      match physicalOf s.health p (table + 8 * i) with
      | none => none
      | some a =>
        let e := ofBytes (readBytes s.memory a 8)
        let oa := field e 41 16 * 2 ^ 16
        if e % 4 = 1 ∧ lv < 3 then s.gradeUnder p own ppa n (lv + 1) oa
        else if (e % 4 = 2 ∧ lv < 3 ∨ e % 4 = 3 ∧ lv = 3) ∧ field e 14 13 < 3 ∧ (bit e 15 = false ∨ field e 63 56 = own)
            ∧ ppa / 2 ^ leafBits lv * 2 ^ leafBits lv = oa then
          some (field e 14 13)
        else none)

/-- A memory line restored as stored, with check bits of its page's grade (log 56). -/
def State.restoreLine (s : State) (p : Partition) (own addr glaze : Nat) (poison : Bool) (bs : List Byte) : State :=
  match physicalOf s.health p addr with
  | none => s
  | some a =>
    let line := a / 64
    { s with
      memory := writeBytes s.memory (64 * line) bs
      grades := mset 0 s.grades line ((s.gradeUnder p own addr 3 1 p.root.toNat).getD (mget 0 s.grades line))
      glaze := mset 0 s.glaze line (BitVec.ofNat 56 glaze)
      badLines := if poison then addTo line s.badLines else dropFrom line s.badLines }

/-- A kiln line restored. -/
def State.restoreKiln (s : State) (p : Partition) (addr : Nat) (poison : Bool) (bs : List Byte) : State :=
  match p.dieList[addr / 2 ^ 25]? with
  | none => s
  | some d =>
    let off := addr % 2 ^ 25
    s.mapDie d (fun k => { k with kiln := writeBytes k.kiln off bs, badWords := wordsAfter k.badWords off 64 poison })

/-- One record applied; a post is collected in front of those that follow it in the log. -/
def State.applyRecord (s : State) (p : Partition) (own : Nat) (posts : List Nat) (bs : List Byte) : List Nat × State :=
  let h := ofBytes (bs.take 16)
  let addr := field h 127 64
  match field h 3 0 with
  | 1 => (posts, s.restoreLine p own addr (field h 63 8) (bit h 4) (bs.drop 16))
  | 2 => (posts, s.restoreKiln p addr (bit h 4) (bs.drop 16))
  | 3 => (addr :: posts, s)
  | _ => (posts, s)

/-- Why a replay stops short: a poisoned log line, or a log page that no longer translates. -/
inductive ReplayStop where
  | poison (addr : Nat)
  | fault (addr : Nat)
  deriving DecidableEq, Repr

/-- The records below n applied newest first. -/
def State.replayRecords (s : State) (part own : Nat) (w : Who) (f : LogFields) : Nat → List Nat → Except ReplayStop (List Nat) × State
  | 0, posts => (.ok posts, s)
  | n + 1, posts =>
    match s.readVirtual w .read (f.place n) 80 with
    | (.error e, s1) => (.error (.fault e.addr), s1)
    | (.ok g, s1) =>
      match g.poison with
      | some a => (.error (.poison a), s1)
      | none =>
        let r := s1.applyRecord (s.part part) own posts g.bytes
        r.2.replayRecords part own w f n r.1

/-- Words of the pending list that are read: the poisoned ones and those that cannot be read stop the replay. -/
def State.readList (s : State) (w : Who) (va n : Nat) : Except ReplayStop (List Byte) × State :=
  match s.readVirtual w .read va n with
  | (.error e, s1) => (.error (.fault e.addr), s1)
  | (.ok g, s1) =>
    match g.poison with
    | some a => (.error (.poison a), s1)
    | none => (.ok g.bytes, s1)

/-- The addresses of the pending list: its count, then as many as the count says (R89). -/
def State.readPending (s : State) (w : Who) (f : LogFields) : Except ReplayStop (List Nat) × State :=
  match s.readList w f.base 8 with
  | (.error e, s1) => (.error e, s1)
  | (.ok head, s1) =>
    let n := min 8191 (ofBytes head)
    match s1.readList w (f.base + 8) (8 * n) with
    | (.error e, s2) => (.error e, s2)
    | (.ok bs, s2) => (.ok ((upFrom 0 n).map (fun i => ofBytes ((bs.drop (8 * i)).take 8))), s2)

/-- The records of a job become what their restored STATUS says; those not listed are forgotten. -/
def State.restorePending (s : State) (part job : Nat) (list : List Nat) : State :=
  let mine := (s.part part).launches.filter (fun l => l.job == job)
  let s1 := mine.foldl
    (fun s l =>
      let before := if list.contains l.addr then
          (match (s.statusAt part (some job) l.addr).1 with | some w => decide (field w 3 0 < 2) | none => true)
        else true
      if before then s.returnCell part l else s) s
  let s2 := s1.mapPart part (fun p => { p with launches := p.launches.filter (fun l => l.job != job) })
  list.foldl
    (fun s a =>
      match s.statusAt part (some job) a with
      | (some w, s3) => s3.reinstate part (some job) a w none ((mine.filter (fun l => decide (2 ≤ l.state.number))).find? (fun l => l.addr == a))
      | (none, s3) => s3.logModule 0x8011 a a part) s2

/-- MISMATCH set in the restored record, and the serial run begins (R99). -/
def State.markMismatch (s : State) (part job : Nat) : State :=
  let j := (s.part part).job job
  match j.mismatch with
  | some (a, _) =>
    if j.serialRun then s
    else
      let s1 := match (s.part part).launch? a with
        | some l => s.writeLaunch part { l with status := l.status ||| 0x100 }
        | none =>
          match s.statusAt part (some job) a with
          | (some w, s2) => s2.writeDispatch part job a (a + 96) (toBytes 8 (w ||| 0x100))
          | (none, s2) => s2
      s1.mapPart part (fun p => p.setJob { p.job job with serialRun := true })
  | none => s

/-- The posts of the interval made again, each appended to the emptied log (R90, R95). -/
def State.repost (s : State) (part job : Nat) : List Nat → State
  | [] => s
  | a :: as => (((s.post part (some job) a).2).logPost part job a).repost part job as

/-- The job after a replay: it quiesces again for the checkpoint records that stand at READY, for a STOP that stands, or when the posts made
again have reached the reserve (R88, R92, R95). -/
def Job.restarted (j : Job) (stopping : Bool) : Job :=
  let asked := j.asked.filter Option.isSome ++ (if stopping || j.asked.contains none then [none] else [])
  { j with
    asked := asked, stopAsked := stopping, stopped := false
    state := if !asked.isEmpty then .quiescing else if j.serialRun then .serial else .open_ }

/-- The whole replay, steps 3 to 5 of R95; the third rollback to one checkpoint fails the job. -/
def State.replay (s : State) (part job : Nat) : State :=
  let w := s.dispatcher part (some job)
  let fail (e : ReplayStop) (s : State) : State :=
    match e with
    | .poison a =>
      let at_ := match translate s w .read a with | (.ok l, _) => l.phys | (.error _, _) => a
      (s.logDie 0x8021 0 (at_ / 64 * 64) part (ownerDie s.health at_)).failJob part job
    | .fault a => (s.logModule 0x8015 job a part).failJob part job
  let j := (s.part part).job job
  match j.log with
  | none => s.failJob part job
  | some f =>
    match s.replayRecords part (ownRank s (s.part part) job) w f j.records [] with
    | (.error e, s1) => fail e s1
    | (.ok posts, s1) =>
      match s1.readPending w f with
      | (.error e, s2) => fail e s2
      | (.ok list, s2) =>
        let s3 := s2.mapPart part (fun p => p.setJob { p.job job with records := 0, filters := [], state := .replaying })
        let s4 := ((s3.restorePending part job list).repost part job posts).markMismatch part job
        if 3 ≤ j.rollbacks then s4.failJob part job
        else s4.mapPart part (fun p => p.setJob ((p.job job).restarted p.stopping.isSome))

end Sys2Proof.Machine
end

