-- ==== Sys2Proof/Machine/WorkPort.lean ====
section
/-! DEFINITION. Requests that post work, stop and resume a partition, and export and import its state (R48, R51, R53, R68,
R75, R90). -/

namespace Sys2Proof.Machine

/-! ## CHAIN_POST (R75, R90) -/

/-- CHAIN_POST (R75). A post that names a record of a job's interval is logged. -/
def chainPostReply (m : Message) (s : State) : Reply :=
  let a := le m.payload 0 8
  guarded [(m.len != 8 || badRecordAddress a || decide (2 ^ 55 ≤ a), .badArg)] s
    (fun s =>
      match s.post m.part none a with
      | (some f, s1) => faulted f s1
      | (none, s1) =>
        match s1.readDispatch m.part none a 128 with
        | (.ok bs, s2) => done (s2.logPost m.part (field (ofBytes bs) 59 48) a)
        | (.error _, s2) => done s2)

/-! ## STOP and FORCE_STOP (R51, R53) -/

/-- The numbers of a partition's jobs. -/
def Partition.jobNumbers (p : Partition) : List Nat :=
  ((p.jobs.map Job.num) ++ (p.launches.map Launch.job)).foldl (fun ns n => addTo n ns) []

/-- A job as a STOP begins: dispatch stops, and a protected job quiesces for an implicit checkpoint. -/
def Job.askStop (j : Job) : Job :=
  match j.state with
  | .open_ | .serial | .quiescing =>
    { j.quiesce with stopAsked := true, stopped := false, asked := if j.asked.contains none then j.asked else j.asked ++ [none] }
  | _ => { j with stopAsked := true, stopped := false }

/-- A job that counts as stopped. -/
def State.jobStopped (s : State) (part job : Nat) : Bool :=
  let j := (s.part part).job job
  match j.state with
  | .unprotected | .failed => !s.jobLive part job
  | .draining | .replaying => false
  | _ => j.stopped && j.asked.isEmpty

/-- Every job without its part in a STOP. -/
def Partition.freeJobs (p : Partition) : Partition :=
  { p with jobs := p.jobs.map (fun j => { j with stopAsked := false, stopped := false }) }

/-- The records of a list that wait for another of the list, again and again: what a cycle of POSTED records leaves (R76). -/
def waitingInCycle : Nat → List Launch → List Launch
  | 0, ls => ls
  | k + 1, ls => waitingInCycle k (ls.filter (fun l => l.preds.any (fun a => ls.any (fun x => x.addr == a))))

/-- A cycle of POSTED records, because of which a STOP of the partition times out (R76). -/
def Partition.cyclic (p : Partition) : Bool :=
  let ls := p.launches.filter (fun l => l.state == .posted)
  !(waitingInCycle ls.length ls).isEmpty

/-- The dispatches of a partition that wait for other modules begin anew. -/
def Asker.dispatches (a : Asker) (part : Nat) : Bool := match a with | .dispatch p _ _ => p == part | _ => false
def State.forgetStarts (s : State) (part : Nat) : State := s.abandon (fun q => q.asker.dispatches part)

/-- A STOP that completes when every job has stopped within its limit, unless a cycle of records is POSTED (R51, R53, R76). -/
def State.completeStop (s : State) (part : Nat) : State :=
  let p := s.part part
  match p.stopping with
  | some st =>
    if p.jobNumbers.all (s.jobStopped part) && !p.cyclic && decide ((s.timeBase - st.since).toNat < 1000 * st.limit) then
      ((s.setPart part { p.freeJobs with state := .stopped, stopping := none }).forgetStarts part).respond st.request .ok []
    else s
  | none => s

/-- STOP (R53). -/
def stopReply (m : Message) (s : State) : Reply :=
  let limit := le m.payload 0 4
  guarded [(m.len != 8 || dirty m.payload 4 4 || decide (limit < 1000) || decide (60000000 < limit), .badArg)] s
    (fun s =>
      let st : Stopping := { request := m.header, since := s.timeBase, limit := limit }
      let s1 := s.mapPart m.part (fun p =>
        { p with
          stopping := some st
          jobs := p.jobs.map Job.askStop })
      (none, s1.completeStop m.part))

/-- A FORCE_STOP that completes when every rollback has, and no task is left in a handler (R51, R53). -/
def State.completeForce (s : State) (part : Nat) : State :=
  let p := s.part part
  match p.forced with
  | some h =>
    if p.jobs.all (fun j => j.state != .draining && j.state != .replaying) && p.jobNumbers.all (fun j => !s.jobLive part j) then
      ((s.setPart part { p.freeJobs with state := .stopped, forced := none }).forgetStarts part).respond h .ok []
    else s
  | none => s

/-- FORCE_STOP (R51, R53, R94): every job is rolled back, an unprotected one fails. -/
def forceStopReply (m : Message) (s : State) : Reply :=
  guarded [(m.len != 0, .badArg)] s
    (fun s =>
      let s1 := s.mapPart m.part (fun p => { p with forced := some m.header })
      let s2 := (s.part m.part).jobNumbers.foldl (fun s j => s.rollback m.part j .forceStop) s1
      (none, s2.completeForce m.part))

/-! ## STATE_EXPORT and STATE_IMPORT (R48, R68) -/

/-- A launch export record. -/
def Launch.exported (l : Launch) : List Byte :=
  [1] ++ List.replicate 7 0 ++ toBytes 8 l.addr ++ toBytes 8 l.statusWord.toNat ++ toBytes 8 l.lacc.toNat ++ List.replicate 32 0

/-- A copy export record of a task's suspended command. -/
def CopyCmd.exported (c : CopyCmd) (k : Task) : List Byte :=
  [2, BitVec.ofNat 8 (c.ch + (if c.semv then 16 else 0) + (if c.cev then 32 else 0)), BitVec.ofNat 8 (produced c.ctl),
   BitVec.ofNat 8 c.sem, BitVec.ofNat 8 c.redo]
    ++ toBytes 3 k.index ++ toBytes 8 k.launch ++ toBytes 8 c.src.toNat ++ toBytes 8 c.dst.toNat ++ toBytes 32 c.map.toNat
    ++ toBytes 64 c.shape.toNat

/-- A command suspended on a translation fault. -/
def CopyCmd.suspended (c : CopyCmd) : Bool := c.phase == .suspended || c.phase == .reported

/-- The export records of a stopped partition, in order: pending launches, then suspended copies. -/
def State.exports (s : State) (part : Nat) : List (List Byte) :=
  let p := s.part part
  (p.launches.filter (fun l => decide (1 ≤ l.state.number) && decide (l.state.number ≤ 4))).map Launch.exported
    ++ (s.tiles.flatMap (fun t => match t.2.task with
      | some k => if k.part = part then (t.2.copies.filter CopyCmd.suspended).map (fun c => c.exported k) else []
      | none => []))
    ++ p.imported

/-- The leading records that fit into a number of bytes. -/
def fitRecords : Nat → List (List Byte) → List (List Byte)
  | _, [] => []
  | room, x :: xs => if x.length ≤ room then x :: fitRecords (room - x.length) xs else []

/-- STATE_EXPORT (R48). -/
def stateExportReply (m : Message) (s : State) : Reply :=
  guarded [(m.len != 4, .badArg)] s
    (fun s =>
      let all := s.exports m.part
      let from_ := le m.payload 0 4
      let xs := fitRecords 8944 (all.drop from_)
      let next := if all.length ≤ from_ + xs.length then 0xFFFFFFFF else from_ + xs.length
      (some (.ok, toBytes 4 all.length ++ toBytes 4 next ++ toBytes 4 xs.length ++ List.replicate 4 0 ++ xs.flatten), s))

/-- A launch record of an import with a reserved byte, a reserved bit of STATUS or a STATE that is none (R7, R45, R48, R73, log 51). -/
def badLaunchRecord (x : List Byte) : Bool :=
  dirty x 1 7 || dirty x 32 32 || field (le x 16 8) 7 4 != 0 || field (le x 16 8) 15 12 != 0 || decide (8 ≤ field (le x 16 8) 3 0)

/-- A copy record of an import with a field out of its range: its shape record is one that cp.defs would not have taken, or it has no such
chunk (R7, R45, R48, R142, R149, log 51). -/
def badCopyRecord (x : List Byte) : Bool :=
  le x 0 1 != 2 || decide (64 ≤ le x 1 1) || decide (64 ≤ le x 2 1) || decide (64 ≤ le x 3 1) || !Shape.valid (le x 64 64)
    || decide (Shape.chunks (le x 64 64) ≤ le x 4 1)

/-- A list of export records cut out of a payload that they fill exactly. -/
def importRecords : Nat → List Byte → Option (List (List Byte))
  | 0, bs => if bs.isEmpty then some [] else none
  | n + 1, bs =>
    let size := if le bs 0 1 = 1 then 64 else 128
    let bad := if le bs 0 1 = 1 then badLaunchRecord (bs.take 64) else badCopyRecord (bs.take 128)
    if bs.length < size ∨ bad = true then none else (importRecords n (bs.drop size)).map (fun xs => bs.take size :: xs)

/-- The addresses of imported launch records. -/
def importedLaunches (xs : List (List Byte)) : List Nat := (xs.filter (fun x => le x 0 1 == 1)).map (fun x => le x 8 8)

/-- STATE_IMPORT (R48). -/
def stateImportReply (m : Message) (s : State) : Reply :=
  if m.len < 8 ∨ dirty m.payload 4 4 then deny .badArg s
  else
    match importRecords (le m.payload 0 4) (m.payload.drop 8) with
    | none => deny .badArg s
    | some xs =>
      let p := s.part m.part
      let known := importedLaunches (p.imported ++ xs)
      if xs.any (fun x => le x 0 1 == 2 && !known.contains (le x 8 8)) then deny .badArg s
      else done (s.setPart m.part { p with imported := p.imported ++ xs })

/-- The command of a copy export record. -/
def importedCopy (id : Nat) (x : List Byte) : CopyCmd :=
  let flags := le x 1 1
  let ctl := le x 2 1 % 64 + 2 ^ 32 * (le x 3 1 % 64) + 2 ^ 38 * (if bit flags 4 then 1 else 0) + 2 ^ 39 * (if bit flags 5 then 1 else 0)
  { id := id, ch := flags % 16, shape := BitVec.ofNat 512 (le x 64 64), src := BitVec.ofNat 64 (le x 16 8)
    dst := BitVec.ofNat 64 (le x 24 8), ctl := BitVec.ofNat 64 ctl, waits := [], doomed := false, user := true, phase := .running
    started := le x 4 1, age := 0, map := BitVec.ofNat 256 (le x 32 32), lost := 0 }

/-- A copy installed on its task's tile, which starts its faulting chunk again and so raises its fault. -/
def State.installCopy (s : State) (n : Nat) (x : List Byte) : State :=
  let id := (s.tile n).nextId
  let c := importedCopy id x
  let none_ : Newest := { id := 0, map := 0, recent := 0, ended := false }
  let s1 := s.mapTile n (fun t =>
    let t1 := t.produce (produced c.ctl) id
    { t1.reserve id c.record.banks with
      copies := t1.copies ++ [c]
      newest := mset none_ t1.newest c.ch { id := id, map := c.map, recent := 0, ended := false } })
  s1.startChunks n id c.started 1

/-- The imported copies of a task, installed as it starts. -/
def State.installCopies (s : State) (n : Nat) : State :=
  match (s.tile n).task with
  | none => s
  | some k =>
    let mine (x : List Byte) : Bool := le x 8 8 == k.launch && le x 5 3 == k.index
    let xs := (s.part k.part).imported.filter mine
    xs.foldl (fun s x => s.installCopy n x)
      (s.mapPart k.part (fun p => { p with imported := p.imported.filter (fun x => !mine x) }))

/-- The tile of a task that was dispatched before its launch was imported: the one that holds it already, or a vacant one, on which
it stands as a task that has ended and waits for its copies (log 25). -/
def State.tileFor (s : State) (part : Nat) (l : Launch) (i : Nat) : Option (Nat × State) :=
  let held := s.tiles.find? (fun t =>
    t.2.task.any (fun k => k.part == part && k.launch == l.addr && k.index == i && k.work == .dispatched))
  match held with
  | some t => some (t.1, s)
  | none =>
    ((s.vacantTiles part).find? (fun n => s.dieTakes (s.launchFixed part l) (dieOf n))).map (fun n =>
      (n, (s.startTask part l n i).mapTile n (fun t => { t with phase := .ended })))

/-- An imported copy whose task has been dispatched already. -/
def State.awaitsTile (s : State) (part : Nat) (x : List Byte) : Bool :=
  le x 0 1 == 2 && ((s.part part).launch? (le x 8 8)).any (fun l =>
    decide (le x 5 3 < l.dispatched) && (l.state == .dispatching || l.state == .running))

/-- An imported copy taken up, when its task has been dispatched already and finds a tile; else it goes on waiting. -/
def State.takeCopy (s : State) (part : Nat) (x : List Byte) : State :=
  let wait := s.mapPart part (fun p => { p with imported := p.imported ++ [x] })
  match s.awaitsTile part x, (s.part part).launch? (le x 8 8) with
  | true, some l =>
    match s.tileFor part l (le x 5 3) with
    | some (n, s1) => s1.installCopy n x
    | none => wait
  | _, _ => wait

/-- The imported copies of dispatched tasks that found no tile look again for one (R68). -/
def State.retakeCopies (s : State) (part : Nat) : State :=
  let xs := (s.part part).imported
  if (s.part part).state = .running ∧ xs.any (s.awaitsTile part) = true then
    (s.attempt (.imports part) (fun s => xs.foldl (fun s x => s.takeCopy part x) (s.mapPart part (fun p => { p with imported := [] })))).state s
  else s

/-- The imported launches taken up, then the copies of their dispatched tasks; the others wait for the dispatch. -/
def State.takeImports (s : State) (part : Nat) : State :=
  let xs := (s.part part).imported
  let s1 := (xs.filter (fun x => le x 0 1 == 1)).foldl
    (fun s x => s.reinstate part none (le x 8 8) (le x 16 8) (some (BitVec.ofNat 64 (le x 24 8))) none) s
  (xs.filter (fun x => le x 0 1 == 2)).foldl (fun s x => s.takeCopy part x)
    (s1.mapPart part (fun p => { p with imported := [] }))

/-! ## RESUME (R51, R53) -/

/-- RESUME (R53): a held monitor starts, the configuration takes effect, and the import ends. -/
def resumeReply (m : Message) (s : State) : Reply :=
  guarded [(m.len != 0, .badArg)] s
    (fun s =>
      let s1 := (s.mapPart m.part (fun p => { p.freeJobs with state := .running })).activate m.part
      let s2 := if (s1.part m.part).begun then s1 else s1.startMonitor m.part
      done (s2.takeImports m.part))

end Sys2Proof.Machine
end

