-- ==== Sys2Proof/Machine/ControlPort.lean ====
section
/-! DEFINITION. The control port: the order of its checks, the execution of a request, requests that wait, duplicates, and a
step for each request (R39 to R46, R51, R53, R70). -/

namespace Sys2Proof.Machine

open Host (Outcome)

/-! ## Types (R44) -/

/-- The scope of a message type. -/
inductive Scope where
  | module
  | partition
  | either
  deriving DecidableEq, Repr

/-- The scope of each type; none for an unassigned one. -/
def scopeOf (ty : Nat) : Option Scope :=
  if ty = 0 then none
  else if ty ≤ 4 then some .module
  else if 0x10 ≤ ty ∧ ty ≤ 0x15 then some .partition
  else if 0x20 ≤ ty ∧ ty ≤ 0x25 then some .partition
  else if 0x30 ≤ ty ∧ ty ≤ 0x36 then some .partition
  else if ty = 0x40 ∨ ty = 0x50 then some .either
  else if ty = 0x51 ∨ ty = 0x52 then some .module
  else none

/-- Whether PART suits a scope. -/
def Scope.takes : Scope → Nat → Bool
  | .module, p => p == 0xFF
  | .partition, p => decide (p < 16)
  | .either, p => p == 0xFF || decide (p < 16)

/-- The column "Allowed in": a write of PART_CONFIG is checked by its operation. -/
def allowedIn (ty : Nat) (st : PartState) : Bool :=
  if ty = 0x10 then st == .free
  else if ty = 0x11 ∨ ty = 0x15 ∨ ty = 0x40 then st != .free
  else if ty = 0x12 then st == .created
  else if ty = 0x13 ∨ ty = 0x14 then st != .free
  else if [0x20, 0x21, 0x23, 0x24, 0x30, 0x34].contains ty then st == .stopped || st == .running
  else if [0x22, 0x25, 0x33, 0x35, 0x36].contains ty then st == .stopped
  else if ty = 0x31 ∨ ty = 0x32 then st == .running
  else true

/-- The state does not allow the type: the recovery state, or the partition's. -/
def State.forbids (s : State) (m : Message) : Bool :=
  (s.health.recovery && !([1, 2, 4].contains m.type))
    || (!m.isModule && !allowedIn m.type (s.part m.part).state)

/-! ## Execution -/

/-- What each type does once the checks of every type have passed. -/
def handle (m : Message) : State → Reply :=
  match m.type with
  | 0x01 => infoReply m
  | 0x02 => recordClearReply m
  | 0x03 => powerCapReply m
  | 0x04 => firmwareImageReply m
  | 0x10 => partCreateReply m
  | 0x11 => partDestroyReply m
  | 0x12 => monitorLoadReply m
  | 0x13 => keyInstallReply m
  | 0x14 => keyClearReply m
  | 0x15 => partConfigReply m
  | 0x20 => memWriteReply m
  | 0x21 => memReadReply m
  | 0x22 => memWriteRawReply m
  | 0x23 => memReadRawReply m
  | 0x24 => kilnReadReply m
  | 0x25 => kilnWriteReply m
  | 0x30 => chainPostReply m
  | 0x31 => stopReply m
  | 0x32 => forceStopReply m
  | 0x33 => resumeReply m
  | 0x34 => dirtyScanReply m
  | 0x35 => stateExportReply m
  | 0x36 => stateImportReply m
  | 0x40 => attestReply m
  | 0x50 => errorReadReply m
  | 0x51 => snapshotTriggerReply m
  | 0x52 => snapshotReadReply m
  | _ => deny .badType

/-- A request of another type discards the image begun in its scope (R46). -/
def State.dropImages (s : State) (m : Message) : State :=
  if m.isModule then (if m.type = 0x04 then s else { s with control := { s.control with firmware := none } })
  else if m.type = 0x12 ∨ 16 ≤ m.part then s
  else s.mapPart m.part (fun p => { p with image := none })

/-- A piece whose length breaks the limits discards the image that it would have continued (R46). -/
def State.dropImage (s : State) (m : Message) : State :=
  if m.type = 0x04 then { s with control := { s.control with firmware := none } }
  else if m.type = 0x12 then s.mapPart m.part (fun p => { p with image := none })
  else s

/-- The checks of every type in the order of their status codes, then the type's own (R43, R44). -/
def State.perform (s : State) (m : Message) : Reply :=
  match scopeOf m.type with
  | none => deny .badType s
  | some scope =>
    if m.reserved then deny .badType s
    else if !scope.takes m.part then deny .badPart s
    else
      let s1 := s.dropImages m
      if s1.forbids m then deny .badState s1
      else if 8960 < m.len ∨ m.len ≠ m.payload.length then deny .badArg (s1.dropImage m)
      else handle m s1

/-- A request executed, and answered unless it completes later. -/
def State.answerRequest (s : State) (m : Message) : State :=
  match s.perform m with
  | (some (st, payload), s1) => s1.respond m.header st payload
  | (none, s1) => s1

/-- A request tried: whether it has been executed, and the state. One that needs other modules to know of a poisoned line first (R135) goes
on waiting. -/
def State.runRequest (s : State) (m : Message) : Bool × State :=
  match s.attempt (.request m.header) (fun s => s.answerRequest m) with
  | .made t => (true, t)
  | a => (false, a.state s)

/-- A request that has been executed waits no more. -/
def State.forgetTime (s : State) (m : Message) : State :=
  { s with control := { s.control with times := s.control.times.filter (fun x => x.1 != m.seq) } }

/-- The requests that need wait no longer, in acceptance order (R42). -/
def State.releaseFrom (before : List Message) : List Message → State → State
  | [], s => { s with control := { s.control with waiting := before } }
  | m :: ms, s =>
    if s.mustWait m before then State.releaseFrom (before ++ [m]) ms s
    else
      match s.runRequest m with
      | (true, s1) => State.releaseFrom before ms (s1.forgetTime m)
      | (false, s1) => State.releaseFrom (before ++ [m]) ms s1

def State.release (s : State) : State := State.releaseFrom [] s.control.waiting s

/-- A request accepted (R41, R42). -/
def State.takeRequest (s : State) (m : Message) : State :=
  let s1 : State := { s with control := s.control.accept m }
  let wait (s : State) : State :=
    { s with control := { s.control with waiting := s.control.waiting ++ [m], times := s.control.times ++ [(m.seq, s.timeBase)] } }
  if s1.mustWait m s1.control.waiting then wait s1
  else
    match s1.runRequest m with
    | (true, s2) => s2.release
    | (false, s2) => wait s2

/-- A request arrives: one out of sequence is discarded (R41). A recovered module without its port meets none (R32). -/
def arriveRequest (name : String) (due : Message → Bool) (s : State) : Outcome State Fault Refusal :=
  let m := s.control.arrived
  if s.health.noPort || m.resp || s.control.isDuplicate m || !due m then .refused (.notDue name)
  else if s.control.isNext m then .next (s.takeRequest m)
  else .next s

/-- A request of one type. -/
def arriveType (name : String) (ty : Nat) (s : State) : Outcome State Fault Refusal :=
  arriveRequest name (fun m => m.type == ty) s

/-! ## What ends a partition's waiting -/

/-- A partition after something that may have ended a STOP, a FORCE_STOP or the waiting of imported copies and of requests, or have changed
what is reserved (R42, R51, R53, R68, R81). -/
def State.settle (s : State) (part : Nat) : State :=
  ((((s.completeStop part).completeForce part).retakeCopies part).reserve part).release

/-- The module after an answer or an acknowledgement for which a post, an imported copy or a request may wait. -/
def State.goOn (s : State) : State :=
  let s1 := (s.tiles.map Prod.fst).foldl (fun s n => s.duePosts n ((s.tile n).postings.length)) s
  ((s1.parts.map Prod.fst).foldl (fun s p => s.retakeCopies p) s1).release

/-- A job as an expired STOP leaves it: the implicit checkpoint is abandoned unless the reserve asked for one (R53). -/
def Job.resumeStop (j : Job) : Job :=
  let reached := match j.log with
    | some f => decide ((f.pages - f.reserve) * 65536 < 65536 + 80 * j.records)
    | none => false
  let asked := if reached then j.asked else j.asked.filter Option.isSome
  let j1 := { j with asked := asked, stopAsked := false, stopped := false }
  if j.state = .quiescing ∧ asked.isEmpty = true then { j1 with state := if j.serialRun then .serial else .open_ } else j1

/-- STOP_TIMEOUT (R53). A look at a STOP that has nothing left to wait for completes it. -/
def execStopTimeout (part : Nat) (s : State) : Outcome State Fault Refusal :=
  if 16 ≤ part then .fault (.absent "partition")
  else
    let s1 := s.settle part
    match (s1.part part).stopping with
    | some st =>
      if (s1.timeBase - st.since).toNat < 1000 * st.limit then .refused (.notDue "STOP_TIMEOUT")
      else
        let p := s1.part part
        let s2 := s1.setPart part { p with stopping := none, jobs := p.jobs.map Job.resumeStop }
        .next (s2.respond st.request .timeout []).release
    | none => if (s.part part).stopping.isSome then .next s1 else .refused (.notDue "STOP_TIMEOUT")

/-- SNAPSHOT_LATCH (R249). -/
def execSnapshotLatch (s : State) : Outcome State Fault Refusal :=
  match s.snapshot.due with
  | some t =>
    if s.timeBase < t then .refused (.notDue "SNAPSHOT_LATCH")
    else
      let tiles := match s.snapshot.early with | some (n, x) => mset {} s.tiles n x | none => s.tiles
      .next { s with
        snapshot := { s.snapshot with due := none, early := none, latched := some (tiles, s.fresh) }
        fresh := s.fresh + 2048 }
  | none => .refused (.notDue "SNAPSHOT_LATCH")

/-! ## A step for each request -/

/-- DUPLICATE_REQUEST (R41): the response kept is sent again, or the duplicate waits for it. -/
def execDuplicateRequest (s : State) : Outcome State Fault Refusal :=
  let c := s.control
  let m := c.arrived
  if s.health.noPort || m.resp then .refused (.notDue "DUPLICATE_REQUEST")
  else
    match c.kept.find? (fun k => k.1 == m.seq) with
    | some (_, some r) => .next { s with control := { c with sent := c.sent ++ [r] } }
    | some (_, none) => .next { s with control := { c with again := c.again ++ [m.seq] } }
    | none => .refused (.notDue "DUPLICATE_REQUEST")

/-- UNASSIGNED_TYPE (R44). -/
def execUnassignedType (s : State) : Outcome State Fault Refusal :=
  arriveRequest "UNASSIGNED_TYPE" (fun m => (scopeOf m.type).isNone) s

/-- INFO (R45). -/
def execInfo (s : State) : Outcome State Fault Refusal := arriveType "INFO" 0x01 s

/-- RECORD_CLEAR (R33). -/
def execRecordClear (s : State) : Outcome State Fault Refusal := arriveType "RECORD_CLEAR" 0x02 s

/-- POWER_CAP (R44). -/
def execPowerCap (s : State) : Outcome State Fault Refusal := arriveType "POWER_CAP" 0x03 s

/-- FIRMWARE_IMAGE (R46). -/
def execFirmwareImage (s : State) : Outcome State Fault Refusal := arriveType "FIRMWARE_IMAGE" 0x04 s

/-- PART_CREATE (R49). -/
def execPartCreate (s : State) : Outcome State Fault Refusal := arriveType "PART_CREATE" 0x10 s

/-- PART_DESTROY (R54). -/
def execPartDestroy (s : State) : Outcome State Fault Refusal := arriveType "PART_DESTROY" 0x11 s

/-- MONITOR_LOAD (R46, R52). -/
def execMonitorLoad (s : State) : Outcome State Fault Refusal := arriveType "MONITOR_LOAD" 0x12 s

/-- KEY_INSTALL (R61). -/
def execKeyInstall (s : State) : Outcome State Fault Refusal := arriveType "KEY_INSTALL" 0x13 s

/-- KEY_CLEAR (R61). -/
def execKeyClear (s : State) : Outcome State Fault Refusal := arriveType "KEY_CLEAR" 0x14 s

/-- The OP of a PART_CONFIG request. -/
def configOp (m : Message) : Nat := le m.payload 0 1

/-- PART_CONFIG_READ (R57): OP 0, or an OP that is none of the three and gets BAD_ARG. -/
def execPartConfigRead (s : State) : Outcome State Fault Refusal :=
  arriveRequest "PART_CONFIG_READ" (fun m => m.type == 0x15 && configOp m != 1 && configOp m != 2) s

/-- PART_CONFIG_REPLACE (R57). -/
def execPartConfigReplace (s : State) : Outcome State Fault Refusal :=
  arriveRequest "PART_CONFIG_REPLACE" (fun m => m.type == 0x15 && configOp m == 1) s

/-- PART_CONFIG_APPEND (R57). -/
def execPartConfigAppend (s : State) : Outcome State Fault Refusal :=
  arriveRequest "PART_CONFIG_APPEND" (fun m => m.type == 0x15 && configOp m == 2) s

/-- MEM_WRITE (R55). -/
def execMemWrite (s : State) : Outcome State Fault Refusal := arriveType "MEM_WRITE" 0x20 s

/-- MEM_READ (R55). -/
def execMemRead (s : State) : Outcome State Fault Refusal := arriveType "MEM_READ" 0x21 s

/-- MEM_WRITE_RAW (R66). -/
def execMemWriteRaw (s : State) : Outcome State Fault Refusal := arriveType "MEM_WRITE_RAW" 0x22 s

/-- MEM_READ_RAW (R66). -/
def execMemReadRaw (s : State) : Outcome State Fault Refusal := arriveType "MEM_READ_RAW" 0x23 s

/-- KILN_READ (R67). -/
def execKilnRead (s : State) : Outcome State Fault Refusal := arriveType "KILN_READ" 0x24 s

/-- KILN_WRITE (R67). -/
def execKilnWrite (s : State) : Outcome State Fault Refusal := arriveType "KILN_WRITE" 0x25 s

/-- CHAIN_POST (R75). -/
def execChainPost (s : State) : Outcome State Fault Refusal := arriveType "CHAIN_POST" 0x30 s

/-- STOP (R53). -/
def execStop (s : State) : Outcome State Fault Refusal := arriveType "STOP" 0x31 s

/-- FORCE_STOP (R51). -/
def execForceStop (s : State) : Outcome State Fault Refusal := arriveType "FORCE_STOP" 0x32 s

/-- RESUME (R53). -/
def execResume (s : State) : Outcome State Fault Refusal := arriveType "RESUME" 0x33 s

/-- DIRTY_SCAN (R65). -/
def execDirtyScan (s : State) : Outcome State Fault Refusal := arriveType "DIRTY_SCAN" 0x34 s

/-- STATE_EXPORT (R48). -/
def execStateExport (s : State) : Outcome State Fault Refusal := arriveType "STATE_EXPORT" 0x35 s

/-- STATE_IMPORT (R48). -/
def execStateImport (s : State) : Outcome State Fault Refusal := arriveType "STATE_IMPORT" 0x36 s

/-- ATTEST (R63). -/
def execAttest (s : State) : Outcome State Fault Refusal := arriveType "ATTEST" 0x40 s

/-- ERROR_READ (R69). -/
def execErrorRead (s : State) : Outcome State Fault Refusal := arriveType "ERROR_READ" 0x50 s

/-- SNAPSHOT_TRIGGER (R249): a trigger without a mask. -/
def execSnapshotTrigger (s : State) : Outcome State Fault Refusal :=
  arriveRequest "SNAPSHOT_TRIGGER" (fun m => m.type == 0x51 && le m.payload 0 4 == 0) s

/-- SNAPSHOT_ARM (R249): a trigger with a mask. -/
def execSnapshotArm (s : State) : Outcome State Fault Refusal :=
  arriveRequest "SNAPSHOT_ARM" (fun m => m.type == 0x51 && le m.payload 0 4 != 0) s

/-- SNAPSHOT_READ (R250). -/
def execSnapshotRead (s : State) : Outcome State Fault Refusal := arriveType "SNAPSHOT_READ" 0x52 s

end Sys2Proof.Machine
end

