-- ==== Sys2Proof/Machine/OffTile.lean ====
section
/-! DEFINITION. What happens to a tile's kiln operations, remote writes and messages once they have left it (R119, R159 to
R162, R175, R176, R389, R393), where the tile's own cycles do not count it (R166, R395, R398). Those for other
modules leave as requests and wait for the flits that answer them (log 10). -/

namespace Sys2Proof.Machine

open Host (Outcome)

/-- A happening that may come now, or is not due. -/
def whenDue (name : String) (r : Option State) : Outcome State Fault Refusal :=
  match r with
  | some s => .next s
  | none => .refused (.notDue name)

/-! ## Kiln operations (R119, R389, R393) -/

/-- KILN_OPERATION_PERFORM (R119). -/
def execKilnOperationPerform (tile k : Nat) (s : State) : Outcome State Fault Refusal :=
  if 1024 ≤ tile then .fault (.absent "tile")
  else if (s.tile tile).counts ((s.tile tile).kiln[k]?.bind KilnOp.due) then .refused (.notDue "KILN_OPERATION_PERFORM")
  else whenDue "KILN_OPERATION_PERFORM" (s.performKiln tile k)

/-- KN_RESULT_RETURN (R393). -/
def execKnResultReturn (tile : Nat) (s : State) : Outcome State Fault Refusal :=
  if 1024 ≤ tile then .fault (.absent "tile")
  else if (s.tile tile).counts ((firstReturning 0 (s.tile tile).kiln).bind (fun x => x.2.due)) then
    .refused (.notDue "KN_RESULT_RETURN")
  else whenDue "KN_RESULT_RETURN" (s.returnKiln tile)

/-! ## Remote writes (R159, R176, R344) -/

/-- A remote write at its destination tile: the bytes, then the semaphore that counts them. -/
def Tile.takeRput (t : Tile) (off : Nat) (r : Rput) : Tile :=
  let t1 := t.storeRuns off [(0, toBytes r.n r.data.toNat)]
  if r.ctl.getLsbD 15 then t1.addSema (field r.ctl.toNat 13 8) r.n else t1

/-- A remote write that waits for an earlier one: both write one granule of one tile. The instants at which different granules
become visible are not ordered (R176). -/
def Rput.follows (r x : Rput) : Bool :=
  let lo (y : Rput) : Nat := field y.addr.toNat 20 0 / 8
  let hi (y : Rput) : Nat := (field y.addr.toNat 20 0 + y.n - 1) / 8
  samePeer x.addr r.addr && decide (lo x ≤ hi r) && decide (lo r ≤ hi x)

/-- A remote write whose message cannot have been delivered yet (R166); once the task issues nothing more its tile has no cycles. -/
def Tile.early (t : Tile) (r : Rput) : Bool :=
  t.phase == .running && r.ready.any (fun c => decide (2 ^ 63 ≤ (t.cycles - c).toNat))

/-- REMOTE_WRITE_PERFORM (R159). -/
def execRemoteWritePerform (tile k : Nat) (s : State) : Outcome State Fault Refusal :=
  if 1024 ≤ tile then .fault (.absent "tile")
  else
    let t := s.tile tile
    let late : Outcome State Fault Refusal := .refused (.notDue "REMOTE_WRITE_PERFORM")
    match t.rputs[k]?, t.task with
    | some r, some task =>
      if r.tag.isSome || t.early r || (t.rputs.take k).any (fun x => r.follows x) then late
      else
        match s.resolve tile task r.addr.toNat 0 r.n with
        | .error c => .next (s.refuseAccess tile (fun t => t.rputDone k) c r.addr)
        | .ok (.tile m, off) => .next ((s.mapTile m (fun t => t.takeRput off r)).accessDone tile (fun t => t.rputDone k))
        | .ok (.away d, _) =>
          let sem := if r.ctl.getLsbD 15 then some (field r.ctl.toNat 13 8, r.n) else none
          if (t.rputs.take k).any (fun x => samePeer x.addr r.addr && x.tag.isNone) then late
          else
            match s.request { cls := 1, dst := d, part := task.part, job := task.job, launch := task.launch
                              cargo := .write r.addr [(0, toBytes r.n r.data.toNat)] (!t.isS) none false false sem } with
            | none => .next (s.refuseAccess tile (fun t => t.rputDone k) 3 r.addr)
            | some (tag, s1) => .next (s1.mapTile tile (fun t => { t with rputs := setNth { r with tag := some tag } t.rputs k }))
        | .ok _ => .next (s.refuseAccess tile (fun t => t.rputDone k) 1 r.addr)
    | _, _ => late

/-! ## Messages (R161, R162) -/

/-- LINK_MESSAGE_ARRIVE (R162). -/
def execLinkMessageArrive (tile k : Nat) (s : State) : Outcome State Fault Refusal :=
  if 1024 ≤ tile then .fault (.absent "tile")
  else if (s.tile tile).counts ((s.tile tile).sends[k]?.bind Outgoing.due) then .refused (.notDue "LINK_MESSAGE_ARRIVE")
  else whenDue "LINK_MESSAGE_ARRIVE" (s.deliverMessage tile k)

/-- A receive queue that reports room: the queue of a task that is resident and has fewer than 64 entries, one whose task
is gone, so that the message meets its fault, or one of another module, whenever that module says so (log 10). -/
def State.reportsRoom (s : State) (task : Task) (a : Word) : Bool :=
  match s.peer task (field a.toNat 55 48) (field a.toNat 41 32) with
  | .ok (some n, _) => decide (((s.tile n).queue (linkQueue a)).length < 64)
  | .ok (none, _) => true
  | .error _ => !s.switchedOut task a

/-- LINK_RESEND (R162). -/
def execLinkResend (tile k : Nat) (s : State) : Outcome State Fault Refusal :=
  if 1024 ≤ tile then .fault (.absent "tile")
  else
    let t := s.tile tile
    match t.sends[k]?, t.task with
    | some m, some task =>
      if m.refused && s.reportsRoom task m.dest then .next (s.mapTile tile (fun t => t.markSend k m false))
      else .refused (.notDue "LINK_RESEND")
    | _, _ => .refused (.notDue "LINK_RESEND")

end Sys2Proof.Machine
end

