-- ==== Sys2Proof/Machine/Horizon.lean ====
section
/-! DEFINITION. Horizon-link flits that arrive, acknowledgements, retraining, failed ports and the switch of routes (R21 to R27,
R95, R135, R159, R160, R450). -/

namespace Sys2Proof.Machine

open Host (Outcome)

/-! ## What a flit asks of the module -/

/-- A job whose memory and kiln lines take no writes of other modules (R95). -/
def State.rejects (s : State) (part job : Nat) : Bool :=
  16 ≤ part || (s.part part).state == .free || ((s.part part).job job).stopsTasks

/-- The agent that accesses of another module's tasks count as. -/
def State.foreignWho (s : State) (part job : Nat) : Who := { s.dispatcher part (some job) with user := true }

/-- Where an access of another module's task leads on this one (R79, R104). -/
def State.arrivesAt (s : State) (part job launch : Nat) (a : Word) (n : Nat) : Except Nat (Place × Nat) :=
  let k : Task :=
    { part := part, launch := launch, job := job, index := 0, total := 0, clock := 0, determ := false, serial := false
      work := .dispatched, start := [], object := 0, codeBase := 0, codeLen := 0, handler := none, clusters := 0, foot := []
      footEng := 0, spill := [], stub := none, began := 0, order := 0 }
  s.resolve 0 k a.toNat 0 n

/-- The leaves under which another module accesses memory of this one, or the cause of its fault: a leaf that is not fabric-shared with
the own rank as its home gives HOME (R124). -/
def State.homePages (s : State) (w : Who) (r : Right) : List (Nat × Nat) → Except Nat (List PageLeaf) × State
  | [] => (.ok [], s)
  | (a, n) :: ps =>
    match translate s w r a with
    | (.error c, s1) => (.error c, s1)
    | (.ok l, s1) =>
      if !l.shared || l.foreign then (.error 10, s1)
      else if (firstUnowned s1.health (s1.part w.part) l.ppa n).isSome then (.error 9, s1)
      else
        match s1.homePages w r ps with
        | (.error c, s2) => (.error c, s2)
        | (.ok ls, s2) => (.ok ({ addr := a, len := n, leaf := l } :: ls), s2)

/-- The parts of mapped lines that a range of addresses lies in. -/
def linesWithin (ls : List PageLeaf) (a n : Nat) : List PageLeaf :=
  ls.filterMap (fun x =>
    let lo := max a x.addr
    let hi := min (a + n) (x.addr + x.len)
    if lo < hi then some { addr := lo, len := hi - lo, leaf := x.at_ lo } else none)

/-- Runs written into memory from an address up for another module; a line's glaze bits come with its first granule (R124, R146). -/
def State.writeHome (s : State) (w : Who) (ls : List PageLeaf) (off : Nat) (rs : List (Nat × List Byte)) (glaze : Option Nat)
    (poison : Bool) : State :=
  match glaze, ls, rs with
  | some g, x :: _, r :: _ => s.writePiece w x.leaf x.addr (pieceMask x.addr x.len) (padLine x.addr (r.2.take x.len)) poison (some g)
  | _, _, _ => rs.foldl (fun s r => s.writeMapped w poison (linesWithin ls (off + r.1) r.2.length) r.2) s

/-- The line that a write lies in, with the grade of its leaf (R133). -/
def lineAnswer (ls : List PageLeaf) : Option (Nat × Nat) :=
  match ls with
  | [x] => some (x.leaf.phys / 64, x.leaf.grade)
  | _ => none

/-- A write of another module's task: what it answers, a cause of R128 where it does not perform (R95, R124, R134, R147, R159). -/
def State.foreignWrite (s : State) (part job launch : Nat) (a : Word) (rs : List (Nat × List Byte)) (user : Bool) (glaze : Option Nat)
    (add poison : Bool) (sem : Option (Nat × Nat)) : Answer × State :=
  let count (t : Tile) : Tile := match sem with | some (k, n) => t.addSema k n | none => t
  let w := { s.foreignWho part job with user := user }
  let span := runsEnd rs
  if s.rejects part job then ({ cause := 3 }, s)
  else
    match s.arrivesAt part job launch a span with
    | .error c => ({ cause := c }, s)
    | .ok (.memory, off) =>
      match s.homePages w .write (pagePieces off span) with
      | (.error c, s1) => ({ cause := c }, s1)
      | (.ok ls, s1) => ({ line := lineAnswer (lineLeaves ls) }, s1.writeHome w (lineLeaves ls) off rs glaze poison)
    | .ok (.kiln d, off) =>
      ({}, rs.foldl (fun s r => if add then s.addCell w d (off + r.1) r.2 poison else s.writeKiln w d (off + r.1) r.2 poison) s)
    | .ok (.tile m, off) => if poison then ({ poison := true }, s) else ({}, s.mapTile m (fun t => count (t.storeRuns off rs)))
    | .ok (.buffer m b, off) => if poison then ({ poison := true }, s) else ({}, s.mapTile m (fun t => count (t.bufferRuns b off rs)))
    | .ok _ => ({ cause := 3 }, s)

/-- Another module's copy has written the eight granules of a line (R131, R133). -/
def State.foreignLine (s : State) (part job line grade : Nat) (poison : Bool) : Answer × State :=
  if s.rejects part job then ({ cause := 3 }, s) else ({}, s.fullLine line grade poison)

/-- Poison notifies of several lines; their transaction numbers. -/
def State.notifyLines (s : State) (part job : Nat) : List Nat → List Nat × State
  | [] => ([], s)
  | a :: as =>
    let x := s.notifyPoison part job a
    let r := x.2.notifyLines part job as
    (x.1 ++ r.1, r.2)

/-- What a read of memory answers, with the glaze bits of its line where they are asked for, and the notifies that a poisoned answer
waits for (R124, R135, R146). -/
def State.readHome (s : State) (part job : Nat) (ls : List PageLeaf) (glaze : Bool) : (Answer × List Nat) × State :=
  let g := s.readMapped ls
  let o := g.2.notifyLines part job g.1.shared
  let z := match glaze, ls with | true, x :: _ => (s.readLine x.leaf x.addr).1.glaze | _, _ => 0
  (({ bytes := g.1.bytes, glaze := z, poison := g.1.poison.isSome }, o.1), o.2)

/-- A read of another module's task (R79, R104, R124). -/
def State.foreignRead (s : State) (part job launch : Nat) (a : Word) (n : Nat) (user glaze code : Bool) :
    (Answer × List Nat) × State :=
  let w := { s.foreignWho part job with user := user }
  match s.arrivesAt part job launch a n with
  | .error c => (({ cause := c }, []), s)
  | .ok (.memory, off) =>
    match s.homePages w (if code then .execute else .read) (pagePieces off n) with
    | (.error c, s1) => (({ cause := c }, []), s1)
    | (.ok ls, s1) => s1.readHome part job (lineLeaves ls) glaze
  | .ok (.kiln d, off) => (({ bytes := readBytes (s.die d).kiln off n, poison := (s.die d).kilnPoison off n }, []), s)
  | .ok (.tile m, off) => (({ bytes := readBytes (s.tile m).store off n, poison := (s.tile m).poisonedAt off n }, []), s)
  | .ok _ => (({ cause := 1 }, []), s)

/-- The dispatcher of another module latches a cell of this one, or gives its latch back, which no rollback here rejects (R408, log 10). -/
def State.foreignLatch (s : State) (part job : Nat) (cell : Word) (up : Bool) : (Answer × List Nat) × State :=
  let w := s.dispatcher part (some job)
  if up && s.rejects part job then (({ cause := 3 }, []), s)
  else
    match s.homePages w .execute [(cell.toNat, 64)] with
    | (.ok (x :: _), s1) =>
      if up then
        let g := s1.latchHere w x.leaf cell.toNat
        let o := g.2.notifyLines part job g.1.shared
        (({ bytes := g.1.bytes, poison := g.1.poison.isSome }, o.1), o.2)
      else (({}, []), s1.moveUse w x.leaf cell.toNat false)
    | (.ok [], s1) => (({}, []), s1)
    | (.error c, s1) => (({ cause := c }, []), s1)

/-- A kiln operation of another module's task. -/
def State.foreignKiln (s : State) (part job launch : Nat) (o : KilnOp) : Answer × State :=
  if s.rejects part job && o.k != 14 then ({ cause := 3 }, s)
  else
    match s.arrivesAt part job launch o.addr (knLength o.k o.addr o.c) with
    | .ok (.kiln d, off) =>
      let r := s.kilnPerform (s.foreignWho part job) o d off
      ({ bytes := if o.returns then toBytes 8 r.1.toNat else [], poison := o.returns && r.2.1 }, r.2.2)
    | .ok _ => ({ cause := 1 }, s)
    | .error c => ({ cause := c }, s)

/-- A message of another module's task: accepted, refused by a full queue or a task that is switched out, or one that meets PEER,
for no such task is resident (R79, R162). -/
def State.foreignMessage (s : State) (part job launch : Nat) (m : Outgoing) : Answer × State :=
  let index := field m.dest.toNat 41 32
  match s.resident part launch job index with
  | some n =>
    let q := linkQueue m.dest
    if 64 ≤ ((s.tile n).queue q).length then ({ refused := true }, s)
    else ({}, s.mapTile n (fun t => t.receive q { data := m.data, src := m.src, poisoned := false }))
  | none =>
    let out (x : Swapped) : Bool := x.part == part && x.launch == launch && x.index == index && x.tile.task.any (fun k => k.job == job)
    if s.dies.any (fun d => d.2.shadow.any out) then ({ refused := true }, s) else ({ cause := 3 }, s)

/-- The tile whose monitor hears of a poison notify: the first of the partition that runs a task. -/
def State.monitorTile (s : State) (part : Nat) : Option Nat :=
  (partitionTiles s (s.part part)).find? (fun n => (s.tile n).phase == .running)

/-- A poison notify (R135): entry 0x8022, and COPY_FAULT of cause 0 to the partition monitor. -/
def State.hearPoison (s : State) (part : Nat) (va : Word) : State :=
  let s1 := s.logModule 0x8022 va.toNat 0 part
  match s.monitorTile part with
  | some n => s1.mapTile n (fun t => t.alarm (copyFaultEvent 0 va))
  | none => s1

/-- An answer leaves on the requester's class order; one whose data are poisoned is held until every notify of it has been
acknowledged (R124, R135). -/
def State.sendAnswer (s : State) (f : Flit) (owed : List Nat) : State :=
  if owed.isEmpty then (s.sendFlit f).getD s else { s with answers := s.answers ++ [{ owed := owed, flit := f }] }

/-- A write of a stopped job has been answered (R95). -/
def Partition.answered (p : Partition) (tag : Nat) : Partition :=
  { p with jobs := p.jobs.map (fun j => { j with draining := j.draining.filter (fun k => k != tag) }) }

/-- An answer that has come: for the access of a tile, for a step that waits, or for a rollback that drains. An operation whose flit went
down with a port never completes (R27). -/
def State.hearAnswer (s : State) (tag : Nat) (a : Answer) : State :=
  if s.lostTag tag then s
  else
    let s1 := s.takeAnswer tag a
    let s2 : State := { s1 with parts := s1.parts.map (fun p => (p.1, p.2.answered tag)) }
    if s2.awaited.any (fun q => q.waitsFor tag) then (s2.answerAwaited tag a).goOn else s2

/-- An accepted flit performed, and the answer that it asks for, under its own transaction number. -/
def State.takeCargo (s : State) (src part job launch tag : Nat) (c : Cargo) : State :=
  let answer (a : Answer) (owed : List Nat) (t : State) : State :=
    t.sendAnswer { cls := 2, dst := src, part := part, job := job, launch := launch, tag := tag, cargo := .answer a } owed
  match c with
  | .notify va => s.hearPoison part va
  | .write a rs user glaze add poison sem => let r := s.foreignWrite part job launch a rs user glaze add poison sem; answer r.1 [] r.2
  | .line n grade poison => let r := s.foreignLine part job n grade poison; answer r.1 [] r.2
  | .read a n user glaze code => let r := s.foreignRead part job launch a n user glaze code; answer r.1.1 r.1.2 r.2
  | .latch cell up => let r := s.foreignLatch part job cell up; answer r.1.1 r.1.2 r.2
  | .kilnOp o => let r := s.foreignKiln part job launch o; answer r.1 [] r.2
  | .link m => let r := s.foreignMessage part job launch m; answer r.1 [] r.2
  | .answer a => s.hearAnswer tag a

/-! ## Acknowledgements (R25, R135) -/

/-- A held answer after some flits have been acknowledged. -/
def Held.acknowledged (x : Held) (tags : List Nat) : Held := { x with owed := x.owed.filter (fun k => !tags.contains k) }

/-- Flits of this module have been acknowledged: the copies, the answers and the steps that waited for their notifies go on. -/
def State.acknowledged (s : State) (tags : List Nat) : State :=
  let xs := s.answers.map (fun x => x.acknowledged tags)
  let qs := (s.awaited.map (fun q => q.acknowledged tags)).filter (fun q => !q.done)
  let s1 : State :=
    { s with
      answers := xs.filter (fun x => !x.owed.isEmpty)
      awaited := qs
      tiles := s.tiles.map (fun t => (t.1, t.2.acknowledged tags)) }
  let s2 := (xs.filter (fun x => x.owed.isEmpty)).foldl (fun s x => (s.sendFlit x.flit).getD s) s1
  if qs = s.awaited then s2 else s2.goOn

/-- The acknowledgement fields of a flit that passed its check. -/
def State.hearFlit (s : State) (port f : Nat) : State :=
  let p := s.port port
  let tags := p.acknowledged f
  let s1 := s.setPort port (p.hear s.sourceModule s.timeBase f)
  if tags.isEmpty then s1 else s1.acknowledged tags

/-- A port changed. -/
def State.mapPort (s : State) (n : Nat) (f : Port → Port) : State := s.setPort n (f (s.port n))

/-- A sequenced flit accepted: the expected number rises, its cargo is taken when the flit is for this module, and one that comes
before the module has a number is counted and nothing more (log 32). -/
def State.acceptFlit (s : State) (port f : Nat) : State :=
  let s1 := s.mapPort port (fun p => { p with expect := p.expect + 1, nakSent := false })
  let cls := field f 29 27
  let len := field f 71 64
  let tag := field f 23 0
  let owner := Config.cargoOwner cls len tag (flitPayload f)
  match s.domain with
  | none => s1.mapPort port (fun p => { p with discards := p.discards + 1 })
  | some d =>
    if field f 87 80 = d then
      match Config.readCargo cls len tag (flitPayload f) with
      | some c => s1.takeCargo (field f 79 72) owner.1 owner.2.1 owner.2.2 tag c
      | none => s1
    else s1

/-- FLIT_RECEIVE (R25). Reserved bits of the flit change nothing (log 50). -/
def execFlitReceive (port : Nat) (flit : BitVec 2048) (s : State) : Outcome State Fault Refusal :=
  let f := flit.toNat
  let cls := field f 29 27
  if 16 ≤ port then .fault (.absent "port")
  else if !s.portUp port then .refused (.notDue "FLIT_RECEIVE")
  else if !flitGood f then .next (s.mapPort port (fun p => p.discard s.sourceModule))
  else if 4 ≤ cls ∧ cls < 7 then .next (s.mapPort port (fun p => { p with discards := p.discards + 1 }))
  else if cls = 7 then .next (s.hearFlit port f)
  else if BitVec.ofNat 16 (field f 47 32) ≠ (s.port port).expect then
    .next ((s.hearFlit port f).mapPort port (fun p => p.discard s.sourceModule))
  else .next ((s.hearFlit port f).acceptFlit port f)

/-- ACK_ONLY_FLIT (R25). -/
def execAckOnlyFlit (port : Nat) (s : State) : Outcome State Fault Refusal :=
  if 16 ≤ port then .fault (.absent "port")
  else if s.portUp port then .next (s.mapPort port (fun p => p.acknowledge s.sourceModule false))
  else .refused (.notDue "ACK_ONLY_FLIT")

/-! ## Retraining and failure (R27) -/

/-- The jobs of a partition that use a route and have not failed. -/
def Partition.routeUsers (p : Partition) (dst : Nat) : List Nat :=
  p.jobNumbers.filter (fun j =>
    (match p.rankTable j with | some r => r.contains dst | none => false) && (p.job j).state != .failed)

/-- A route over a port that fails: it is held, and what was queued for it behind the replay buffer waits in its order, but for the flits
of jobs that have stopped. -/
def Route.hold (p : Partition) (n port : Nat) (unsent : List Flit) (r : Route) : Route :=
  if r.port = port then
    { r with
      held := true, owed := p.routeUsers r.dst
      waiting := unsent.filter (fun f => f.part == n && f.dst == r.dst && f.cls == r.cls && !(p.job f.job).stopsTasks) ++ r.waiting }
  else r

/-- A port fails: the flits of its replay buffer are discarded, those that had still to leave wait, and every route over it is
held (log 68). An access that nobody waits for is gone with its flit. -/
def State.failPort (s : State) (port : Nat) : State :=
  let unsent := (s.port port).replay.drop 1024
  let s1 : State :=
    { s with parts := s.parts.map (fun x =>
        (x.1, { x.2 with config := { x.2.config with routes := x.2.config.routes.map (fun r => r.hold x.2 x.1 port unsent) } })) }
  let s2 := s1.setPort port ((s.port port).fails (fun f => ((s.part f.part).job f.job).stopsTasks))
  { s2 with awaited := s2.awaited.filter (fun q => q.asker != .nobody || q.tags.any (fun k => !s2.lostTag k)) }

/-- PORT_RETRAIN (R27): one flit has been resent 8 times, or no ACKSEQ advance has come for 100 µs, or the retraining before has failed. -/
def execPortRetrain (port : Nat) (trained : Bool) (s : State) : Outcome State Fault Refusal :=
  let p := s.port port
  if 16 ≤ port then .fault (.absent "port")
  else if !s.portUp port || !p.mustRetrain s.timeBase then .refused (.notDue "PORT_RETRAIN")
  else if trained then .next (s.setPort port (p.resume s.sourceModule s.timeBase))
  else if p.retrains + 1 < 3 then .next (s.setPort port { p with retrains := p.retrains + 1 })
  else .next (s.failPort port)

/-- ROUTE_SWITCH (R27): the route moves to its standby port, once, and its waiting flits leave there in their order. A route over a
port that did not train leaves it as soon as it may (R32, R37). -/
def execRouteSwitch (part dst cls : Nat) (s : State) : Outcome State Fault Refusal :=
  if 16 ≤ part then .fault (.absent "partition")
  else
    let late : Outcome State Fault Refusal := .refused (.notDue "ROUTE_SWITCH")
    match (s.part part).route dst cls with
    | some r =>
      match r.standby with
      | some q =>
        if (r.held || !s.portUp r.port) && r.owed.isEmpty && s.portUp q then
          let r1 : Route := { r with port := q, standby := none, held := false, waiting := [] }
          .next ((s.mapPart part (fun p => p.setRoute r1)).setPort q (r.waiting.foldl (fun p f => p.push s.sourceModule s.timeBase f) (s.port q)))
        else late
      | none => late
    | none => late

end Sys2Proof.Machine
end

