-- ==== Sys2Proof/Machine/Module.lean ====
section
/-! DEFINITION. The module's starts under its flash records, edges that go down, heat and droop, and the scrub (R17, R31 to
R37, R62, R132, R133, R221, R222). -/

namespace Sys2Proof.Machine

open Host (Outcome)

/-! ## Flash records (R33, R34) -/

/-- The record of a step and unit; a record of a reserved form is ignored. -/
def recordOf (fl : List FlashRecord) (step unit : Nat) : Option FlashRecord :=
  fl.find? (fun r => r.step.toNat == step && r.unit.toNat == unit && decide (r.form.toNat < 3))

/-- Whether a unit has a record of a form. -/
def hasForm (fl : List FlashRecord) (step unit form : Nat) : Bool := (recordOf fl step unit).any (fun r => r.form.toNat == form)

/-- A record with another form, written in this start. -/
def setForm (fl : List FlashRecord) (step unit form : Nat) (code start : BitVec 32) : List FlashRecord :=
  fl.map (fun r =>
    if r.step.toNat = step ∧ r.unit.toNat = unit ∧ r.form.toNat < 3 then
      { r with form := BitVec.ofNat 8 form, code := code, start := start } else r)

/-- A failure of a step for a unit recorded (R33): pending at first, skipped when its alternative form failed. A full flash
takes no further record (R34). -/
def recordFailure (fl : List FlashRecord) (step unit : Nat) (code start : BitVec 32) : List FlashRecord :=
  match recordOf fl step unit with
  | none =>
    if 512 ≤ fl.length then fl
    else fl ++ [{ start := start, code := code, form := 0, unit := BitVec.ofNat 16 unit, step := BitVec.ofNat 8 step }]
  | some _ => setForm fl step unit 2 code start

/-! ## One start (R32) -/

/-- The units of each step. -/
def stepUnits (step : Nat) : Nat :=
  if step = 4 then 16 else if step = 5 then 24 else if step = 6 then 8 else if step = 7 then 32 else if step = 8 then 16 else 1

/-- How a step ends for a unit: its failure code, if it fails in the form in which it runs. -/
def stepFails (b : BringUp) (fl : List FlashRecord) (step unit : Nat) : Option Lane :=
  let failing (fs : List StepFailure) : Option Lane := (fs.find? (fun f => f.step == step && f.unit == unit)).map StepFailure.code
  match recordOf fl step unit with
  | none => failing b.fails
  | some r => if r.form = 2 then none else failing b.altFails

/-- The units for which a step fails. -/
def failures (b : BringUp) (fl : List FlashRecord) (step : Nat) : List (Nat × Lane) :=
  (upFrom 0 (stepUnits step)).filterMap (fun u => (stepFails b fl step u).map (fun c => (u, c)))

/-- The steps from one on: the flash at their end, and whether a failure calls for a warm restart. Every record of the step
that failed is written first. -/
def runSteps (b : BringUp) (start : BitVec 32) : List Nat → List FlashRecord → List FlashRecord × Bool
  | [], fl => (fl, false)
  | step :: rest, fl =>
    let bad := failures b fl step
    let good := fl.map (fun r =>
      if r.step.toNat = step ∧ r.form = 0 ∧ bad.any (fun x => x.1 == r.unit.toNat) = false then { r with form := 1, start := start }
      else r)
    if bad.isEmpty then runSteps b start rest good
    else (bad.foldl (fun fl x => recordFailure fl step x.1 x.2 start) good, true)

/-- Starts until one ends without a failure: the flash and the count of the last start, and whether step 1 has no form left
or failed because the flash is full (R34). -/
def startsFrom (b : BringUp) : Nat → List FlashRecord → BitVec 32 → List FlashRecord × BitVec 32 × Bool
  | 0, fl, n => (fl, n, false)
  | k + 1, fl, n =>
    if 512 ≤ fl.length ∨ hasForm fl 1 0 2 = true then (fl, n, true)
    else
      match runSteps b n (upFrom 1 8) fl with
      | (fl1, false) => (fl1, n, false)
      | (fl1, true) => startsFrom b k fl1 (n + 1)

/-! ## What a start leaves (R32, R35 to R37) -/

/-- The units that a step has skipped. -/
def skipped (fl : List FlashRecord) (step : Nat) : List Nat := (upFrom 0 (stepUnits step)).filter (fun u => hasForm fl step u 2)

/-- A module in its recovery state: no step after the first has run, so no unit is in use. -/
def Health.recovering : Health :=
  { recovery := true, deadDies := upFrom 0 16, downEdges := upFrom 0 24, deadStacks := upFrom 0 8, deadLpddr := upFrom 0 32
    deadPorts := upFrom 0 16 }

/-- The units in use after a start that ended. -/
def healthAfter (b : BringUp) (fl : List FlashRecord) : Health :=
  { noPort := hasForm fl 2 0 2, noKeys := hasForm fl 3 0 2, deadDies := skipped fl 4
    deadRouters := b.badRouters.filter (fun d => hasForm fl 4 d 2), downEdges := skipped fl 5, deadStacks := skipped fl 6
    deadLpddr := skipped fl 7, deadPorts := skipped fl 8, badTiles := b.badTiles, badChannels := b.badChannels }

/-- The report that step 9 sends: the contents of INFO; its header is not stated. -/
def State.bringUpReport (s : State) : State :=
  let r : Response :=
    { header := BitVec.append (Config.freeWord s.fresh) (Config.freeWord (s.fresh + 1)), payload := s.infoBytes }
  let s1 : State := { s with fresh := s.fresh + 2 }
  if s.health.noPort then s1 else { s1 with control := { s1.control with sent := s1.control.sent ++ [r] } }

/-- The module after its starts. Everything but the flash, the firmware slots and what names the module begins afresh. -/
def State.started (s : State) (b : BringUp) : State :=
  match startsFrom b 400 s.flash (s.startCount + 1) with
  | (fl, n, recovery) =>
    let boot := if hasForm fl 1 0 1 then 1 - s.primary else s.primary
    let s1 : State :=
      { stepping := s.stepping, serial := s.serial, flash := fl, startCount := n, bootSlot := boot, primary := s.primary
        slots := s.slots, mf := extend 0 (mget [] s.slots boot), control := { arrived := s.control.arrived }
        health := if recovery then Health.recovering else healthAfter b fl
        agenda := s.agenda, cur := s.cur, fresh := s.fresh }
    if recovery then { s1 with bootSlot := s.bootSlot, mf := 0 } else s1.bringUpReport

/-- MODULE_START (R32). -/
def execModuleStart (b : BringUp) (s : State) : Outcome State Fault Refusal := .next (s.started b)

/-- COLD_POWER_CYCLE (R33). -/
def execColdPowerCycle (b : BringUp) (s : State) : Outcome State Fault Refusal :=
  .next (({ s with flash := s.flash.filter (fun r => r.step.toNat != 2) } : State).started b)

/-! ## Module faults (R17, R31) -/

/-- A switched-out or resident task of a job lies on a die. -/
def State.jobOn (s : State) (part job d : Nat) : Bool :=
  s.tiles.any (fun t => dieOf t.1 == d && t.2.hasJob part job) || (s.die d).shadow.any (fun x => x.tile.hasJob part job)

/-- The jobs that have a task on one of some dies. -/
def State.jobsOn (s : State) (ds : List Nat) : List (Nat × Nat) :=
  s.parts.flatMap (fun p => (p.2.jobNumbers.filter (fun j => ds.any (s.jobOn p.1 j))).map (fun j => (p.1, j)))

/-- A module fault of some dies rolls every job back that has a task there. -/
def State.moduleFault (s : State) (ds : List Nat) : State :=
  (s.jobsOn ds).foldl (fun s x => (s.rollback x.1 x.2 .moduleFault).settle x.1) s

/-- EDGE_DOWN (R17): the failure is on record for the next start. An edge that is down already does not go down again. -/
def execEdgeDown (edge : Nat) (s : State) : Outcome State Fault Refusal :=
  if 24 ≤ edge then .fault (.absent "edge")
  else if edgeDown s.health edge || s.health.lostEdges.contains edge then .refused (.notDue "EDGE_DOWN")
  else
    let code := BitVec.setWidth 32 (Config.freeWord s.fresh)
    let s1 : State :=
      { s.nextFree with flash := recordFailure s.flash 5 edge code s.startCount
                        health := { s.health with lostEdges := addTo edge s.health.lostEdges } }
    .next (s1.moduleFault [(edgeDies edge).1, (edgeDies edge).2])

/-- THERMAL_CEILING_LOWER (R31, R221): one step of 100 MHz, to no less than 2.0 GHz. -/
def execThermalCeilingLower (die : Nat) (s : State) : Outcome State Fault Refusal :=
  if 16 ≤ die then .fault (.absent "die")
  else .next (s.mapDie die (fun d => { d with ceiling := max 2000 (d.ceiling - 100) }))

/-- Whether the firmware has lowered a die's elastic ceiling (R31). -/
def Die.lowered (d : Die) : Bool := decide (d.ceiling < ({} : Die).ceiling)

/-- THERMAL_DISPATCH_STOP (R31), at a junction temperature of 105 °C or at the module's power cap. It comes after the ceiling
was lowered. -/
def execThermalDispatchStop (heat : DieHeat) (s : State) : Outcome State Fault Refusal :=
  if 16 ≤ heat.die then .fault (.absent "die")
  else if (s.die heat.die).lowered = false ∨ heat.celsius < 105 ∧ heat.watts < s.powerCap then
    .refused (.notDue "THERMAL_DISPATCH_STOP")
  else .next (s.mapDie heat.die (fun d => { d with noDispatch := true }))

/-- THERMAL_FORCE_STOP (R31), at 115 °C. It comes after the stop of dispatch. -/
def execThermalForceStop (heat : DieHeat) (s : State) : Outcome State Fault Refusal :=
  if 16 ≤ heat.die then .fault (.absent "die")
  else if (s.die heat.die).noDispatch = false ∨ heat.celsius < 115 then .refused (.notDue "THERMAL_FORCE_STOP")
  else .next (s.moduleFault [heat.die])

/-! ## Droop (R221, R222) -/

/-- DROOP_STRETCH (R221): the cycles of an elastic tile are longer by so many sixteenths, none once the droop has passed. -/
def execDroopStretch (tile sixteenths : Nat) (s : State) : Outcome State Fault Refusal :=
  if 1024 ≤ tile then .fault (.absent "tile")
  else if 16 < sixteenths ∨ (s.tile tile).fixed = true then .refused (.notDue "DROOP_STRETCH")
  else .next (s.mapTile tile (fun t => { t with stretch := sixteenths }))

/-- EMERGENCY_DROOP_STRETCH (R222). -/
def execEmergencyDroopStretch (die cycles : Nat) (s : State) : Outcome State Fault Refusal :=
  if 16 ≤ die then .fault (.absent "die")
  else if (s.die die).pinned then .next (s.mapDie die (fun d => { d with estr := d.estr + BitVec.ofNat 64 cycles }))
  else .refused (.notDue "EMERGENCY_DROOP_STRETCH")

/-! ## Errors in the memories (R129, R132, R133, R137) -/

/-- The bits that a code protects in one line, or one word of an on-die SRAM: data bits first (R129, log 30). -/
def codedBits (grade : Nat) : Nat := if grade = 0 then 576 else if grade = 1 then 548 else if grade = 2 then 520 else 72

/-- The part of a line or word that one code word of a grade covers, by a bit of it: the Reed-Solomon symbol, the 128-bit quarter,
the 64-bit word of even parity, or the SRAM word. -/
def codePart (grade bit : Nat) : Nat :=
  if grade = 0 then bit / 8
  else if grade = 1 then (if bit < 512 then bit / 128 else (bit - 512) / 9)
  else if grade = 2 then (if bit < 512 then bit / 64 else bit - 512)
  else 0

/-- How many bits are wrong in each part. -/
def wrongCounts (grade : Nat) (wrong : List Nat) : List Nat :=
  (upFrom 0 (if grade = 0 then 72 else 8)).map (fun u =>
    ((upFrom 0 (codedBits grade)).filter (fun b => wrong.contains b && codePart grade b == u)).length)

/-- What a code makes of some wrong bits: nothing is wrong, it corrects them, it detects them, it takes the line as it stands for
right, or they are more than the code is stated to detect. -/
inductive Verdict where
  | clean
  | corrected
  | uncorrectable
  | unseen
  | beyond
  deriving DecidableEq, Repr

/-- The code of a grade on some wrong bits (R129): S corrects 3 symbols of 8 bits and detects 5, SEC-DED corrects one bit of a part
and detects two, parity detects an odd number. -/
def verdict (grade : Nat) (wrong : List Nat) : Verdict :=
  let n := wrongCounts grade wrong
  if n.all (fun k => k == 0) then .clean
  else if grade = 0 then
    let symbols := (n.filter (fun k => k != 0)).length
    if symbols ≤ 3 then .corrected else if symbols ≤ 5 then .uncorrectable else .beyond
  else if grade = 2 then (if n.any (fun k => k % 2 == 1) then .uncorrectable else .unseen)
  else if n.any (fun k => k == 2) then .uncorrectable
  else if n.all (fun k => decide (k ≤ 1)) then .corrected
  else .beyond

/-- The partition that owns a die, or module scope. -/
def State.ownerOf (s : State) (d : Nat) : Nat := ((s.parts.find? (fun p => p.2.dies.getLsbD d)).map Prod.fst).getD 0xFF

/-- What is read: the controller or bank that counts, the address, the die, its tile if any, and the grade. -/
structure Scrubbed where
  counter : Nat
  addr    : Nat
  die     : Nat
  tile    : Option Nat
  grade   : Nat
  deriving DecidableEq, Repr

/-- The bank of a tile's memories that holds a word (R111, log 30): one of the 32 of the store, or an operand buffer or accumulator
bank. -/
def tileBank (word : Nat) : Nat :=
  let a := 8 * word
  if a < 2 ^ 21 then field a 10 6
  else if a < 2 ^ 21 + 2 ^ 18 then 32 + (a - 2 ^ 21) / 65536
  else 36 + (a - 2 ^ 21 - 2 ^ 18) / 131072

/-- A 64-byte line of memory, or a 64-bit word of a die's kiln or of a tile's memories. The address of a memory line is its module-wide
place: stack s from s × 2^36 up, LPDDR6 channel c from 2^40 + c × 2^35 up (log 64). -/
def State.scrubbed (s : State) (unit : Store) (line : Nat) : Scrubbed :=
  match unit with
  | .memory =>
    { counter := controllerOf s.health (64 * line), addr := 64 * line, die := ownerDie s.health (64 * line), tile := none
      grade := mget 0 s.grades line }
  | .kiln d => { counter := 1024 + 64 * d + field (8 * line) 12 7, addr := 8 * line, die := d, tile := none, grade := 3 }
  | .tile n => { counter := 4096 + 64 * n + tileBank line, addr := 8 * line, die := dieOf n, tile := some n, grade := 3 }

/-- An error entry of a finding. -/
def State.logFinding (s : State) (x : Scrubbed) (code info : Nat) : State :=
  match x.tile with
  | some n => s.logTile code info x.addr (s.ownerOf x.die) n
  | none => s.logDie code info x.addr (s.ownerOf x.die) x.die

/-- A corrected error counted; each 1,024th of a counter is entered. -/
def State.countCorrected (s : State) (x : Scrubbed) : State :=
  let n := mget 0 s.corrected x.counter + 1
  let s1 : State := { s with corrected := mset 0 s.corrected x.counter n }
  if n % 1024 = 0 then s1.logFinding x 0x8020 n else s1

/-- The line or word poisoned. -/
def State.poisonLine (s : State) (unit : Store) (line : Nat) : State :=
  match unit with
  | .memory => { s with badLines := addTo line s.badLines }
  | .kiln d => s.mapDie d (fun k => { k with badWords := addTo line k.badWords })
  | .tile n => s.mapTile n (fun t => { t with badWords := addTo line t.badWords })

/-- A line or word that is poisoned already, which every read decodes as poisoned. -/
def State.poisonedLine (s : State) (unit : Store) (line : Nat) : Bool :=
  match unit with
  | .memory => s.badLines.contains line
  | .kiln d => (s.die d).badWords.contains line
  | .tile n => (s.tile n).badWords.contains line

/-- A 64-bit word of a tile's memories, by its extended address, with another content. -/
def Tile.putWord (t : Tile) (word : Nat) (v : Word) : Tile :=
  let bs := toBytes 8 v.toNat
  if word < 2 ^ 18 then { t with store := writeBytes t.store (8 * word) bs }
  else if word < 2 ^ 18 + 2 ^ 15 then { t with buffers := writeBytes t.buffers (8 * (word - 2 ^ 18)) bs }
  else
    let k := word - 2 ^ 18 - 2 ^ 15
    let old := toBytes 32 (mget 0 t.acc (k / 4)).toNat
    let new := old.take (8 * (k % 4)) ++ bs ++ old.drop (8 * (k % 4) + 8)
    { t with acc := mset 0 t.acc (k / 4) (BitVec.ofNat 256 (ofBytes new)) }

/-- A line or word with more bits wrong than its code is stated to detect, taken for right: its content is undefined. -/
def State.garble (s : State) (unit : Store) (line : Nat) : State :=
  let bytes (n : Nat) := (upFrom 0 n).map (Config.freeByte s.fresh)
  match unit with
  | .memory => { s.nextFree with memory := writeBytes s.memory (64 * line) (bytes 64) }
  | .kiln d => s.nextFree.mapDie d (fun k => { k with kiln := writeBytes k.kiln (8 * line) (bytes 8) })
  | .tile n => s.nextFree.mapTile n (fun t => t.putWord line (Config.freeWord s.fresh))

/-- A line of grade P with an even number of bits wrong in each word, which its parity does not show. -/
def State.flipBits (s : State) (line : Nat) (wrong : List Nat) : State :=
  let mask := (((upFrom 0 512).filter wrong.contains).map (fun b => 2 ^ b)).sum
  { s with memory := writeBytes s.memory (64 * line) (toBytes 64 (ofBytes (s.rawLine line) ^^^ mask)) }

/-- A unit that the module has, and a line of it. -/
def scrubAbsent (h : Health) (unit : Store) (line : Nat) : Bool :=
  match unit with
  | .memory =>
    let a := 64 * line
    if 2 ^ 40 ≤ a then decide (2 ^ 41 ≤ a) || h.deadLpddr.contains ((a - 2 ^ 40) / 2 ^ 35)
    else decide (2 ^ 39 ≤ a) || h.deadStacks.contains (a / 2 ^ 36) || decide (2 * hbmHalf h (2 * (a / 2 ^ 36)) ≤ a % 2 ^ 36)
  | .kiln d => decide (16 ≤ d) || decide (2 ^ 22 ≤ line)
  | .tile n => decide (1024 ≤ n) || decide (2 ^ 18 + 2 ^ 16 ≤ line)

/-- An error that the code cannot correct: the line is poisoned, and the finding entered (R133). -/
def State.uncorrectable (s : State) (unit : Store) (line : Nat) (byRead : Bool) : State :=
  let x := s.scrubbed unit line
  (s.poisonLine unit line).logFinding x 0x8021 (x.grade + (if byRead then 0 else 2 ^ 8))

/-- MEMORY_SCRUB (R132), and the same finding by a read just before that read is made (log 55). -/
def execMemoryScrub (unit : Store) (line : Nat) (found : Finding) (s : State) : Outcome State Fault Refusal :=
  if scrubAbsent s.health unit line then .fault (.absent "line")
  else if s.poisonedLine unit line then .next s
  else
    let x := s.scrubbed unit line
    match verdict x.grade found.wrong with
    | .clean => .next s
    | .corrected => .next (s.countCorrected x)
    | .uncorrectable => .next (s.uncorrectable unit line found.byRead)
    | .unseen => .next (s.flipBits line found.wrong)
    | .beyond =>
      if Config.freeBit s.fresh then .next (s.nextFree.uncorrectable unit line found.byRead) else .next (s.garble unit line)

end Sys2Proof.Machine
end

