-- ==== Sys2Proof/Machine/Preempt.lean ====
section
/-! DEFINITION. Switching a task out of its tile and restoring it (R84, R158, R175, R243 to R248, R300, R385). -/

namespace Sys2Proof.Machine

/-- A tile that waits for nothing before its switch-out: started chunks have landed, and every kiln operation, remote write
and message has performed (R158, R175). -/
def Tile.quiet (t : Tile) : Bool :=
  t.kiln.isEmpty && t.rputs.isEmpty && t.sends.isEmpty && t.postings.isEmpty && !t.copies.any CopyCmd.inFlight

/-- The lowest clear chunk of a command, where it restarts (R158). -/
def CopyCmd.rewound (c : CopyCmd) : CopyCmd :=
  let low := ((upFrom 0 c.record.chunks).find? (fun i => !c.map.getLsbD i)).getD c.started
  { c with
    started := low, redo := low, age := 0, lost := 0
    moves := (c.moves.filter (fun m => m.folded != 0)).map (fun m => { chunk := m.chunk, folded := m.folded }) }

/-- A tile as its context and swap record keep it. -/
def Tile.captured (t : Tile) : Tile :=
  { t with
    phase := .running, code := [], fills := [], fillFault := none, held := none, holds := 0, stall := none, stretch := 0
    copyCache := [], copies := t.copies.map CopyCmd.rewound, user := { t.user with units := {} }
    monitor := {}, matrix := { t.matrix with preempt := false } }

/-- Undefined bytes in every page of a swap area: the layout of the record, and so which bytes it writes, is not
architectural (R247). -/
def State.writeSwap (s : State) (part die : Nat) : State :=
  let d := s.die die
  let bytes := (upFrom 0 (65536 * d.swapPages.toNat)).map (Config.freeByte s.fresh)
  (s.nextFree.writeVirtual (s.dispatcher part none) d.swapBase.toNat bytes false).2

/-- A tile's state fits the slots and pages that are free (R247). -/
def State.fitsSwap (s : State) (n : Nat) (k : Task) : Bool :=
  let d := s.die (dieOf n)
  d.freeSlot.isSome && decide (swapSize (s.tile n) k ≤ d.freePages)

/-- The switch-out completes: the context goes to the lowest free slot, the swap record to the swap area, and the tile
becomes idle (R244). When the record no longer fits, the task is not pre-empted and goes on. -/
def State.switchOut (s : State) (n : Nat) : State :=
  let t := s.tile n
  let die := dieOf n
  match t.task with
  | none => s
  | some k =>
    if s.fitsSwap n k then
      let x : Swapped :=
        { slot := (s.die die).freeSlot.getD 0, pages := swapSize t k, launch := k.launch, part := k.part, index := k.index
          rejoined := s.timeBase, tile := t.captured }
      (((s.forgetFills n).mapDie die (fun d => { d with shadow := d.shadow ++ [x] })).mapTile n Tile.emptied).writeSwap k.part die
    else s.mapTile n (fun t => { t with phase := .running, matrix := { t.matrix with preempt := false } })

/-! ## Resumption (R245, R300) -/

/-- A byte of the tile store inside the declared footprint. -/
def Task.keeps (k : Task) (a : Nat) : Bool := k.foot.any (fun r => decide (r.1 ≤ a) && decide (a < r.1 + r.2))

/-- A byte of an operand buffer, or a slice of an accumulator bank, that the footprint names (R297). -/
def Task.keepsBuffer (k : Task) (a : Nat) : Bool := k.footEng.getLsbD (a / 65536)
def Task.keepsSlice (k : Task) (i : Nat) : Bool := k.footEng.getLsbD (4 + i / 4096)

/-- A poisoned word of the kept memories, by its extended address (R384). -/
def Task.keepsWord (k : Task) (w : Nat) : Bool :=
  let a := 8 * w
  if a < 2 ^ 21 then k.keeps a
  else if a < 2 ^ 21 + 2 ^ 18 then k.keepsBuffer (a - 2 ^ 21)
  else k.keepsSlice ((a - 2 ^ 21 - 2 ^ 18) / 32)

/-- A switched-out tile as it comes back: what the footprint does not name is zero. -/
def Swapped.restored (x : Swapped) (old : Tile) (k : Task) : Tile :=
  let t := x.tile
  { t with
    task := some { k with began := x.rejoined }, code := old.code, stretch := old.stretch
    monitor := { s := old.monitor.s }
    shapes := t.shapes.filter (fun e => t.defined.contains e.1)
    store := t.store.filter (fun c => k.keeps c.1), buffers := t.buffers.filter (fun c => k.keepsBuffer c.1)
    acc := t.acc.filter (fun e => k.keepsSlice e.1), badWords := t.badWords.filter k.keepsWord }

/-- The shape slots that cp.defs had written, restored from the swap record over those of the code object (R300). -/
def Tile.withDefined (t old : Tile) : Tile :=
  { t with shapes := old.defined.foldl (fun m i => mset 0 m i (mget 0 old.shapes i)) t.shapes }

/-- A switched-out task restored onto a tile: the swap record, the context, the images of the code object, the pins. -/
def State.resume (s : State) (x : Swapped) (n : Nat) : State :=
  match x.tile.task with
  | none => s
  | some k =>
    let die := dieOf n
    let s1 := s.mapDie die (fun d =>
      { d with shadow := d.shadow.filter (fun y => y.slot != x.slot), pinned := d.pinned || x.tile.fixed })
    let s2 := s1.setTile n (x.restored (s1.tile n) k)
    match (s.part k.part).objects.find? (fun o => o.addr == k.object), ((s.part k.part).launch? k.launch).bind Launch.object with
    | some o, _ | none, some o =>
      let w := s.dispatcher k.part (some k.job)
      let s3 := (o.sections.map sectionOf).foldl (fun s y => s.placeSection w n o.addr false y) s2
      (s3.mapTile n (fun t => t.withDefined x.tile)).pinObject n k o
    | none, none => s2

end Sys2Proof.Machine
end

