-- ==== Sys2Proof/Machine/Scheduler.lean ====
section
/-! DEFINITION. The dispatcher's own steps: READY launches, dispatch, gangs, retirement, checkpoints, replay, resumption and
the fabric clock (R29, R76 to R88, R95, R98 to R100, R245). -/

namespace Sys2Proof.Machine

open Host (Outcome)

/-- A step of a partition that the module has. -/
def ofPartition (part : Nat) (f : Outcome State Fault Refusal) : Outcome State Fault Refusal :=
  if 16 ≤ part then .fault (.absent "partition") else f

/-! ## READY (R76) -/

/-- A launch that waits for nothing but its predecessors. -/
def Partition.awaitsReady (p : Partition) (l : Launch) : Bool :=
  p.state == .running && l.state == .posted && !(p.job l.job).stopsTasks

/-- A step of the dispatcher, concluded: it is made once it has the answers of the modules that it needs (log 10). -/
def Attempt.outcome (a : Attempt) (name : String) (after : State → State) : Outcome State Fault Refusal :=
  match a with
  | .made t => .next (after t)
  | .asked t => .next t
  | .early => .refused (.notDue name)

/-- A step of the dispatcher that changes what runs; what waits for it is settled (R42, R53, R68, R81). -/
def dispatcherStep (name : String) (part : Nat) (a : Asker) (f : State → State) (s : State) : Outcome State Fault Refusal :=
  (s.attempt a f).outcome name (fun t => t.settle part)

/-- A step of the dispatcher that only starts tasks (R81). What a dispatch that another has overtaken had asked for is needed no longer. -/
def startingStep (name : String) (part addr index : Nat) (f : State → State) (s : State) : Outcome State Fault Refusal :=
  let a : Asker := .dispatch part addr index
  ((s.abandon (fun q => q.asker.dispatches part && q.asker != a)).attempt a f).outcome name (fun t => t.reserve part)

/-- A POSTED record whose predecessors have retired, if they have, becomes READY, on its JOB as memory holds it now. -/
def State.readyStep (s : State) (part : Nat) (l : Launch) : Bool × State :=
  match s.predsRetired part l.job l.preds with
  | (ok, s1) =>
    match s1.jobNow part l with
    | (l1, s2) =>
      if ok && (s2.part part).awaitsReady l1 then (true, (s2.becomeReady part l1).requestPreemption part) else (false, s2)

/-- LAUNCH_READY (R76). A look at the record that finds it not to be due does nothing but to use up what it has read of other modules. -/
def execLaunchReady (part addr : Nat) (s : State) : Outcome State Fault Refusal :=
  ofPartition part
    (match (s.part part).launch? addr with
      | some l =>
        let a : Asker := .ready part addr
        let due := (({ s with want := none, asker := a } : State).readyStep part l).1
        match s.attempt a (fun s => (s.readyStep part l).2) with
        | .made t =>
          if due then .next (t.settle part)
          else if s.awaited.any (fun q => q.asker == a) then .next (s.forget a)
          else .refused (.notDue "LAUNCH_READY")
        | a => a.outcome "LAUNCH_READY" id
      | none => .refused (.notDue "LAUNCH_READY"))

/-! ## Dispatch (R78, R80, R81, R83) -/

/-- One task of a launch dispatched to a tile, and what waits for it with an import. -/
def State.dispatchOne (s : State) (part : Nat) (l : Launch) (n i : Nat) : State := (s.startTask part l n i).installCopies n

/-- STATUS after a dispatch, and the pre-emption that those left over may ask for. -/
def State.dispatched (s : State) (part : Nat) (l : Launch) (count : Nat) : State :=
  (s.writeLaunch part (l.afterDispatch count ((s.part part).job l.job).serialRun)).requestPreemption part

/-- The launch at the head of the order, when it is the given one. -/
def State.headLaunch (s : State) (part addr : Nat) : Option Launch :=
  match s.dispatchHead part with
  | some c => if c.swapped = false ∧ c.addr = addr then (s.part part).launch? addr else none
  | none => none

/-- The next task of the launch at the head starts on a tile. -/
def State.dispatchStep (s : State) (part : Nat) (l : Launch) (n : Nat) : State :=
  ((s.takeTurn part).dispatchOne part l n l.dispatched).dispatched part l 1

/-- TASK_DISPATCH (R80): the head's next task goes to the first idle tile, when its partition has the turn (R82). -/
def execTaskDispatch (part addr : Nat) (s : State) : Outcome State Fault Refusal :=
  ofPartition part
    (match s.headLaunch part addr with
      | some l =>
        match s.nextTile part l with
        | some n =>
          if s.serves = some part then startingStep "TASK_DISPATCH" part addr l.dispatched (fun s => s.dispatchStep part l n) s
          else .refused (.notDue "TASK_DISPATCH")
        | none => .refused (.notDue "TASK_DISPATCH")
      | none => .refused (.notDue "TASK_DISPATCH"))

/-- Every task of a linked launch started, in order, each on its tile. -/
def State.startGang (s : State) (part : Nat) (l : Launch) : Nat → List Nat → State
  | _, [] => s
  | i, n :: ns => (s.dispatchOne part l n i).startGang part l (i + 1) ns

/-- A linked launch at the head starts on its tiles. -/
def State.gangStep (s : State) (part : Nat) (l : Launch) (tiles : List Nat) : State :=
  ((s.takeTurn part).startGang part l 0 tiles).dispatched part l l.tasks

/-- GANG_START (R81). -/
def execGangStart (part addr : Nat) (s : State) : Outcome State Fault Refusal :=
  ofPartition part
    (match s.headLaunch part addr with
      | some l =>
        match s.gangTiles part l with
        | some tiles =>
          if s.serves = some part then startingStep "GANG_START" part addr 0 (fun s => s.gangStep part l tiles) s
          else .refused (.notDue "GANG_START")
        | none => .refused (.notDue "GANG_START")
      | none => .refused (.notDue "GANG_START"))

/-- A fixed-timing launch of a partition with tasks left to dispatch. -/
def State.fixedReady (s : State) (part : Nat) : Bool :=
  (s.part part).launches.any (fun l =>
    (l.state == .ready || l.state == .dispatching) && decide (l.dispatched < l.tasks) && s.launchFixed part l)

/-- FABRIC_CLOCK_UNPIN (R83). -/
def execFabricClockUnpin (die : Nat) (s : State) : Outcome State Fault Refusal :=
  if 16 ≤ die then .fault (.absent "die")
  else
    let d := s.die die
    let wanted := s.parts.any (fun p => p.2.dies.getLsbD die && s.fixedReady p.1) || d.shadow.any (fun x => x.tile.fixed)
    if d.pinned && s.dieEmpty die && !wanted then .next (s.setDie die { d with pinned := false })
    else .refused (.notDue "FABRIC_CLOCK_UNPIN")

/-- TASK_RESUME (R84, R245): the switched-out task at the head of the order returns to an idle tile of its die. -/
def execTaskResume (part addr index tile : Nat) (s : State) : Outcome State Fault Refusal :=
  if 1024 ≤ tile then .fault (.absent "tile")
  else
    ofPartition part
      (match s.dispatchHead part, (s.die (dieOf tile)).swappedOut part addr index with
       | some c, some x =>
         if c.swapped && c.addr == addr && c.index == index && s.resumesOn x tile && s.serves == some part then
           startingStep "TASK_RESUME" part addr index (fun s => (s.takeTurn part).resume x tile) s
         else .refused (.notDue "TASK_RESUME")
       | _, _ => .refused (.notDue "TASK_RESUME"))

/-- EFFECTIVE_PRIORITY_RISE (R81, R82): the order is considered again, a pre-emption may fall due, and a reservation follows the order's
head. -/
def execEffectivePriorityRise (part : Nat) (s : State) : Outcome State Fault Refusal :=
  ofPartition part (.next ((s.requestPreemption part).reserve part))

/-! ## Retirement (R86, R98 to R100) -/

/-- A task that has nothing left to wait for. -/
def State.retirable (s : State) (n : Nat) : Bool :=
  let t := s.tile n
  t.phase == .ended && t.level == .task && t.alarms.isEmpty && t.quiet && t.copies.isEmpty
    && !s.tiles.any (fun x => x.2.task.any (fun y => y.work == .spawned n))

/-- A dispatched task retires from its launch: its digest, LACC and STATUS, and the launch's retirement after its last. -/
def State.retireDispatched (s : State) (n : Nat) (k : Task) (l : Launch) : State :=
  let t := s.tile n
  match s.checkDigest k.part l (1 + k.index) t.digest with
  | (false, s1) => s1.mismatched k.part l (BitVec.ofNat 64 k.index)
  | (true, s1) =>
    let l1 := { l with
      finished := l.finished + 1, lacc := l.lacc + launchTerm k.index t.digest, detRead := l.detRead || t.detRead }
    let s2 := ((s1.mapTile n Tile.released).writeDispatch k.part l.job l.addr (l.addr + 112) (toBytes 8 l1.lacc.toNat)).writeLaunch
      k.part l1
    if l1.finished = l1.tasks ∧ s2.jobStops k.part l.job = false then s2.retireLaunch k.part l1 else s2

/-- A task retires: a spawned one hands its deterministic-read flag to its spawner. -/
def State.retireTask (s : State) (n : Nat) (k : Task) : State :=
  let free (s : State) : State := s.mapTile n Tile.released
  match k.work with
  | .spawned by_ =>
    let read := (s.tile n).detRead
    free (s.mapTile by_ (fun x => { x with detRead := x.detRead || read }))
  | .monitor => free s
  | .dispatched =>
    match (s.part k.part).launch? k.launch with
    | some l => s.retireDispatched n k l
    | none => free s

/-- TASK_RETIRE (R86). -/
def execTaskRetire (tile : Nat) (s : State) : Outcome State Fault Refusal :=
  if 1024 ≤ tile then .fault (.absent "tile")
  else
    match (s.tile tile).task with
    | some k => 
      if s.retirable tile then dispatcherStep "TASK_RETIRE" k.part (.task tile) (fun s => (s.forgetFills tile).retireTask tile k) s
      else .refused (.notDue "TASK_RETIRE")
    | none => .refused (.notDue "TASK_RETIRE")

/-! ## Checkpoints and replay (R88, R95) -/

/-- CHECKPOINT_TAKE_EFFECT (R88). -/
def execCheckpointTakeEffect (part job : Nat) (s : State) : Outcome State Fault Refusal :=
  ofPartition part
    (let j := (s.part part).job job
     if !j.asked.isEmpty && !j.stopsTasks && !s.jobLive part job then
       dispatcherStep "CHECKPOINT_TAKE_EFFECT" part (.job part job) (fun s => (s.takeCheckpoints part job).requestPreemption part) s
     else .refused (.notDue "CHECKPOINT_TAKE_EFFECT"))

/-- LOG_REPLAY (R95). -/
def execLogReplay (part job : Nat) (s : State) : Outcome State Fault Refusal :=
  ofPartition part
    (let j := (s.part part).job job
     if j.state == .draining && !s.jobLive part job && s.drained part job then
       dispatcherStep "LOG_REPLAY" part (.job part job) (fun s => (s.replay part job).requestPreemption part) s
     else .refused (.notDue "LOG_REPLAY"))

/-! ## What the dispatcher has been asked to do (log 3) -/

/-- The oldest cause acted on. -/
def State.actOn (s : State) (c : Cause) (rest : List Cause) : State := (({ s with causes := rest } : State).act c).settle c.part

end Sys2Proof.Machine
end

