-- ==== Sys2Proof/Machine/SysEvents.lean ====
section
/-! DEFINITION. Writes of the system registers as steps of their own, and the completion of an invalidation (R56, R126, R195,
R240, R336 to R342, R409). -/

namespace Sys2Proof.Machine

open Host (Outcome)

/-! ## Writes (R336) -/

/-- The event of a refused write: its INFO is the D field of ctl.wsr, or the register's number (R226). -/
def writeEvent (e : Event) : Event := if e.code = .illegalOperation then { e with info := 0x1E4 } else e

/-- A write of a system register by the code of the current tile, which its level may or may not make. -/
def writeRegister (name : String) (n : Nat) (v : Word) (s : State) : Outcome State Fault Refusal :=
  let t := s.here
  if t.canIssue then
    match writeChecks t.isS n v with
    | e :: _ => .next (takeEvent (writeEvent e) t.start.pc s)
    | [] => .next (s.writeSysreg n v)
  else .refused (.notDue name)

/-- The write of a row that one value of a field selects. -/
def writeSelected (name : String) (n : Nat) (v : Word) (selected : Bool) (s : State) : Outcome State Fault Refusal :=
  if selected then writeRegister name n v s else .refused (.notDue name)

/-- SYSREG_WRITE (R336). -/
def execSysregWrite (number : BitVec 12) (value : Word) (s : State) : Outcome State Fault Refusal :=
  writeRegister "SYSREG_WRITE" number.toNat value s

/-- TLBI_PAGE (R338). -/
def execTlbiPage (value : Word) (s : State) : Outcome State Fault Refusal :=
  writeSelected "TLBI_PAGE" 0x103 value (field value.toNat 1 0 == 1) s

/-- TLBI_PARTITION (R338). -/
def execTlbiPartition (value : Word) (s : State) : Outcome State Fault Refusal :=
  writeSelected "TLBI_PARTITION" 0x103 value (field value.toNat 1 0 == 2) s

/-- JOBCTL_SELECT (R339). -/
def execJobctlSelect (value : Word) (s : State) : Outcome State Fault Refusal :=
  writeSelected "JOBCTL_SELECT" 0x105 value (field value.toNat 15 12 == 0) s

/-- JOBCTL_ROLLBACK (R339). -/
def execJobctlRollback (value : Word) (s : State) : Outcome State Fault Refusal :=
  writeSelected "JOBCTL_ROLLBACK" 0x105 value (field value.toNat 15 12 == 1) s

/-- JOBCTL_FAIL (R339). -/
def execJobctlFail (value : Word) (s : State) : Outcome State Fault Refusal :=
  writeSelected "JOBCTL_FAIL" 0x105 value (field value.toNat 15 12 == 2) s

/-- KARM_WRITE (R240). -/
def execKarmWrite (value : Word) (s : State) : Outcome State Fault Refusal := writeRegister "KARM_WRITE" 0x010 value s

/-- SEMARM_WRITE (R240). -/
def execSemarmWrite (value : Word) (s : State) : Outcome State Fault Refusal := writeRegister "SEMARM_WRITE" 0x011 value s

/-- CTXDAT_WRITE (R341). -/
def execCtxdatWrite (value : Word) (s : State) : Outcome State Fault Refusal := writeRegister "CTXDAT_WRITE" 0x10B value s

/-- RANKDAT_WRITE (R342). -/
def execRankdatWrite (value : Word) (s : State) : Outcome State Fault Refusal := writeRegister "RANKDAT_WRITE" 0x10E value s

/-- XWIN_WRITE (R56). -/
def execXwinWrite (value : Word) (s : State) : Outcome State Fault Refusal := writeRegister "XWIN_WRITE" 0x104 value s

/-! ## The completion of an invalidation (R126) -/

/-- The entries of a partition that an invalidation covers, in any cache. -/
def State.coveredEntries (s : State) (part : Nat) (v : Word) : List CacheEntry :=
  ((s.dies.flatMap (fun d => d.2.cache)) ++ (s.tiles.flatMap (fun t => t.2.copyCache))).filter
    (fun e => e.part == part && covers v e.level e.page)

/-- A virtual address that an invalidation covers: in the page it names, or in the block of an entry it covers. -/
def coversAddress (v : Word) (es : List CacheEntry) (a : Nat) : Bool :=
  field v.toNat 1 0 == 2 || a / 65536 == field v.toNat 54 16 || es.any (fun e => a / 2 ^ leafBits e.level == e.page)

/-- The same of a page that was read under a leaf of a level, whose block goes with it though no cache may hold the entry any more
(R338, R409). -/
def coversUnder (v : Word) (es : List CacheEntry) (level a : Nat) : Bool := covers v level (a / 2 ^ leafBits level) || coversAddress v es a

/-- A byte range that reaches into what an invalidation covers. -/
def coversRange (v : Word) (es : List CacheEntry) (a n : Nat) : Bool := (pagesOf a n).any (coversAddress v es)

/-- A chunk in flight reads or writes memory that an invalidation covers. -/
def CopyCmd.usesCovered (c : CopyCmd) (v : Word) (es : List CacheEntry) : Bool :=
  let r := c.record
  let memory (x : Word) : Bool := decide (field x.toNat 63 60 = 0)
  (upFrom 0 c.started).any (fun i =>
    !c.map.getLsbD i && !c.lost.getLsbD i
      && (r.inChunk i).any (fun u =>
        (memory c.src && coversRange v es (displaced c.src (r.srcAt u)).toNat r.srcLen)
          || (memory c.dst && coversRange v es (displaced c.dst (r.dstAt u)).toNat r.dstLen)))

/-- Another module has still to answer an access that reaches memory which an invalidation covers; one that went down with a port never
performs. -/
def State.outstanding (s : State) (v : Word) (es : List CacheEntry) (q : Awaited) : Bool :=
  let uses (a : Word) (n : Nat) : Bool := decide (field a.toNat 63 60 = 0) && (pagesOf a.toNat n).any (coversUnder v es q.level)
  q.tags.any (fun k => !s.lostTag k)
    && (match q.cargo with
        | .write a rs _ _ _ _ _ => uses a (max 1 (runsEnd rs))
        | .read a n _ _ _ => uses a n
        | .latch a _ => uses a 64
        | _ => false)

/-- Every access translated under a covered entry has performed: those of chunks in flight, and those of steps, of tiles that have lost
their task and of chunks that go no further which other modules have still to answer. -/
def State.invalidationDone (s : State) (part : Nat) (v : Word) : Bool :=
  let es := s.coveredEntries part v
  !s.tiles.any (fun t => t.2.part == part && (t.2.copies.any (fun c => c.usesCovered v es) || t.2.strays.any (s.outstanding v es)))
    && !s.awaited.any (fun q => q.part == part && s.outstanding v es q)

/-- What an invalidation leaves: no cache holds a covered entry, no code store a covered line, and an object whose first
line is covered is admitted no longer (R126, R195, R409). -/
def State.invalidate (s : State) (part : Nat) (v : Word) : State :=
  let es := s.coveredEntries part v
  let keep (e : CacheEntry) : Bool := !(e.part == part && covers v e.level e.page)
  let line (l : CodeLine) : Bool := !(l.part == part && coversUnder v es l.level (256 * l.line))
  let tile (t : Tile) : Tile :=
    { t with copyCache := t.copyCache.filter keep, code := t.code.map (fun x => (x.1, x.2.filter line)) }
  let s1 : State :=
    { s with
      dies := s.dies.map (fun d => (d.1, { d.2 with cache := d.2.cache.filter keep }))
      tiles := s.tiles.map (fun t => (t.1, tile t.2)) }
  s1.mapPart part (fun p => { p with objects := p.objects.filter (fun o => !coversUnder v es o.level (o.addr / 256 * 256)) })

/-- TLBI_COMPLETE (R126): the oldest invalidation written completes (R338). -/
def execTlbiComplete (part : Nat) (s : State) : Outcome State Fault Refusal :=
  if 16 ≤ part then .fault (.absent "partition")
  else
    match (s.part part).tlbi with
    | v :: vs =>
      if s.invalidationDone part v then .next ((s.invalidate part v).mapPart part (fun p => { p with tlbi := vs }))
      else .refused (.notDue "TLBI_COMPLETE")
    | [] => .refused (.notDue "TLBI_COMPLETE")

end Sys2Proof.Machine
end

