-- ==== Sys2Proof/Machine/TileEvents.lean ====
section
/-! DEFINITION. What a tile's cycle may hold besides the issue of a bundle, each by its own name: arrivals, perform points,
events and pre-emption; the matrix engine's start and retirement; the completion of a code fill (R112, R128, R134, R164,
R192, R202, R240, R243, R373). -/

namespace Sys2Proof.Machine

open Host (Outcome)

/-! ## What the next cycle does -/

/-- The plan of a tile that can issue. -/
def State.nextPlan (s : State) : Option Plan := if s.here.canIssue then some (planCycle fetchCode s) else none

/-- The event that a tile takes next, if it does. -/
def State.nextEvent (s : State) : Option EventCode :=
  match s.nextPlan with
  | some (.event e _ _) => some e.code
  | some _ => none
  | none => if s.here.phase = .ended then (s.here.alarms.head?).map Event.code else none

/-- Whether the next cycle issues a bundle. -/
def State.nextIssues (s : State) : Bool := match s.nextPlan with | some (.issue _ _ _ _) => true | _ => false

/-- Whether the engines have the next cycle. -/
def State.nextTicks (s : State) : Bool :=
  s.here.level == .task && (match s.nextPlan with | some (.issue _ _ _ _) => true | some (.held _ _ _) => true | _ => false)

/-- A tile's cycle under the name of what it must hold. -/
def cycleWhen (tile : Nat) (name : String) (due : State → Bool) (s : State) : Outcome State Fault Refusal :=
  if 1024 ≤ tile then .fault (.absent "tile")
  else if due { s with cur := tile } then execBundleIssue tile s
  else .refused (.notDue name)

/-! ## Arrivals and perform points (R112, R202) -/

/-- A result that enters its latch in this cycle. -/
def Tile.arrivalDue (t : Tile) : Bool :=
  (t.unitsAt t.level).flights.any (fun f => f.remain == 0 && f.perf.isNone && !f.isSequence)
    || (t.level == .task && t.quires.any (fun k => k.remain == 0 && !k.done))

/-- An access that performs at the tile store in this cycle. -/
def Tile.performDue (t : Tile) : Bool :=
  (t.unitsAt t.level).flights.any Flight.due || (t.level == .task && t.quires.any (fun k => k.perf == some 0))

/-- RESULT_ARRIVAL (R202). -/
def execResultArrival (tile : Nat) (s : State) : Outcome State Fault Refusal :=
  cycleWhen tile "RESULT_ARRIVAL" (fun s => s.here.arrivalDue && s.nextIssues) s

/-- TILE_STORE_PERFORM (R112). -/
def execTileStorePerform (tile : Nat) (s : State) : Outcome State Fault Refusal :=
  cycleWhen tile "TILE_STORE_PERFORM" (fun s => s.here.performDue && s.nextIssues) s

/-! ## Events -/

/-- COPY_FAULT (R128). -/
def execCopyFault (tile : Nat) (s : State) : Outcome State Fault Refusal :=
  cycleWhen tile "COPY_FAULT" (fun s => s.nextEvent == some .copyFault) s

/-- POISON_CONSUMED (R134). -/
def execPoisonConsumed (tile : Nat) (s : State) : Outcome State Fault Refusal :=
  cycleWhen tile "POISON_CONSUMED" (fun s => s.nextEvent == some .poisonConsumed) s

/-- WAIT_TIMEOUT (R164). -/
def execWaitTimeout (tile : Nat) (s : State) : Outcome State Fault Refusal :=
  cycleWhen tile "WAIT_TIMEOUT" (fun s => s.nextEvent == some .waitTimeout) s

/-- USER_COMPLETION (R240). -/
def execUserCompletion (tile : Nat) (s : State) : Outcome State Fault Refusal :=
  cycleWhen tile "USER_COMPLETION" (fun s => s.nextEvent == some .userCompletion) s

/-! ## Pre-emption (R243, R244) -/

/-- PREEMPTION (R243): the tile stops at the boundary, and is switched out at once or, in a later step, as soon as its
accesses have performed; a linked launch at the head of the order reserves it as it becomes idle (R81). -/
def execPreemption (tile : Nat) (s : State) : Outcome State Fault Refusal :=
  if 1024 ≤ tile then .fault (.absent "tile")
  else
    let s1 : State := { s with cur := tile }
    let s2 := match s1.nextPlan with | some .switchOut => runPlan .switchOut s1 | _ => s1
    if (s2.tile tile).phase = .leaving ∧ (s2.tile tile).quiet then .next ((s2.switchOut tile).reserve (s.tile tile).part)
    else if (s.tile tile).phase ≠ .leaving ∧ (s2.tile tile).phase = .leaving then .next s2
    else .refused (.notDue "PREEMPTION")

/-! ## The matrix engine (R372, R373) -/

/-- The command in the channel that may start in this cycle. -/
def Tile.matrixStarts (t : Tile) : Bool :=
  match t.matrix.channel with
  | some (c, none) => c.waits.isEmpty && !c.doomed && !t.matrix.preempt
  | _ => false

/-- The command in the channel that retires in this cycle. -/
def Tile.matrixRetires (t : Tile) : Bool := match t.matrix.channel with | some (_, some left) => decide (left ≤ 1) | _ => false

/-- A tile whose task has ended and that no handler runs on: its engines go on without cycles (R86). -/
def Tile.enginesAlone (t : Tile) : Bool := t.phase == .ended && t.level == .task

/-- MX_COMMAND_START (R373). -/
def execMxCommandStart (tile : Nat) (s : State) : Outcome State Fault Refusal :=
  if 1024 ≤ tile then .fault (.absent "tile")
  else
    let t := (s.tile tile).advanceShadow
    if t.enginesAlone then
      if t.matrixStarts then .next (s.setTile tile t.startMatrix) else .refused (.notDue "MX_COMMAND_START")
    else cycleWhen tile "MX_COMMAND_START" (fun s => s.here.matrixStarts && s.nextTicks) s

/-- MX_COMMAND_RETIRE (R373). -/
def execMxCommandRetire (tile : Nat) (s : State) : Outcome State Fault Refusal :=
  if 1024 ≤ tile then .fault (.absent "tile")
  else if (s.tile tile).enginesAlone then
    match (s.tile tile).matrix.channel with
    | some (c, some _) => .next ((s.retireMatrix tile c).mapTile tile (fun t => t.releaseBanks.advanceShadow.settleFaults))
    | _ => .refused (.notDue "MX_COMMAND_RETIRE")
  else cycleWhen tile "MX_COMMAND_RETIRE" (fun s => s.here.matrixRetires && s.nextTicks) s

/-! ## Code fills (R190 to R192) -/

/-- What a fill leaves on its tile: the line, or for a bundle's fill the event that its bundle takes. A prefetch that fails
leaves nothing (R329). -/
def Tile.filled (t : Tile) (line : Nat) (prefetch : Bool) (r : Except CopyStop (List Lane × Nat)) : Tile :=
  match r with
  | .ok (ws, level) => t.fillLine { line := line, part := t.part, pinned := false, data := ws, level := level }
  | .error (.fault a c) => if prefetch then t else { t with fillFault := some (line, copyFaultEvent c a) }
  | .error (.poison a) => if prefetch then t else { t with fillFault := some (line, { code := .poisonConsumed, info := a }) }

/-- CODE_FILL_COMPLETE (R192). A line of another module's memory is asked for first (R124). -/
def execCodeFillComplete (tile line : Nat) (s : State) : Outcome State Fault Refusal :=
  if 1024 ≤ tile then .fault (.absent "tile")
  else
    match (s.tile tile).fills.find? (fun f => f.1 == line) with
    | some (_, prefetch) =>
      let fill (s : State) : State :=
        let s1 := s.mapTile tile (fun t => { t with fills := t.fills.filter (fun f => f.1 != line) })
        let r := s1.readCodeLine ((s.tile tile).who tile) line
        r.2.mapTile tile (fun t => t.filled line prefetch r.1)
      match s.attempt (.fill tile line) fill with
      | .made t => .next t
      | .asked t => .next t
      | .early => .refused (.notDue "CODE_FILL_COMPLETE")
    | none => .refused (.notDue "CODE_FILL_COMPLETE")

end Sys2Proof.Machine
end

