-- ==== Sys2Proof/Machine/Dispatch.lean ====
section
/-! DEFINITION. The meaning of every step of the table, one arm per constructor. -/

namespace Sys2Proof.Machine

def exec (i : Instr) (s : State) : Host.Outcome State Fault Refusal :=
  match i with
  | .moduleStart b => Sys2Proof.Machine.execModuleStart b s
  | .coldPowerCycle b => Sys2Proof.Machine.execColdPowerCycle b s
  | .edgeDown edge => Sys2Proof.Machine.execEdgeDown edge s
  | .flitReceive port flit => Sys2Proof.Machine.execFlitReceive port flit s
  | .ackOnlyFlit port => Sys2Proof.Machine.execAckOnlyFlit port s
  | .portRetrain port trained => Sys2Proof.Machine.execPortRetrain port trained s
  | .routeSwitch part dst cls => Sys2Proof.Machine.execRouteSwitch part dst cls s
  | .thermalCeilingLower die => Sys2Proof.Machine.execThermalCeilingLower die s
  | .thermalDispatchStop heat => Sys2Proof.Machine.execThermalDispatchStop heat s
  | .thermalForceStop heat => Sys2Proof.Machine.execThermalForceStop heat s
  | .droopStretch tile sixteenths => Sys2Proof.Machine.execDroopStretch tile sixteenths s
  | .emergencyDroopStretch die cycles => Sys2Proof.Machine.execEmergencyDroopStretch die cycles s
  | .memoryScrub unit line found => Sys2Proof.Machine.execMemoryScrub unit line found s
  | .stopTimeout part => Sys2Proof.Machine.execStopTimeout part s
  | .snapshotLatch => Sys2Proof.Machine.execSnapshotLatch s
  | .launchReady part addr => Sys2Proof.Machine.execLaunchReady part addr s
  | .taskDispatch part addr => Sys2Proof.Machine.execTaskDispatch part addr s
  | .fabricClockUnpin die => Sys2Proof.Machine.execFabricClockUnpin die s
  | .gangStart part addr => Sys2Proof.Machine.execGangStart part addr s
  | .taskRetire tile => Sys2Proof.Machine.execTaskRetire tile s
  | .checkpointTakeEffect part job => Sys2Proof.Machine.execCheckpointTakeEffect part job s
  | .logReplay part job => Sys2Proof.Machine.execLogReplay part job s
  | .copyStart tile cmd => Sys2Proof.Machine.execCopyStart tile cmd s
  | .chunkLanded tile cmd step => Sys2Proof.Machine.execChunkLanded tile cmd step s
  | .remoteWritePerform tile k => Sys2Proof.Machine.execRemoteWritePerform tile k s
  | .linkMessageArrive tile k => Sys2Proof.Machine.execLinkMessageArrive tile k s
  | .linkResend tile k => Sys2Proof.Machine.execLinkResend tile k s
  | .kilnOperationPerform tile k => Sys2Proof.Machine.execKilnOperationPerform tile k s
  | .knResultReturn tile => Sys2Proof.Machine.execKnResultReturn tile s
  | .mxCommandStart tile => Sys2Proof.Machine.execMxCommandStart tile s
  | .mxCommandRetire tile => Sys2Proof.Machine.execMxCommandRetire tile s
  | .bundleIssue tile => Sys2Proof.Machine.execBundleIssue tile s
  | .codeFillComplete tile line => Sys2Proof.Machine.execCodeFillComplete tile line s
  | .resultArrival tile => Sys2Proof.Machine.execResultArrival tile s
  | .tileStorePerform tile => Sys2Proof.Machine.execTileStorePerform tile s
  | .copyFault tile => Sys2Proof.Machine.execCopyFault tile s
  | .poisonConsumed tile => Sys2Proof.Machine.execPoisonConsumed tile s
  | .waitTimeout tile => Sys2Proof.Machine.execWaitTimeout tile s
  | .userCompletion tile => Sys2Proof.Machine.execUserCompletion tile s
  | .preemption tile => Sys2Proof.Machine.execPreemption tile s
  | .taskResume part addr index tile => Sys2Proof.Machine.execTaskResume part addr index tile s
  | .sysregWrite number value => Sys2Proof.Machine.execSysregWrite number value s
  | .tlbiPage value => Sys2Proof.Machine.execTlbiPage value s
  | .tlbiPartition value => Sys2Proof.Machine.execTlbiPartition value s
  | .tlbiComplete part => Sys2Proof.Machine.execTlbiComplete part s
  | .jobctlSelect value => Sys2Proof.Machine.execJobctlSelect value s
  | .jobctlRollback value => Sys2Proof.Machine.execJobctlRollback value s
  | .jobctlFail value => Sys2Proof.Machine.execJobctlFail value s
  | .karmWrite value => Sys2Proof.Machine.execKarmWrite value s
  | .semarmWrite value => Sys2Proof.Machine.execSemarmWrite value s
  | .ctxdatWrite value => Sys2Proof.Machine.execCtxdatWrite value s
  | .rankdatWrite value => Sys2Proof.Machine.execRankdatWrite value s
  | .xwinWrite value => Sys2Proof.Machine.execXwinWrite value s
  | .move m d => Sys2Proof.Machine.execMove m d s
  | .filler => Sys2Proof.Machine.execFiller s
  | .saAdd m u => Sys2Proof.Machine.execSaAdd m u s
  | .saSub m u => Sys2Proof.Machine.execSaSub m u s
  | .saAnd m u => Sys2Proof.Machine.execSaAnd m u s
  | .saOr m u => Sys2Proof.Machine.execSaOr m u s
  | .saXor m u => Sys2Proof.Machine.execSaXor m u s
  | .saAndn m u => Sys2Proof.Machine.execSaAndn m u s
  | .saOrn m u => Sys2Proof.Machine.execSaOrn m u s
  | .saXnor m u => Sys2Proof.Machine.execSaXnor m u s
  | .saSll m u => Sys2Proof.Machine.execSaSll m u s
  | .saSrl m u => Sys2Proof.Machine.execSaSrl m u s
  | .saSra m u => Sys2Proof.Machine.execSaSra m u s
  | .saRor m u => Sys2Proof.Machine.execSaRor m u s
  | .saMin m u => Sys2Proof.Machine.execSaMin m u s
  | .saMax m u => Sys2Proof.Machine.execSaMax m u s
  | .saMinu m u => Sys2Proof.Machine.execSaMinu m u s
  | .saMaxu m u => Sys2Proof.Machine.execSaMaxu m u s
  | .saCeq m u => Sys2Proof.Machine.execSaCeq m u s
  | .saCne m u => Sys2Proof.Machine.execSaCne m u s
  | .saClt m u => Sys2Proof.Machine.execSaClt m u s
  | .saCle m u => Sys2Proof.Machine.execSaCle m u s
  | .saCltu m u => Sys2Proof.Machine.execSaCltu m u s
  | .saCleu m u => Sys2Proof.Machine.execSaCleu m u s
  | .saCtst m u => Sys2Proof.Machine.execSaCtst m u s
  | .saSel m u => Sys2Proof.Machine.execSaSel m u s
  | .saBext m u => Sys2Proof.Machine.execSaBext m u s
  | .saBexts m u => Sys2Proof.Machine.execSaBexts m u s
  | .saBins m u => Sys2Proof.Machine.execSaBins m u s
  | .saPopc m u => Sys2Proof.Machine.execSaPopc m u s
  | .saClz m u => Sys2Proof.Machine.execSaClz m u s
  | .saCtz m u => Sys2Proof.Machine.execSaCtz m u s
  | .saAddsh m u => Sys2Proof.Machine.execSaAddsh m u s
  | .saMov m u => Sys2Proof.Machine.execSaMov m u s
  | .smMul m => Sys2Proof.Machine.execSmMul m s
  | .smMulh m => Sys2Proof.Machine.execSmMulh m s
  | .smMulhu m => Sys2Proof.Machine.execSmMulhu m s
  | .smMulw m => Sys2Proof.Machine.execSmMulw m s
  | .smDiv m => Sys2Proof.Machine.execSmDiv m s
  | .smDivu m => Sys2Proof.Machine.execSmDivu m s
  | .smRem m => Sys2Proof.Machine.execSmRem m s
  | .smRemu m => Sys2Proof.Machine.execSmRemu m s
  | .lsLd8 m => Sys2Proof.Machine.execLsLd8 m s
  | .lsLd8s m => Sys2Proof.Machine.execLsLd8s m s
  | .lsLd16 m => Sys2Proof.Machine.execLsLd16 m s
  | .lsLd16s m => Sys2Proof.Machine.execLsLd16s m s
  | .lsLd32 m => Sys2Proof.Machine.execLsLd32 m s
  | .lsLd32s m => Sys2Proof.Machine.execLsLd32s m s
  | .lsLd64 m => Sys2Proof.Machine.execLsLd64 m s
  | .lsSt8 m => Sys2Proof.Machine.execLsSt8 m s
  | .lsSt16 m => Sys2Proof.Machine.execLsSt16 m s
  | .lsSt32 m => Sys2Proof.Machine.execLsSt32 m s
  | .lsSt64 m => Sys2Proof.Machine.execLsSt64 m s
  | .ctlJmp m => Sys2Proof.Machine.execCtlJmp m s
  | .ctlCall m => Sys2Proof.Machine.execCtlCall m s
  | .ctlRet m => Sys2Proof.Machine.execCtlRet m s
  | .ctlLoop m => Sys2Proof.Machine.execCtlLoop m s
  | .ctlPref m => Sys2Proof.Machine.execCtlPref m s
  | .ctlEnd m => Sys2Proof.Machine.execCtlEnd m s
  | .ctlTrap m => Sys2Proof.Machine.execCtlTrap m s
  | .ctlRfe m => Sys2Proof.Machine.execCtlRfe m s
  | .ctlWait m => Sys2Proof.Machine.execCtlWait m s
  | .ctlSpawn m => Sys2Proof.Machine.execCtlSpawn m s
  | .ctlPost m => Sys2Proof.Machine.execCtlPost m s
  | .ctlRsr m => Sys2Proof.Machine.execCtlRsr m s
  | .ctlWsr m => Sys2Proof.Machine.execCtlWsr m s
  | .sySemrd m => Sys2Proof.Machine.execSySemrd m s
  | .sySemwr m => Sys2Proof.Machine.execSySemwr m s
  | .sySemadd m => Sys2Proof.Machine.execSySemadd m s
  | .syRput m => Sys2Proof.Machine.execSyRput m s
  | .syDrain m => Sys2Proof.Machine.execSyDrain m s
  | .syFence m => Sys2Proof.Machine.execSyFence m s
  | .syClk m => Sys2Proof.Machine.execSyClk m s
  | .syIdn m => Sys2Proof.Machine.execSyIdn m s
  | .cpDefs m => Sys2Proof.Machine.execCpDefs m s
  | .cpCancel m => Sys2Proof.Machine.execCpCancel m s
  | .cpMap m => Sys2Proof.Machine.execCpMap m s
  | .cpGo m n => Sys2Proof.Machine.execCpGo m n s
  | .mxMma m => Sys2Proof.Machine.execMxMma m s
  | .mxMmd m => Sys2Proof.Machine.execMxMmd m s
  | .mxMdrn m => Sys2Proof.Machine.execMxMdrn m s
  | .mxMclr m => Sys2Proof.Machine.execMxMclr m s
  | .mxMsave m => Sys2Proof.Machine.execMxMsave m s
  | .mxMload m => Sys2Proof.Machine.execMxMload m s
  | .knAdd m => Sys2Proof.Machine.execKnAdd m s
  | .knMin m => Sys2Proof.Machine.execKnMin m s
  | .knMinu m => Sys2Proof.Machine.execKnMinu m s
  | .knMax m => Sys2Proof.Machine.execKnMax m s
  | .knMaxu m => Sys2Proof.Machine.execKnMaxu m s
  | .knAnd m => Sys2Proof.Machine.execKnAnd m s
  | .knOr m => Sys2Proof.Machine.execKnOr m s
  | .knXor m => Sys2Proof.Machine.execKnXor m s
  | .knSwap m => Sys2Proof.Machine.execKnSwap m s
  | .knCas m => Sys2Proof.Machine.execKnCas m s
  | .knTick m => Sys2Proof.Machine.execKnTick m s
  | .knPadd m => Sys2Proof.Machine.execKnPadd m s
  | .knQadd m => Sys2Proof.Machine.execKnQadd m s
  | .knUpd m => Sys2Proof.Machine.execKnUpd m s
  | .knLd m => Sys2Proof.Machine.execKnLd m s
  | .knSt m => Sys2Proof.Machine.execKnSt m s
  | .lkSend m => Sys2Proof.Machine.execLkSend m s
  | .lkRecv m => Sys2Proof.Machine.execLkRecv m s
  | .lkProbe m => Sys2Proof.Machine.execLkProbe m s
  | .lkPeek m => Sys2Proof.Machine.execLkPeek m s
  | .vaAddb m => Sys2Proof.Machine.execVaAddb m s
  | .vaAddh m => Sys2Proof.Machine.execVaAddh m s
  | .vaAddw m => Sys2Proof.Machine.execVaAddw m s
  | .vaSubb m => Sys2Proof.Machine.execVaSubb m s
  | .vaSubh m => Sys2Proof.Machine.execVaSubh m s
  | .vaSubw m => Sys2Proof.Machine.execVaSubw m s
  | .vaMinb m => Sys2Proof.Machine.execVaMinb m s
  | .vaMinh m => Sys2Proof.Machine.execVaMinh m s
  | .vaMinw m => Sys2Proof.Machine.execVaMinw m s
  | .vaMaxb m => Sys2Proof.Machine.execVaMaxb m s
  | .vaMaxh m => Sys2Proof.Machine.execVaMaxh m s
  | .vaMaxw m => Sys2Proof.Machine.execVaMaxw m s
  | .vaCeqb m => Sys2Proof.Machine.execVaCeqb m s
  | .vaCeqh m => Sys2Proof.Machine.execVaCeqh m s
  | .vaCeqw m => Sys2Proof.Machine.execVaCeqw m s
  | .vaCltb m => Sys2Proof.Machine.execVaCltb m s
  | .vaClth m => Sys2Proof.Machine.execVaClth m s
  | .vaCltw m => Sys2Proof.Machine.execVaCltw m s
  | .vaAnd m => Sys2Proof.Machine.execVaAnd m s
  | .vaOr m => Sys2Proof.Machine.execVaOr m s
  | .vaXor m => Sys2Proof.Machine.execVaXor m s
  | .vaAndn m => Sys2Proof.Machine.execVaAndn m s
  | .vaSllw m => Sys2Proof.Machine.execVaSllw m s
  | .vaSrlw m => Sys2Proof.Machine.execVaSrlw m s
  | .vaSraw m => Sys2Proof.Machine.execVaSraw m s
  | .vaSel m => Sys2Proof.Machine.execVaSel m s
  | .vaClmul m => Sys2Proof.Machine.execVaClmul m s
  | .vaXscan m => Sys2Proof.Machine.execVaXscan m s
  | .vaAscan m => Sys2Proof.Machine.execVaAscan m s
  | .vaPerm m => Sys2Proof.Machine.execVaPerm m s
  | .vaRsum m => Sys2Proof.Machine.execVaRsum m s
  | .vaRxor m => Sys2Proof.Machine.execVaRxor m s
  | .vaRmax m => Sys2Proof.Machine.execVaRmax m s
  | .vaRany m => Sys2Proof.Machine.execVaRany m s
  | .vpPadd m => Sys2Proof.Machine.execVpPadd m s
  | .vpPsub m => Sys2Proof.Machine.execVpPsub m s
  | .vpPmul m => Sys2Proof.Machine.execVpPmul m s
  | .vpPfma m => Sys2Proof.Machine.execVpPfma m s
  | .vpPfms m => Sys2Proof.Machine.execVpPfms m s
  | .vpPmin m => Sys2Proof.Machine.execVpPmin m s
  | .vpPmax m => Sys2Proof.Machine.execVpPmax m s
  | .vpPabs m => Sys2Proof.Machine.execVpPabs m s
  | .vpPneg m => Sys2Proof.Machine.execVpPneg m s
  | .vpPceq m => Sys2Proof.Machine.execVpPceq m s
  | .vpPclt m => Sys2Proof.Machine.execVpPclt m s
  | .vpPcle m => Sys2Proof.Machine.execVpPcle m s
  | .vqQclr0 m => Sys2Proof.Machine.execVqQclr0 m s
  | .vqQmac0 m => Sys2Proof.Machine.execVqQmac0 m s
  | .vqQadd0 m => Sys2Proof.Machine.execVqQadd0 m s
  | .vqQsub0 m => Sys2Proof.Machine.execVqQsub0 m s
  | .vqQrnd0 m => Sys2Proof.Machine.execVqQrnd0 m s
  | .vqQsav0 m => Sys2Proof.Machine.execVqQsav0 m s
  | .vqQld0 m => Sys2Proof.Machine.execVqQld0 m s
  | .vqQxadd0 m => Sys2Proof.Machine.execVqQxadd0 m s
  | .vqQred0 m => Sys2Proof.Machine.execVqQred0 m s
  | .vqQovf0 m => Sys2Proof.Machine.execVqQovf0 m s
  | .vqQclr1 m => Sys2Proof.Machine.execVqQclr1 m s
  | .vqQmac1 m => Sys2Proof.Machine.execVqQmac1 m s
  | .vqQadd1 m => Sys2Proof.Machine.execVqQadd1 m s
  | .vqQsub1 m => Sys2Proof.Machine.execVqQsub1 m s
  | .vqQrnd1 m => Sys2Proof.Machine.execVqQrnd1 m s
  | .vqQsav1 m => Sys2Proof.Machine.execVqQsav1 m s
  | .vqQld1 m => Sys2Proof.Machine.execVqQld1 m s
  | .vqQxadd1 m => Sys2Proof.Machine.execVqQxadd1 m s
  | .vqQred1 m => Sys2Proof.Machine.execVqQred1 m s
  | .vqQovf1 m => Sys2Proof.Machine.execVqQovf1 m s
  | .vcCvt m => Sys2Proof.Machine.execVcCvt m s
  | .vcCvth m => Sys2Proof.Machine.execVcCvth m s
  | .vcCvi m => Sys2Proof.Machine.execVcCvi m s
  | .vcCvih m => Sys2Proof.Machine.execVcCvih m s
  | .vcCvo m => Sys2Proof.Machine.execVcCvo m s
  | .vcMxsc m => Sys2Proof.Machine.execVcMxsc m s
  | .vcQuan m => Sys2Proof.Machine.execVcQuan m s
  | .vcDequ m => Sys2Proof.Machine.execVcDequ m s
  | .vmLd m => Sys2Proof.Machine.execVmLd m s
  | .vmLds m => Sys2Proof.Machine.execVmLds m s
  | .vmLdg m => Sys2Proof.Machine.execVmLdg m s
  | .vmSt m => Sys2Proof.Machine.execVmSt m s
  | .vmSts m => Sys2Proof.Machine.execVmSts m s
  | .vmSct m => Sys2Proof.Machine.execVmSct m s
  | .vxXrot m => Sys2Proof.Machine.execVxXrot m s
  | .vxXbc m => Sys2Proof.Machine.execVxXbc m s
  | .vfFeval m => Sys2Proof.Machine.execVfFeval m s
  | .effectivePriorityRise part => Sys2Proof.Machine.execEffectivePriorityRise part s
  | .duplicateRequest => Sys2Proof.Machine.execDuplicateRequest s
  | .unassignedType => Sys2Proof.Machine.execUnassignedType s
  | .info => Sys2Proof.Machine.execInfo s
  | .recordClear => Sys2Proof.Machine.execRecordClear s
  | .powerCap => Sys2Proof.Machine.execPowerCap s
  | .firmwareImage => Sys2Proof.Machine.execFirmwareImage s
  | .partCreate => Sys2Proof.Machine.execPartCreate s
  | .partDestroy => Sys2Proof.Machine.execPartDestroy s
  | .monitorLoad => Sys2Proof.Machine.execMonitorLoad s
  | .keyInstall => Sys2Proof.Machine.execKeyInstall s
  | .keyClear => Sys2Proof.Machine.execKeyClear s
  | .partConfigRead => Sys2Proof.Machine.execPartConfigRead s
  | .partConfigReplace => Sys2Proof.Machine.execPartConfigReplace s
  | .partConfigAppend => Sys2Proof.Machine.execPartConfigAppend s
  | .memWrite => Sys2Proof.Machine.execMemWrite s
  | .memRead => Sys2Proof.Machine.execMemRead s
  | .memWriteRaw => Sys2Proof.Machine.execMemWriteRaw s
  | .memReadRaw => Sys2Proof.Machine.execMemReadRaw s
  | .kilnRead => Sys2Proof.Machine.execKilnRead s
  | .kilnWrite => Sys2Proof.Machine.execKilnWrite s
  | .chainPost => Sys2Proof.Machine.execChainPost s
  | .stop => Sys2Proof.Machine.execStop s
  | .forceStop => Sys2Proof.Machine.execForceStop s
  | .resume => Sys2Proof.Machine.execResume s
  | .dirtyScan => Sys2Proof.Machine.execDirtyScan s
  | .stateExport => Sys2Proof.Machine.execStateExport s
  | .stateImport => Sys2Proof.Machine.execStateImport s
  | .attest => Sys2Proof.Machine.execAttest s
  | .errorRead => Sys2Proof.Machine.execErrorRead s
  | .snapshotTrigger => Sys2Proof.Machine.execSnapshotTrigger s
  | .snapshotArm => Sys2Proof.Machine.execSnapshotArm s
  | .snapshotRead => Sys2Proof.Machine.execSnapshotRead s

end Sys2Proof.Machine
end

