-- ==== Sys2Proof/Machine/Step.lean ====
section
/-! DEFINITION. One step of the module, and the placing of an instruction where the next step fetches it (log 2, log 3). -/

namespace Sys2Proof.Machine

open Host (Outcome)

/-- One step: the dispatcher acts on what has been asked of it; else the next happening of the outside world comes; else
the current tile has its cycle (log 3). -/
def step (s : State) : Outcome State Fault Refusal :=
  match s.causes with
  | c :: cs => .next (s.actOn c cs)
  | [] =>
    match s.agenda with
    | h :: hs => exec h.what (arrive h { s with agenda := hs })
    | [] => tileCycle s

/-- The state in which the next step fetches and runs the given instruction (log 2). -/
def State.withFetchWord (s : State) (nbits w : Nat) : State :=
  { s.setTile 0 ((s.tile 0).loaded (placedWords nbits w)) with cur := 0, agenda := [], causes := [] }

end Sys2Proof.Machine
end

