-- ==== Sys2Proof/Safety.lean ====
section
/-! DEFINITION. What a safe run is, and the words in which the statements speak of one step: a tile at rest, what a step
leaves alone, and what an issue cycle leaves of a tile beside the effect of its trigger. -/

namespace Sys2Proof.Machine

/-- A run of steps from one state to another. -/
inductive Reaches : State → State → Prop where
  | refl (s : State) : Reaches s s
  | next {s t u : State} : step s = .next t → Reaches t u → Reaches s u

/-- A state from which no run meets a fault or a refusal. -/
def Safe (s : State) : Prop := ∀ t, Reaches s t → ∃ u, step t = .next u

/-- A tile that can issue and has nothing in flight: no records, no commands, no accesses, no events waiting. Any level may
run, and every register, port, latch, memory, token and semaphore is free to hold anything. -/
def Tile.calm (t : Tile) : Prop :=
  t.canIssue = true ∧ (t.unitsAt t.level).flights = [] ∧ t.quires = [] ∧ t.copies = [] ∧ t.newest = [] ∧ t.matrix = {}
    ∧ t.reserved = [] ∧ t.kiln = [] ∧ t.sends = [] ∧ t.alarms = [] ∧ t.done = []

/-- Two states that differ in the current tile at most. -/
def OnlyHere (s t : State) : Prop := (∀ n, n ≠ s.cur → t.tile n = s.tile n) ∧ { t with tiles := s.tiles } = s

/-- What every issue cycle does to the tile's own bookkeeping (R191, R216, R218): pc passes the bundle, no hold stands, the
cycle is counted as issued at task level and as frozen in a handler, and the code lines fetched become the most recently
used. -/
def Tile.advanced (a b : Tile) (words : Nat) : Prop :=
  b.pc = a.pc + BitVec.ofNat 64 (4 * words) ∧ b.held = none ∧ b.holds = 0 ∧ b.issues = a.issues + 1
    ∧ b.hcyc = a.hcyc
    ∧ (if a.level = .task then b.icyc = a.icyc + 1 ∧ b.fcyc = a.fcyc ∧ b.stall = none
        else b.icyc = a.icyc ∧ b.fcyc = a.fcyc + 1 ∧ b.stall = a.stall)
    ∧ b.code = ((a.touchLine a.part (a.pc.toNat / 256)).touchLine a.part ((a.pc.toNat + 4 * words - 1) / 256)).code

/-- The records in flight on the units of the running level. -/
def Tile.flying (t : Tile) : List Flight := (t.unitsAt t.level).flights

/-- A tile without that bookkeeping and without the records in flight: every register, port, latch, memory, token,
semaphore, queue and engine of it. -/
def Tile.bare (t : Tile) : Tile :=
  { t.setUnitsAt t.level { t.unitsAt t.level with flights := [] } with
    pc := 0, held := none, holds := 0, issues := 0, icyc := 0, fcyc := 0, stall := none, code := [] }

/-- One bundle of a move has issued: nothing outside the tile changed, and the tile's bookkeeping advanced. -/
def Ran (s t : State) (m : Move) : Prop := OnlyHere s t ∧ s.here.advanced t.here (wordCount m)

/-- A record that brings a value to the tile latch `port` in the issue cycle t + L of its trigger's cycle t (R202), one cycle
of which has passed. -/
def Brings (f : Flight) (L port : Nat) (v : Word) : Prop :=
  f.body = .result port v ∧ f.remain + 1 = L ∧ f.perf = none ∧ f.clus = 15

/-- A move that its tile may make: on a tile bus its guard is true, it names no cluster declared idle, and a handler may
address what it names (R198, R203, R236, R305). -/
def Tile.mayMove (t : Tile) (m : Move) (code : Nat) : Prop :=
  m.bus.isTile = true ∧ t.guard m.guard = true ∧ idleCluster t.inUse m code = false ∧ handlerRestricted t m code = false

end Sys2Proof.Machine
end

