-- ==== Sys2Proof/Certificates/Slice0/Obligations.lean ====
section
/-! DEFINITION. The statements for the provers, each from rules of spec/, and the tables of rows they speak of. -/

open Host (Outcome)

namespace Sys2Proof.Claims

open Sys2Proof.Machine

/-! ## What a statement says of one bundle -/

/-- The one-move bundle of i completes; its only record brings v to a tile latch L issue cycles after its trigger (R202), port p
of the unit takes the trigger value (R200), and everything else of the machine stays but for the passing of the cycle. -/
def Sends (s : State) (i : Instr) (m : Move) (p L port : Nat) (v : Word) : Prop :=
  ∃ t f, exec i s = .next t ∧ Ran s t m ∧ t.here.flying = [f] ∧ Brings f L port v
    ∧ t.here.bare = (s.here.setPort p (s.here.source m.src)).bare

/-- The one-move bundle of i completes and starts nothing: the tile is x but for the passing of the cycle. -/
def Leaves (s : State) (i : Instr) (m : Move) (x : Tile) : Prop :=
  ∃ t, exec i s = .next t ∧ Ran s t m ∧ t.here.flying = [] ∧ t.here.bare = x.bare

/-- n issues of the filler, one after another. -/
def Fillers : Nat → State → State → Prop
  | 0, s, t => s = t
  | n + 1, s, t => ∃ u, exec .filler s = .next u ∧ Fillers n u t

/-- The state on which a step of some asker is tried (log 10). -/
def tried (s : State) (a : Asker) : State := { s with want := none, asker := a }

/-- A step f of the module, or a part of one, that needs nothing of another module which has not come (R27, R124, R135, log 10). -/
def Unhindered (s : State) (a : Asker) (f : State → State) : Prop := (f (tried s a)).want = none

/-- Steps that have asked no other module for anything. -/
def AsksNothing (s : State) (which : Asker → Bool) : Prop := ∀ q ∈ s.awaited, which q.asker = false

/-- Code in the U handler of a task whose job a rollback or its failure has stopped (R87, R95, R239). -/
def Silenced (s : State) : Prop :=
  s.here.level = .user ∧ ∃ k, s.here.task = some k ∧ ((s.part k.part).job k.job).state ∈ [JobState.draining, .replaying, .failed]

/-! ## The scalar units (R318 to R321) -/

/-- The field of R319: its offset, and its width cut to the bits that exist. -/
def fieldWidth (b : Word) : Nat :=
  let off := b.toNat % 256
  let w := min (b.toNat / 256 % 256) 64
  if w = 0 ∨ 64 ≤ off then 0 else min w (64 - off)

def fieldOff (b : Word) : Nat := b.toNat % 256

/-- The bits of the field, as a number. -/
def fieldBits (a b : Word) : Nat := a.toNat / 2 ^ fieldOff b % 2 ^ fieldWidth b

/-- The field read in two's complement. -/
def fieldSigned (a b : Word) : Int :=
  if fieldWidth b = 0 then 0
  else (fieldBits a b : Int) - (if 2 ^ (fieldWidth b - 1) ≤ fieldBits a b then 2 ^ fieldWidth b else 0)

/-- Bit i of bins. -/
def insertedBit (a b c : Word) (i : Nat) : Bool :=
  if fieldOff b ≤ i ∧ i < fieldOff b + fieldWidth b then c.getLsbD (i - fieldOff b) else a.getLsbD i

/-- One for a true condition, zero for a false one. -/
def truth (p : Bool) : Word := if p then 1 else 0

/-- A row of R318: the operation, its latency and its result from a, b and c. -/
structure AluRow where
  op      : Move → Bool → Instr
  latency : Nat
  result  : Word → Word → Word → Word

/-- A row of latency 1 that reads a and b. -/
def row2 (i : Move → Bool → Instr) (f : Word → Word → Word) : AluRow := { op := i, latency := 1, result := fun a b _ => f a b }

/-- A row of latency 1 that reads a, b and c. -/
def row3 (i : Move → Bool → Instr) (f : Word → Word → Word → Word) : AluRow := { op := i, latency := 1, result := f }

/-- A row of latency 2 that counts bits of a. -/
def rowCount (i : Move → Bool → Instr) (f : Word → Nat) : AluRow :=
  { op := i, latency := 2, result := fun a _ _ => BitVec.ofNat 64 (f a) }

/-- The rows of R318 and R319. -/
def aluLogic : List AluRow :=
  [row2 .saAdd (fun a b => BitVec.ofNat 64 (a.toNat + b.toNat)),
   row2 .saSub (fun a b => BitVec.ofInt 64 (Int.ofNat a.toNat - Int.ofNat b.toNat)),
   row2 .saAnd (fun a b => a &&& b), row2 .saOr (fun a b => a ||| b), row2 .saXor (fun a b => a ^^^ b),
   row2 .saAndn (fun a b => a &&& ~~~b), row2 .saOrn (fun a b => a ||| ~~~b), row2 .saXnor (fun a b => ~~~(a ^^^ b)),
   row2 .saSll (fun a b => BitVec.ofNat 64 (a.toNat * 2 ^ (b.toNat % 64))),
   row2 .saSrl (fun a b => BitVec.ofNat 64 (a.toNat / 2 ^ (b.toNat % 64))),
   row2 .saSra (fun a b => BitVec.ofInt 64 (a.toInt / Int.ofNat (2 ^ (b.toNat % 64)))),
   row2 .saRor (fun a b => BitVec.ofNat 64 (a.toNat / 2 ^ (b.toNat % 64) + a.toNat * 2 ^ (64 - b.toNat % 64)))]

def aluCompare : List AluRow :=
  [row2 .saMin (fun a b => if a.toInt ≤ b.toInt then a else b), row2 .saMax (fun a b => if a.toInt ≤ b.toInt then b else a),
   row2 .saMinu (fun a b => if a.toNat ≤ b.toNat then a else b), row2 .saMaxu (fun a b => if a.toNat ≤ b.toNat then b else a),
   row2 .saCeq (fun a b => truth (decide (a = b))), row2 .saCne (fun a b => truth (decide (a ≠ b))),
   row2 .saClt (fun a b => truth (decide (a.toInt < b.toInt))), row2 .saCle (fun a b => truth (decide (a.toInt ≤ b.toInt))),
   row2 .saCltu (fun a b => truth (decide (a.toNat < b.toNat))), row2 .saCleu (fun a b => truth (decide (a.toNat ≤ b.toNat))),
   row2 .saCtst (fun a b => truth (decide (a &&& b ≠ 0#64))), row3 .saSel (fun a b c => if c.getLsbD 0 then a else b)]

def aluFields : List AluRow :=
  [row2 .saBext (fun a b => BitVec.ofNat 64 (fieldBits a b)), row2 .saBexts (fun a b => BitVec.ofInt 64 (fieldSigned a b)),
   row3 .saBins (fun a b c => BitVec.ofFnLE (fun i : Fin 64 => insertedBit a b c i.val)),
   rowCount .saPopc (fun a => (List.range 64).countP (fun i => a.getLsbD i)),
   rowCount .saClz (fun a => (List.range 64).countP (fun i => decide (a.toNat < 2 ^ (63 - i)))),
   rowCount .saCtz (fun a => (List.range 64).countP (fun i => decide (a.toNat % 2 ^ (i + 1) = 0))),
   row3 .saAddsh (fun a b c => BitVec.ofNat 64 (b.toNat + a.toNat * 2 ^ (c.toNat % 8))), row2 .saMov (fun a _ => a)]

def aluRows : List AluRow := aluLogic ++ aluCompare ++ aluFields

/-- A row of R320: the operation, whether it occupies the divider, and its result from a and b. -/
structure MulRow where
  op      : Move → Instr
  divides : Bool
  result  : Word → Word → Word

def mulRow (i : Move → Instr) (f : Word → Word → Word) : MulRow := { op := i, divides := false, result := f }
def divRow (i : Move → Instr) (f : Word → Word → Word) : MulRow := { op := i, divides := true, result := f }

/-- The least signed number divided by −1, whose quotient does not fit. -/
def overflows (a b : Word) : Bool := decide (a.toInt = -9223372036854775808) && decide (b.toInt = -1)

def mulRows : List MulRow :=
  [mulRow .smMul (fun a b => BitVec.ofNat 64 (a.toNat * b.toNat)),
   mulRow .smMulh (fun a b => BitVec.ofInt 64 (a.toInt * b.toInt / 18446744073709551616)),
   mulRow .smMulhu (fun a b => BitVec.ofNat 64 (a.toNat * b.toNat / 18446744073709551616)),
   mulRow .smMulw (fun a b => BitVec.ofInt 64 ((BitVec.setWidth 32 a).toInt * (BitVec.setWidth 32 b).toInt)),
   divRow .smDiv (fun a b =>
      if b = 0#64 then 0xFFFFFFFFFFFFFFFF#64 else if overflows a b then 0x8000000000000000#64
      else BitVec.ofInt 64 (Int.tdiv a.toInt b.toInt)),
   divRow .smDivu (fun a b => if b = 0#64 then 0xFFFFFFFFFFFFFFFF#64 else BitVec.ofNat 64 (a.toNat / b.toNat)),
   divRow .smRem (fun a b =>
      if b = 0#64 then a else if overflows a b then 0#64
      else BitVec.ofInt 64 (a.toInt - b.toInt * Int.tdiv a.toInt b.toInt)),
   divRow .smRemu (fun a b => if b = 0#64 then a else BitVec.ofNat 64 (a.toNat % b.toNat))]

end Sys2Proof.Claims

open Sys2Proof Sys2Proof.Machine Sys2Proof.Claims

/-- R318, R319, R200, R202: each sa operation of either ALU delivers its result at the count the table gives, from the trigger
value as a and the held b and c; port a takes the trigger value; nothing else of the module changes but for the passing of
the cycle. -/
def Obligations.ScalarAluResults : Prop :=
  ∀ r ∈ aluRows, ∀ (m : Move) (u : Bool) (s : State),
    s.here.calm → s.here.mayMove m (r.op m u).code →
    let p := if u then 0x104 else 0x100
    Sends s (r.op m u) m p r.latency (if u then 0x101 else 0x100)
      (r.result (s.here.source m.src) (s.here.port (p + 1)) (s.here.port (p + 2)))

/-- R320, R321, R200, R202: a multiply delivers its result at +3; a divide or remainder at +20, and it makes the divider busy
until then; port a takes the trigger value; nothing else of the module changes but for the passing of the cycle. -/
def Obligations.MultiplyAndDivideResults : Prop :=
  ∀ r ∈ mulRows, ∀ (m : Move) (s : State),
    s.here.calm → s.here.mayMove m (r.op m).code →
    ∃ t f fs, exec (r.op m) s = .next t ∧ Ran s t m ∧ t.here.flying = f :: fs
      ∧ Brings f (if r.divides then 20 else 3) 0x102 (r.result (s.here.source m.src) (s.here.port 0x109))
      ∧ (if r.divides then ∃ d, fs = [d] ∧ d.body = .divider ∧ d.remain = 19 else fs = [])
      ∧ t.here.bare = (s.here.setPort 0x108 (s.here.source m.src)).bare

namespace Sys2Proof.Claims

/-! ## Moves (R196 to R203, R207 to R210) -/

/-- A tile with no store and no poison, to speak of all the rest of it. -/
def restOf (t : Tile) : Tile := { t.bare with store := [], badWords := [] }

/-- A tile at rest but for one record on the units of the running level. -/
def CarriesOne (t : Tile) (f : Flight) : Prop :=
  t.flying = [f] ∧ (t.setUnitsAt t.level { t.unitsAt t.level with flights := [] }).calm

/-- The lanes of a vector in which a guard is on come from v, the others from old (R203). -/
def LanesFrom (lanes : BitVec 16) (v old new : Vec) : Prop :=
  ∀ l, l < 16 → lane new l = if lanes.getLsbD l then lane v l else lane old l

/-! ## Loads and stores (R322) -/

/-- A row of R322: the operation, its bytes, and whether a load extends the sign. -/
structure AccessRow where
  op     : Move → Instr
  bytes  : Nat
  signed : Bool

def loadRows : List AccessRow :=
  [⟨.lsLd8, 1, false⟩, ⟨.lsLd8s, 1, true⟩, ⟨.lsLd16, 2, false⟩, ⟨.lsLd16s, 2, true⟩, ⟨.lsLd32, 4, false⟩, ⟨.lsLd32s, 4, true⟩,
   ⟨.lsLd64, 8, false⟩]

def storeRows : List AccessRow := [⟨.lsSt8, 1, false⟩, ⟨.lsSt16, 2, false⟩, ⟨.lsSt32, 4, false⟩, ⟨.lsSt64, 8, false⟩]

/-- The n bytes at an offset as one little-endian number. -/
def storeNumber (t : Tile) (off : Nat) : Nat → Nat
  | 0 => 0
  | n + 1 => (readByte t.store off).toNat + 256 * storeNumber t (off + 1) n

/-- What a load of n bytes delivers. -/
def loadedWord (t : Tile) (off n : Nat) (sign : Bool) : Word :=
  let v := storeNumber t off n
  if sign && decide (2 ^ (8 * n - 1) ≤ v) then BitVec.ofInt 64 (Int.ofNat v - Int.ofNat (2 ^ (8 * n))) else BitVec.ofNat 64 v

/-- An access of n bytes lies in the store and is aligned (R323). -/
def AccessFits (a : Word) (n : Nat) : Prop := a.toNat + n ≤ 2 ^ 21 ∧ a.toNat % n = 0

/-! ## Events (R227 to R231) -/

/-- The event word of an event that a tile takes (R230). -/
def eventNumber (a : Tile) (e : Event) : Word :=
  BitVec.ofNat 64 (e.code.number + 2 ^ 8 * e.cause.toNat + (if a.level = .user then 2 ^ 20 else 0)
    + 2 ^ 22 * e.code.resume + 2 ^ 24 * e.bus.toNat + 2 ^ 32 * e.trig.toNat)

/-- The tile b has taken, from the tile a, an event at S level: EPC, the event word in EVW and s30, INFO in EINFO and s31, four
frozen cycles, pc at the vector, a fresh port set, and nothing else. -/
def Entered (a b : Tile) (e : Event) (epc vector : Word) : Prop :=
  let w := eventNumber a e
  b.level = .monitor ∧ b.pc = vector ∧ b.fcyc = a.fcyc + 4 ∧ b.lastEvent = w ∧ b.held = none ∧ b.holds = 0
    ∧ b.monitor.active = true ∧ b.monitor.epc = epc ∧ b.monitor.word = w ∧ b.monitor.info = e.info ∧ b.monitor.units = {}
    ∧ b.readS 30 = w ∧ b.readS 31 = e.info
    ∧ (∀ k, k < 30 → 24 ≤ k → b.readS k = mget 0 a.monitor.s (k - 24))
    ∧ b.monitor.p14 = a.monitor.p14 ∧ b.monitor.p15 = a.monitor.p15
    ∧ { b with level := a.level, pc := a.pc, fcyc := a.fcyc, lastEvent := a.lastEvent, held := a.held, holds := a.holds,
               monitor := a.monitor } = a

/-- One entry with a code, INFO and ADDR has joined the error log, in the words of R69, and nothing else of the module changed
but `rest`. -/
def Logs (s t : State) (code info addr : Nat) (rest : State → State) : Prop :=
  ∃ e : BitVec 256, t.errors.getLast? = some e ∧ t.errorCount = s.errorCount + 1
    ∧ e.toNat / 2 ^ 48 % 2 ^ 16 = code ∧ e.toNat / 2 ^ 64 % 2 ^ 64 = info ∧ e.toNat / 2 ^ 128 % 2 ^ 64 = addr
    ∧ { t with errors := s.errors, errorCount := s.errorCount, overflow := s.overflow } = rest s

/-- Code at S level has met a synchronous event: entry 0x8030 has its event word, the tile has stopped where it stood, the job of a
task is to be rolled back, and nothing else changes (R86, R239). -/
def Halts (s t : State) (e : Event) : Prop :=
  let x := s.here
  let w := eventNumber x e
  Logs s t 0x8030 w.toNat 0 (fun s => { s with tiles := t.tiles, causes := t.causes })
    ∧ t.here = { x with phase := .halted, lastEvent := w, held := none, holds := 0 } ∧ (∀ n, n ≠ s.cur → t.tile n = s.tile n)
    ∧ ∀ k, x.task = some k → t.causes = s.causes ++
        (if k.work = .monitor then [] else [{ part := k.part, job := k.job, addr := 0, what := .rollback .taskFault }])

/-- The numbers in the table of R337. -/
def inTable (n : Nat) : Bool := decide (n ≤ 3) || (decide (8 ≤ n) && decide (n ≤ 0xB)) || n == 0x10 || n == 0x11
  || (decide (0x100 ≤ n) && decide (n ≤ 0x10E))

/-- The event of an access to a number that no level of a partition may access, and to one that the table does not hold (R336). -/
def badNumber (n code bus : Nat) : Event :=
  if 0x200 ≤ n then { code := .privilege, info := BitVec.ofNat 64 n, bus := BitVec.ofNat 8 bus }
  else { code := .illegalOperation, cause := 1, info := BitVec.ofNat 64 code, bus := BitVec.ofNat 8 bus }

/-- Only RES of the event word of the S handler differs, as a write sets it (R230, R337). -/
def SetsRes (x y : Tile) (v : Word) : Prop :=
  ∃ w, y = { x with monitor := { x.monitor with word := w } }
    ∧ ∀ i, w.getLsbD i = if i = 22 ∨ i = 23 then v.getLsbD i else x.monitor.word.getLsbD i

/-- Code below S level, of a task that is no monitor instance, with no snapshot armed: an event there enters the S handler and
does nothing beyond the tile. -/
def BelowS (s : State) : Prop :=
  s.here.level ≠ .monitor ∧ s.here.isMonitorTask = false ∧ s.snapshot.mask = 0

/-- A one-move bundle that takes a pre-issue event: none of its moves is performed, the tile enters its S handler with EPC at
the bundle, and nothing outside the tile changes. -/
def TakesBefore (s : State) (i : Instr) (e : Event) : Prop :=
  ∃ t, exec i s = .next t ∧ OnlyHere s t ∧ Entered s.here t.here e s.here.pc (s.part s.here.part).svec

/-! ## Waits (R156, R182 to R184, R333) -/

/-- A bundle held for causes whose rows of R215 are given: nothing of it performs, its pc stays, and the cycle is counted as
held at task level and as frozen in a handler. -/
def HeldBy (s : State) (i : Instr) (rows : BitVec 8) : Prop :=
  ∃ t, exec i s = .next t ∧ OnlyHere s t ∧ t.here.holds = rows ∧ t.here.held = some (s.here.held.getD s.timeBase)
    ∧ (if s.here.level = .task then t.here.hcyc = s.here.hcyc + 1 ∧ t.here.fcyc = s.here.fcyc
        else t.here.hcyc = s.here.hcyc ∧ t.here.fcyc = s.here.fcyc + 1)
    ∧ { t.here with held := s.here.held, holds := s.here.holds, hcyc := s.here.hcyc, fcyc := s.here.fcyc } = s.here

/-- The narrowest scope that holds the home of a remote write (R182): 0 the tile itself, 1 its die, 2 the module, 3 the domain. That a
write whose address leads nowhere counts as one of scope 3 is log 43. -/
def homeLevel (tile : Nat) (r : Except Nat (Place × Nat)) : Nat :=
  match r with
  | .ok (.tile m, _) => if m = tile then 0 else if m / 64 = tile / 64 then 1 else 2
  | .ok (.kiln d, _) => if d = tile / 64 then 1 else 2
  | _ => 3

end Sys2Proof.Claims

/-- R196, R209, R284: a tile-bus move writes its source into the destination it names and starts nothing. -/
def Sys2Proof.Claims.MoveWritesItsDestination : Prop :=
  ∀ (m : Move) (d : Dest) (s : State),
    s.here.calm → s.here.mayMove m d.code → d.wf true = true →
    Leaves s (.move m d) m (s.here.writeCode d.code (s.here.source m.src))

/-- R198, R203: a move on a cluster bus, or a fan move in every cluster in use, writes the lanes its guard leaves on in each
cluster it reaches, from that cluster's own source, and starts nothing. -/
def Sys2Proof.Claims.ClusterMoveWritesGuardedLanes : Prop :=
  ∀ (m : Move) (d : Dest) (s : State),
    s.here.calm → s.here.level = .task → m.bus.isTile = false → d.wf false = true →
    (∀ c ∈ s.here.reach m.bus, s.here.inUse.testBit c) →
    Leaves s (.move m d) m ((s.here.reach m.bus).foldl
      (fun t c => t.writeCluster c d.code ((s.here.cluster c).source m.src) ((s.here.cluster c).guard m.guard)) s.here)

/-- What lane l of mask k of cluster c reads as, as a source (R208, R209). -/
def Sys2Proof.Claims.maskLane (t : Tile) (c : Nat) (k : Fin 16) (l : Nat) : Lane :=
  lane ((t.cluster c).source (.reg ⟨32 + k.val, by omega⟩)) l

/-- R199, R207 to R210: what a register, a predicate, a lane mask, a port and the lanes of a vector register read as after a write, the
complements that a write of an even predicate or mask implies among them, and that no other one changes. -/
def Obligations.RegistersReadBack : Prop :=
  ∀ t : Tile,
    (∀ r k v, r < 32 → k < 32 → (t.writeS r v).readS k = if k = r then v else t.readS k)
    ∧ (∀ r k v, r < 32 → k < 16 → (t.writeS r v).readP k = t.readP k)
    ∧ (∀ k j b, 0 < k → k < 16 → j < 16 →
        (t.writeP k b).readP j = if j = k then b else if k % 2 = 0 ∧ j = k + 1 then !b else t.readP j)
    ∧ (∀ k r b, r < 32 → (t.writeP k b).readS r = t.readS r)
    ∧ t.readP 0 = true
    ∧ (∀ c d v, (t.setPort c v).port d = if d = c then v else t.port d)
    ∧ (∀ c r k v lanes, r < 32 → k < 32 →
        if k = r then LanesFrom lanes v (mget 0 (t.cluster c).v r) (mget 0 ((t.writeCluster c r v lanes).cluster c).v r)
        else mget 0 ((t.writeCluster c r v lanes).cluster c).v k = mget 0 (t.cluster c).v k)
    ∧ (∀ c (k j : Fin 16) l v lanes, 0 < k.val → l < 16 →
        maskLane (t.writeCluster c (32 + k.val) v lanes) c j l
          = if lanes.getLsbD l = true ∧ j = k then (if (lane v l).getLsbD 0 then 0xFFFFFFFF else 0)
            else if lanes.getLsbD l = true ∧ k.val % 2 = 0 ∧ j.val = k.val + 1 then (if (lane v l).getLsbD 0 then 0 else 0xFFFFFFFF)
            else maskLane t c j l)
    ∧ (∀ c l, l < 16 → maskLane t c 0 l = 0xFFFFFFFF)
    ∧ (∀ c (k : Fin 16) r v lanes, mget 0 ((t.writeCluster c (32 + k.val) v lanes).cluster c).v r = mget 0 (t.cluster c).v r)
    ∧ (∀ c (j : Fin 16) r v lanes, r < 32 → ∀ l, maskLane (t.writeCluster c r v lanes) c j l = maskLane t c j l)
    ∧ (∀ c c' d v lanes, c' ≠ c → (t.writeCluster c d v lanes).cluster c' = t.cluster c')

/-- R277: the word 0xFE00_0000 standing alone is the one bundle without moves; it issues, performs nothing and takes one issue
cycle. -/
def Obligations.FillerTakesOneCycle : Prop :=
  (∀ s : State, s.here.calm →
    ∃ t, exec .filler s = .next t ∧ OnlyHere s t ∧ s.here.advanced t.here 1 ∧ t.here.flying = [] ∧ t.here.bare = s.here.bare)
  ∧ (∀ inUse rest, decodeBundle inUse (0xFE000000#32 :: rest) = some (.ok { items := [(0, .op .filler)], words := 1 }))
  ∧ ∀ inUse ws b, decodeBundle inUse ws = some (.ok b) → (∀ x ∈ b.items, x.2.parts = none) →
    ws.head? = some 0xFE000000#32 ∧ b = { items := [(0, .op .filler)], words := 1 }

/-- R203, R315: a tile-bus move whose guard is false does nothing, whatever it would trigger; the bundle issues. -/
def Sys2Proof.Claims.GuardedOffMoveDoesNothing : Prop :=
  ∀ (i : Instr) (m : Move) (s : State),
    (i.kind = .tile m ∨ ∃ d, i.kind = .plain m d) → m.bus.isTile = true →
    s.here.calm → s.here.guard m.guard = false →
    Leaves s i m s.here

/-- R196, R198, R203, R209, R284, R315: A tile-bus move writes its source into the destination it names and starts nothing. A move
on a cluster bus, or a fan move in every cluster in use, writes the lanes its guard leaves on in each cluster it reaches, from
that cluster's own source, and starts nothing. A tile-bus move whose guard is false does nothing, whatever it would trigger;
the bundle issues. -/
def Obligations.MovesWriteTheirDestinations : Prop := MoveWritesItsDestination ∧ ClusterMoveWritesGuardedLanes ∧ GuardedOffMoveDoesNothing

/-- R202: a result that has n issue cycles to go leaves its latch as it was through the n cycles and is in it from the cycle
after them on. -/
def Obligations.ResultArrivesAtItsCycle : Prop :=
  ∀ (s : State) (f : Flight) (port : Nat) (v : Word),
    CarriesOne s.here f → f.body = .result port v → f.perf = none →
    (∀ n, n ≤ f.remain → ∃ t, Fillers n s t ∧ t.here.level = s.here.level ∧ t.here.result port = s.here.result port)
    ∧ ∃ t, Fillers (f.remain + 1) s t ∧ t.here.level = s.here.level ∧ t.here.result port = v ∧ t.here.flying = []

/-- R4, R112, R322: a load that lies in the store, is aligned and meets no poison completes, and four cycles after its trigger
ls.res holds its bytes, extended as its row says; the store and the rest of the tile stay. -/
def Sys2Proof.Claims.LoadsDeliverTheirBytes : Prop :=
  ∀ r ∈ loadRows, ∀ (m : Move) (s : State),
    let a := s.here.source m.src
    s.here.calm → s.here.mayMove m (r.op m).code → AccessFits a r.bytes → s.here.poisonedAt a.toNat r.bytes = false →
    ∃ t u, exec (r.op m) s = .next t ∧ Ran s t m ∧ t.here.bare = (s.here.setPort 0x10C a).bare
      ∧ Fillers 4 t u ∧ OnlyHere s u ∧ u.here.flying = []
      ∧ u.here.bare = ((s.here.setPort 0x10C a).setResult s.here.level 0x103
          (loadedWord s.here a.toNat r.bytes r.signed)).bare

/-- R4, R112, R322, R324: a store that lies in the store and is aligned completes; two cycles after its trigger the bytes at
its offset are the low bytes of b and every other byte is as before; a 64-bit store clears the poison of its word and a
narrower one leaves it; the rest of the tile stays. -/
def Sys2Proof.Claims.StoresWriteTheirBytes : Prop :=
  ∀ r ∈ storeRows, ∀ (m : Move) (s : State),
    let a := s.here.source m.src
    s.here.calm → s.here.mayMove m (r.op m).code → AccessFits a r.bytes →
    ∃ t u, exec (r.op m) s = .next t ∧ Ran s t m ∧ t.here.bare = (s.here.setPort 0x10C a).bare
      ∧ Fillers 2 t u ∧ OnlyHere s u ∧ u.here.flying = []
      ∧ (∀ k, k < r.bytes → readByte u.here.store (a.toNat + k) = BitVec.ofNat 8 ((s.here.port 0x10D).toNat / 256 ^ k))
      ∧ (∀ x, x < a.toNat ∨ a.toNat + r.bytes ≤ x → readByte u.here.store x = readByte s.here.store x)
      ∧ (∀ w, w ∈ u.here.badWords ↔ w ∈ s.here.badWords ∧ ¬(r.bytes = 8 ∧ w = a.toNat / 8))
      ∧ restOf u.here = restOf (s.here.setPort 0x10C a)

/-- R4, R112, R322, R324: A load that lies in the store, is aligned and meets no poison completes, and four cycles after its
trigger ls.res holds its bytes, extended as its row says; the store and the rest of the tile stay. A store that lies in the
store and is aligned completes; two cycles after its trigger the bytes at its offset are the low bytes of b and every other
byte is as before; a 64-bit store clears the poison of its word and a narrower one leaves it; the rest of the tile stays. -/
def Obligations.TileStoreAccesses : Prop := LoadsDeliverTheirBytes ∧ StoresWriteTheirBytes

/-- R323, R226 to R230: an access that does not lie in the tile store takes TILE_STORE_BOUNDS and one that is not aligned takes
MISALIGNMENT, each with INFO a, before its bundle issues; nothing of it is accessed. -/
def Obligations.BadAccessTakesItsEvent : Prop :=
  ∀ r ∈ loadRows ++ storeRows, ∀ (m : Move) (s : State),
    let a := s.here.source m.src
    s.here.calm → BelowS s → s.here.mayMove m (r.op m).code →
    (2 ^ 21 < a.toNat + r.bytes →
      TakesBefore s (r.op m) { code := .tileStoreBounds, info := a, bus := BitVec.ofNat 8 m.bus.id })
    ∧ (a.toNat + r.bytes ≤ 2 ^ 21 → a.toNat % r.bytes ≠ 0 →
      TakesBefore s (r.op m) { code := .misalignment, info := a, bus := BitVec.ofNat 8 m.bus.id })

/-- R191, R325, R328: a jump with a legal target redirects three cycles after its trigger, so that its two delay bundles issue
first; a loop counts ctl.b down and redirects while the count stays above zero. -/
def Sys2Proof.Claims.JumpsAndLoopsRedirect : Prop :=
  ∀ (m : Move) (s : State),
    let a := s.here.source m.src
    let next := s.here.pc + BitVec.ofNat 64 (4 * wordCount m)
    let target := BitVec.ofNat 64 s.codeSection.1 + a
    let count := s.here.port 0x111
    (s.here.calm → s.here.mayMove m (Instr.ctlJmp m).code → s.legalTarget a = true →
      ∃ t u v, exec (.ctlJmp m) s = .next t ∧ Ran s t m ∧ t.here.bare = (s.here.setPort 0x110 a).bare
        ∧ Fillers 2 t u ∧ u.here.pc = next + 8 ∧ Fillers 1 u v ∧ v.here.pc = target + 4
        ∧ v.here.flying = [] ∧ v.here.bare = (s.here.setPort 0x110 a).bare)
    ∧ (s.here.calm → s.here.mayMove m (Instr.ctlLoop m).code → 1 < count.toNat → s.legalTarget a = true →
      ∃ t u v, exec (.ctlLoop m) s = .next t ∧ Ran s t m
        ∧ t.here.bare = ((s.here.setPort 0x110 a).setPort 0x111 (count - 1)).bare
        ∧ Fillers 2 t u ∧ u.here.pc = next + 8 ∧ Fillers 1 u v ∧ v.here.pc = target + 4)
    ∧ (s.here.calm → s.here.mayMove m (Instr.ctlLoop m).code → count.toNat = 1 →
      Leaves s (.ctlLoop m) m ((s.here.setPort 0x110 a).setPort 0x111 0))
    ∧ (s.here.calm → s.here.mayMove m (Instr.ctlLoop m).code → count = 0 → Leaves s (.ctlLoop m) m (s.here.setPort 0x110 a))

/-- R211, R326, R327: a call with a legal target and room in the window creates a record of F registers at its target bundle,
moves the window up by F and puts the link into the callee's s31; a return removes the newest resident record and moves the
window down by its size. Delay bundles still see the old window. -/
def Sys2Proof.Claims.CallAndReturnMoveTheWindow : Prop :=
  ∀ (m : Move) (s : State),
    let a := s.here.source m.src
    let next := s.here.pc + BitVec.ofNat 64 (4 * wordCount m)
    let base := BitVec.ofNat 64 s.codeSection.1
    let size := (s.here.port 0x111).toNat
    (s.here.calm → s.here.level = .task → s.here.mayMove m (Instr.ctlCall m).code → s.legalTarget a = true → size ≤ 24 →
      s.here.mustPark size = false →
      ∃ t u v, exec (.ctlCall m) s = .next t ∧ Ran s t m ∧ t.here.bare = (s.here.setPort 0x110 a).bare
        ∧ Fillers 2 t u ∧ u.here.pc = next + 8 ∧ u.here.wb = s.here.wb ∧ u.here.frames = s.here.frames
        ∧ Fillers 1 u v ∧ v.here.pc = base + a + 4 ∧ v.here.frames = s.here.frames ++ [size]
        ∧ v.here.wb = (s.here.wb + size) % 160 ∧ v.here.readS 31 = next + 8 - base
        ∧ (∀ k, k < 8 → v.here.readS k = s.here.readS k)
        ∧ (∀ k, 8 ≤ k → k + size < 32 → k ≠ 31 → v.here.readS k = s.here.readS (k + size)))
    ∧ (∀ f fs, s.here.calm → s.here.level = .task → s.here.mayMove m (Instr.ctlRet m).code → s.legalTarget a = true →
      s.here.frames = fs ++ [f] →
      ∃ t u v, exec (.ctlRet m) s = .next t ∧ Ran s t m ∧ t.here.bare = (s.here.setPort 0x110 a).bare
        ∧ Fillers 2 t u ∧ u.here.pc = next + 8 ∧ u.here.wb = s.here.wb
        ∧ Fillers 1 u v ∧ v.here.pc = base + a + 4 ∧ v.here.frames = fs ∧ v.here.wb = (s.here.wb + 160 - f) % 160
        ∧ v.here.sWindow = s.here.sWindow ∧ v.here.sGlobal = s.here.sGlobal)

/-- R212, R213, R326, R327: a call for which the window has no room parks the oldest resident record: the tile is held for 8 cycles
before the target bundle, and then the record's registers stand in the first free spill slot, which the spill map names; a return
whose record is parked fills it from the newest entry after 8 held cycles and frees the entry; a call that finds no free entry or
slot takes SPILL_MAP_FULL before it issues. -/
def Sys2Proof.Claims.CallsParkAndReturnsFill : Prop :=
  ∀ (m : Move) (s : State),
    let a := s.here.source m.src
    let next := s.here.pc + BitVec.ofNat 64 (4 * wordCount m)
    let base := BitVec.ofNat 64 s.codeSection.1
    let size := (s.here.port 0x111).toNat
    s.here.calm → s.legalTarget a = true →
    (∀ f fs e, s.here.level = .task → s.here.mayMove m (Instr.ctlCall m).code → size ≤ 24 → s.here.frames = f :: fs → f ≤ 24 →
      (160 < 24 + (f + fs.sum) + size ∨ 48 < fs.length + 2) → 24 + fs.sum + size ≤ 160 → fs.length + 1 ≤ 48 →
      s.here.parkEntry = some e →
      ∃ t u w v, exec (.ctlCall m) s = .next t ∧ Ran s t m ∧ Fillers 2 t u ∧ u.here.pc = next + 8
        ∧ Fillers 8 u w ∧ w.here.pc = next + 8 ∧ w.here.icyc = u.here.icyc ∧ w.here.hcyc = u.here.hcyc + 8
        ∧ Fillers 1 w v ∧ v.here.pc = base + a + 4 ∧ v.here.frames = fs ++ [size] ∧ v.here.wb = (s.here.wb + size) % 160
        ∧ v.here.spillMap = s.here.spillMap ++ [e] ∧ e.f = f
        ∧ v.here.readSlot e = s.here.recordWords s.here.oldestBase f)
    ∧ (∀ es e, s.here.level = .task → s.here.mayMove m (Instr.ctlRet m).code → s.here.frames = [] → s.here.spillMap = es ++ [e] → e.f ≤ 24 →
      ∃ t u w v, exec (.ctlRet m) s = .next t ∧ Ran s t m ∧ Fillers 2 t u ∧ u.here.pc = next + 8
        ∧ Fillers 8 u w ∧ w.here.pc = next + 8 ∧ w.here.icyc = u.here.icyc ∧ w.here.hcyc = u.here.hcyc + 8
        ∧ Fillers 1 w v ∧ v.here.pc = base + a + 4 ∧ v.here.frames = [] ∧ v.here.wb = (s.here.wb + 160 - e.f) % 160
        ∧ v.here.spillMap = es ∧ v.here.recordWords v.here.wb e.f = s.here.readSlot e)
    ∧ (BelowS s → s.here.level = .task → s.here.mayMove m (Instr.ctlCall m).code → size ≤ 24 → s.here.mustPark size = true →
      s.here.parkEntry = none →
      TakesBefore s (.ctlCall m)
        { code := .spillMapFull, info := BitVec.ofNat 64 size, bus := BitVec.ofNat 8 m.bus.id })

/-- R191, R211, R212, R213, R325, R326, R327, R328: A jump with a legal target redirects three cycles after its trigger, so that its
two delay bundles issue first; a loop counts ctl.b down and redirects while the count stays above zero. A call with a legal target
and room in the window creates a record of F registers at its target bundle, moves the window up by F and puts the link into the
callee's s31; a return removes the newest resident record and moves the window down by its size. Delay bundles still see the
old window. A call without room parks the oldest record and a return of a parked record fills it, each with 8 held cycles before
its target bundle; a call that finds no free map entry or slot takes SPILL_MAP_FULL. -/
def Obligations.ControlTransfers : Prop := JumpsAndLoopsRedirect ∧ CallAndReturnMoveTheWindow ∧ CallsParkAndReturnsFill

/-- R156, R182, R183, R333, R345: a wait whose condition is met, a drain with no remote write under way, and a fence whose scope holds
the home of no remote write under way issue at once and change nothing. That a write without a home is in no scope but 3 is log 43
(DEDUCED). -/
def Sys2Proof.Claims.SatisfiedWaitsIssue : Prop :=
  ∀ (m : Move) (s : State),
    let a := s.here.source m.src
    (s.here.calm → s.here.level = .task → s.here.mayMove m (Instr.ctlWait m).code → waitReserved a = false → s.here.waitMet a (s.here.port 0x111) = true →
      Leaves s (.ctlWait m) m (s.here.setPort 0x110 a))
    ∧ (s.here.calm → s.here.mayMove m (Instr.syDrain m).code → s.here.rputs = [] → Leaves s (.syDrain m) m (s.here.setPort 0x114 a))
    ∧ (s.here.calm → s.here.mayMove m (Instr.syFence m).code → a.toNat ≤ 3 →
      (∀ k, s.here.task = some k → ∀ r ∈ s.here.rputs,
        a.toNat < homeLevel s.cur ((s.setHere (s.here.setPort 0x114 a)).resolve s.cur k r.addr.toNat 0 1)) →
      Leaves s (.syFence m) m (s.here.setPort 0x114 a))

/-- R164, R184, R215, R216, R333: a bundle whose wait condition is unmet, whose drain has a remote write under way, or whose fence has one
under way with its home in the scope, is held: nothing of it performs and it stays at its pc, while its timeout of c microseconds
has not expired. That a write without a home is in scope 3 is log 43 (DEDUCED). -/
def Sys2Proof.Claims.UnmetWaitsHold : Prop :=
  ∀ (m : Move) (s : State),
    let a := s.here.source m.src
    let waiting := fun (c : Word) => c = 0 ∨ (s.timeBase - s.here.held.getD s.timeBase).toNat < c.toNat * 1000
    s.here.calm → s.here.clock ≠ 2 →
    (s.here.level = .task → s.here.mayMove m (Instr.ctlWait m).code → waitReserved a = false →
      s.here.waitMet a (s.here.port 0x111) = false → s.here.waitFault a (s.here.port 0x111) = none →
      waiting (s.here.port 0x112) → HeldBy s (.ctlWait m) 0x20)
    ∧ (s.here.mayMove m (Instr.syDrain m).code → s.here.rputs ≠ [] → waiting (s.here.port 0x116) → HeldBy s (.syDrain m) 0x40)
    ∧ (∀ k r, s.here.mayMove m (Instr.syFence m).code → a.toNat ≤ 3 → s.here.task = some k → r ∈ s.here.rputs →
      homeLevel s.cur ((s.setHere (s.here.setPort 0x114 a)).resolve s.cur k r.addr.toNat 0 1) ≤ a.toNat →
      waiting (s.here.port 0x116) → HeldBy s (.syFence m) 0x40)

/-- R156, R164, R182, R183, R184, R215, R216, R333, R345: A wait whose condition is met, a drain with no remote write under way, and a
fence whose scope holds the home of no remote write under way issue at once and change nothing. A bundle whose wait condition is
unmet, whose drain has a remote write under way, or whose fence has one under way with its home in the scope, is held: nothing of it
performs and it stays at its pc, while its timeout of c microseconds has not expired. That a write whose address leads nowhere is in no
scope but the domain's, the widest, is the model's reading (log 43). -/
def Obligations.WaitsIssueOrHold : Prop := SatisfiedWaitsIssue ∧ UnmetWaitsHold

/-- R86, R242, R330: END performs its moves, then the tile issues nothing more: nothing is left in flight and its queued
completions go. -/
def Obligations.EndEndsTheTask : Prop :=
  ∀ (m : Move) (s : State),
    s.here.calm → s.here.level = .task → s.here.mayMove m (Instr.ctlEnd m).code →
    ∃ t, exec (.ctlEnd m) s = .next t ∧ OnlyHere s t ∧ s.here.advanced t.here (wordCount m) ∧ t.here.flying = []
      ∧ t.here.phase = .ended ∧ t.here.doneWait = []
      ∧ { t.here.bare with phase := s.here.phase, doneWait := s.here.doneWait } = (s.here.setPort 0x110 (s.here.source m.src)).bare

/-- R226 to R231, R331: a trap performs its bundle, and then the tile enters its S handler with EPC after the bundle, code
0x0F, resume rule 1 and INFO a. -/
def Obligations.TrapEntersTheHandler : Prop :=
  ∀ (m : Move) (s : State),
    let a := s.here.source m.src
    s.here.calm → BelowS s → s.here.mayMove m (Instr.ctlTrap m).code →
    ∃ x t, exec (.ctlTrap m) s = .next t ∧ OnlyHere s t
      ∧ s.here.advanced x (wordCount m) ∧ x.flying = [] ∧ x.bare = (s.here.setPort 0x110 a).bare
      ∧ Entered x t.here { code := .trap, info := a, bus := BitVec.ofNat 8 m.bus.id }
          (s.here.pc + BitVec.ofNat 64 (4 * wordCount m)) (s.part s.here.part).svec

/-- R229, R231, R332: a return whose RES is 0 or 1 frees the handler's records and ports, takes three frozen cycles beside its
own, and goes on at EPC on the level that was interrupted; one whose RES is 2 or 3 ends the task without retirement. -/
def Obligations.ReturnFromEventResumes : Prop :=
  ∀ (m : Move) (s : State),
    let h := s.here.handler
    let back := if s.here.level = .monitor ∧ h.word.getLsbD 20 then Level.user else Level.task
    s.here.calm → s.here.phase = .running → s.here.level ≠ .task → s.here.mayMove m (Instr.ctlRfe m).code →
    (∀ k, s.here.task = some k → ((s.part k.part).job k.job).stopsTasks = false ∧ k.stub = none) →
    ∃ t, exec (.ctlRfe m) s = .next t ∧ (∀ n, n ≠ s.cur → t.tile n = s.tile n)
      ∧ t.here.pc = h.epc ∧ t.here.fcyc = s.here.fcyc + 4
      ∧ (if s.here.level = .monitor then
          t.here.monitor = { h with active := false, units := {} } ∧ t.here.user = s.here.user
        else t.here.user = { h with active := false, units := {} } ∧ t.here.monitor = s.here.monitor)
      ∧ (if h.word.getLsbD 23 then
          t.here.phase = .terminated ∧ t.here.level = .task ∧ t.here.doneWait = []
        else OnlyHere s t ∧ t.here.phase = .running ∧ t.here.level = back ∧ t.here.doneWait = s.here.doneWait)
      ∧ { t.here with
          phase := s.here.phase, level := s.here.level, pc := s.here.pc, fcyc := s.here.fcyc, held := s.here.held
          holds := s.here.holds, issues := s.here.issues, code := s.here.code, user := s.here.user
          monitor := s.here.monitor, doneWait := s.here.doneWait } = s.here

namespace Sys2Proof.Claims

/-- The number of a job's state (R339). -/
def jobStateNumber : JobState → Nat
  | .unprotected => 0
  | .open_ => 1
  | .quiescing => 2
  | .draining => 3
  | .replaying => 4
  | .serial => 5
  | .failed => 6

/-- The rank-table entry that RANKSEL selects: its domain number and VALID (R342). -/
def rankEntry (table : Option (List Nat)) (rank : Nat) : Nat :=
  match table.bind (fun r => r[rank]?) with
  | some d => d + 256
  | none => 0

/-- A system register that an executing level may read, and what a read delivers (R337, R339 to R342), but for TLBI's neighbours that no
rule lets it read and words 10 to 15 of a flight record, which none has. -/
def sysValue (s : State) (n : Nat) : Option Word :=
  let t := s.here
  if n = 0x000 then some t.icyc
  else if n = 0x001 then some t.hcyc
  else if n = 0x002 then some t.fcyc
  else if n = 0x003 then some (s.die (dieOf s.cur)).estr
  else if n = 0x008 then some (if t.level = .task then 0 else t.handler.word)
  else if n = 0x009 then some (if t.level = .task then 0 else t.handler.info)
  else if n = 0x00A then some (if t.level = .task then 0 else t.handler.epc)
  else if n = 0x00B then
    some (BitVec.ofNat 64 ((if t.detRead then 1 else 0) + (if t.task.any Task.determ then 2 else 0) + 4 * t.clock
      + (if t.isS then 32 else if t.level = .task then 0 else 16)))
  else if n = 0x010 then some t.karm
  else if n = 0x011 then some t.semarm
  else if n = 0x100 then some (s.part t.part).svec
  else if n = 0x101 then some (s.part t.part).mbase
  else if n = 0x102 then some (s.part t.part).root
  else if n = 0x103 then some (if (s.part t.part).tlbi = [] then 1 else 0)
  else if n = 0x104 then some (s.part t.part).xwin
  else if n = 0x106 then some (s.die (dieOf s.cur)).swapBase
  else if n = 0x107 then some (s.die (dieOf s.cur)).swapPages
  else if n = 0x105 then
    some (BitVec.ofNat 64 (t.jobsel.toNat + 2 ^ 16 * jobStateNumber ((s.part t.part).job t.jobsel.toNat).state))
  else if n = 0x108 then some (t.frsel + BitVec.ofNat 64 (2 ^ 32 * (t.flightRecords s.fresh).length))
  else if n = 0x109 then
    let rs := t.flightRecords s.fresh
    let i := t.frsel.toNat / 16 % 4096
    let k := t.frsel.toNat % 16
    if rs.length ≤ i then some 0 else if k < 10 then some (nth 0 (nth [] rs i) k) else none
  else if n = 0x10A then some t.ctxsel
  else if n = 0x10B then some (t.contextWord s.fresh t.ctxsel.toNat)
  else if n = 0x10C then
    some (BitVec.ofNat 64 (s.cur + 2 ^ 16 * (s.cur / 64 % 4 * 8 + s.cur % 8) + 2 ^ 24 * (s.cur / 64 / 4 * 8 + s.cur % 64 / 8)))
  else if n = 0x10D then
    some (t.ranksel + BitVec.ofNat 64 (2 ^ 32 * (((s.part t.part).rankTable (t.ranksel.toNat % 4096)).getD []).length))
  else if n = 0x10E then
    some (BitVec.ofNat 64 (rankEntry ((s.part t.part).rankTable (t.ranksel.toNat % 4096)) (t.ranksel.toNat / 65536 % 256)))
  else none

/-- The registers of R337 that code below S level may read. -/
def userReadable (n : Nat) : Bool := decide (n ≤ 2) || (decide (8 ≤ n) && decide (n ≤ 0xB)) || n == 0x10 || n == 0x11

/-- The registers that deterministic mode hides (R348). -/
def hidden (n : Nat) : Bool := decide (n ≤ 3) || n == 0x10C

/-- The step of i is a write of v to system register n after its issue cycle. -/
def WritesAfterIssue (s : State) (i : Instr) (m : Move) (n : Nat) (v : Word) (x : Tile) : Prop :=
  ∃ u t, Ran s u m ∧ u.here.flying = [] ∧ u.here.bare = x.bare ∧ exec i s = .next t ∧ t = u.writeSysreg n v

end Sys2Proof.Claims

/-- R336, R337, R339 to R342, R348: a read of a system register that the level may read, of the job's state, the flight records and
the context and rank windows too, delivers its contents at +2; in deterministic mode a hidden one delivers zero and sets the sticky
flag; one that the level may not read takes PRIVILEGE, and a number that the table does not hold ILLEGAL_OPERATION with cause 1. At S
level such an event stops the tile (R239). -/
def Sys2Proof.Claims.SystemRegisterReads : Prop :=
  ∀ (m : Move) (s : State),
    let a := s.here.source m.src
    let n := a.toNat % 4096
    s.here.calm → s.here.mayMove m (Instr.ctlRsr m).code →
    (∀ v, sysValue (s.setHere (s.here.setPort 0x110 a)) n = some v → (userReadable n = true ∨ s.here.isS = true) → (s.here.deterministic && hidden n) = false →
      ∃ t f, exec (.ctlRsr m) s = .next t ∧ (∀ j, j ≠ s.cur → t.tile j = s.tile j)
        ∧ { t with tiles := s.tiles, fresh := if n = 0x109 ∨ n = 0x10B then s.fresh else t.fresh } = s
        ∧ s.here.advanced t.here (wordCount m) ∧ t.here.flying = [f] ∧ Brings f 2 0x104 v ∧ t.here.bare = (s.here.setPort 0x110 a).bare)
    ∧ (userReadable n = true → s.here.deterministic = true → hidden n = true →
      ∃ t f, exec (.ctlRsr m) s = .next t ∧ Ran s t m ∧ t.here.flying = [f] ∧ Brings f 2 0x104 0
        ∧ t.here.bare = { (s.here.setPort 0x110 a).bare with detRead := true })
    ∧ (inTable n = true → userReadable n = false → BelowS s →
      TakesBefore s (.ctlRsr m) { code := .privilege, info := BitVec.ofNat 64 n, bus := BitVec.ofNat 8 m.bus.id })
    ∧ (inTable n = false →
      (BelowS s → TakesBefore s (.ctlRsr m) (badNumber n (Instr.ctlRsr m).code m.bus.id))
      ∧ (s.here.isS = true → s.snapshot.mask = 0 →
        ∃ t, exec (.ctlRsr m) s = .next t ∧ Halts s t (badNumber n (Instr.ctlRsr m).code m.bus.id)))

/-- R336, R337: a write of a system register takes effect as its issue cycle ends, a write of a register without one changes
nothing, and a write of S-level registers below S level takes PRIVILEGE. One of EVW changes RES only. A number that the table does not
hold takes ILLEGAL_OPERATION with cause 1, one of the module firmware PRIVILEGE; at S level such an event, and that of a reserved value,
stops the tile (R239). -/
def Sys2Proof.Claims.SystemRegisterWrites : Prop :=
  ∀ (m : Move) (s : State),
    let a := s.here.source m.src
    let n := a.toNat % 4096
    let v := s.here.port 0x111
    s.here.calm → s.here.mayMove m (Instr.ctlWsr m).code →
    (s.here.isS = true → n ∈ [0x008, 0x00A, 0x100, 0x102, 0x104, 0x106, 0x107, 0x108, 0x10A, 0x10B, 0x10E] →
      WritesAfterIssue s (.ctlWsr m) m n v (s.here.setPort 0x110 a))
    ∧ (s.here.isS = true → n = 0x10D → v.toNat < 2 ^ 24 → v.toNat / 4096 % 16 = 0 →
      WritesAfterIssue s (.ctlWsr m) m n v (s.here.setPort 0x110 a))
    ∧ (∀ (u : State) (x : Word), (u.writeSysreg 0x108 x).here = { u.here with frsel := BitVec.ofNat 64 (x.toNat % 65536) }
        ∧ (u.writeSysreg 0x10D x).here = { u.here with ranksel := x }
        ∧ (u.here.level = .monitor → SetsRes u.here (u.writeSysreg 0x008 x).here x))
    ∧ (n = 0x010 ∨ n = 0x011 → WritesAfterIssue s (.ctlWsr m) m n v (s.here.setPort 0x110 a))
    ∧ (n ∈ [0x000, 0x001, 0x002, 0x009, 0x00B] ∨ (s.here.isS = true ∧ n ∈ [0x003, 0x101, 0x109, 0x10C]) →
      Leaves s (.ctlWsr m) m (s.here.setPort 0x110 a))
    ∧ (inTable n = false →
      (BelowS s → TakesBefore s (.ctlWsr m) (badNumber n (Instr.ctlWsr m).code m.bus.id))
      ∧ (s.here.isS = true → s.snapshot.mask = 0 →
        ∃ t, exec (.ctlWsr m) s = .next t ∧ Halts s t (badNumber n (Instr.ctlWsr m).code m.bus.id)))
    ∧ (s.here.isS = true → s.snapshot.mask = 0 →
      (n = 0x103 ∧ v.toNat % 65536 ≠ 1 ∧ v ≠ 2) ∨ (n = 0x10D ∧ (2 ^ 24 ≤ v.toNat ∨ v.toNat / 4096 % 16 ≠ 0)) →
      ∃ t, exec (.ctlWsr m) s = .next t ∧ Halts s t
        { code := .illegalOperation, cause := 1, info := BitVec.ofNat 64 (Instr.ctlWsr m).code, bus := BitVec.ofNat 8 m.bus.id })
    ∧ (n ∈ [0x003, 0x008, 0x00A, 0x100, 0x101, 0x102, 0x103, 0x104, 0x105, 0x106, 0x107, 0x108, 0x109, 0x10A, 0x10B, 0x10C,
          0x10D, 0x10E] → BelowS s →
      TakesBefore s (.ctlWsr m) { code := .privilege, info := BitVec.ofNat 64 n, bus := BitVec.ofNat 8 m.bus.id })

/-- R336, R337, R339 to R342, R348: A read of a system register that the level may read, of the job's state, the flight records and
the context and rank windows too, delivers its contents at +2; in deterministic mode a hidden one delivers zero and sets the sticky
flag; one that the level may not read takes PRIVILEGE. A write of a system register takes effect as its issue cycle ends, one of EVW on
RES only, a write of a register without one changes nothing, and a write of S-level registers below S level takes PRIVILEGE. A number
outside the table takes ILLEGAL_OPERATION with cause 1, one of the module firmware PRIVILEGE, and at S level such an event stops the
tile (R239). -/
def Obligations.SystemRegisterAccess : Prop := SystemRegisterReads ∧ SystemRegisterWrites

/-- R343: the semaphore operations read, set and add to the semaphore they name; every other semaphore stays, and so does the
rest of the tile where no arming condition waits. -/
def Obligations.SemaphoreOperations : Prop :=
  ∀ (m : Move) (s : State),
    let a := s.here.source m.src
    let b := BitVec.setWidth 32 (s.here.port 0x115)
    s.here.calm → a.toNat < 64 →
    (s.here.mayMove m (Instr.sySemrd m).code →
      Sends s (.sySemrd m) m 0x114 2 0x105 (BitVec.setWidth 64 (s.here.sema a.toNat)))
    ∧ (∀ p ∈ [(Instr.sySemwr m, b), (Instr.sySemadd m, s.here.sema a.toNat + b)], s.here.mayMove m p.1.code →
      ∃ t, exec p.1 s = .next t ∧ Ran s t m ∧ t.here.flying = [] ∧ t.here.sema a.toNat = p.2
        ∧ (∀ k, k ≠ a.toNat → t.here.sema k = s.here.sema k)
        ∧ (s.here.semarm.getLsbD 38 = false →
            { t.here.bare with semas := s.here.semas } = (s.here.setPort 0x114 a).bare))

namespace Sys2Proof.Claims

/-- What sy.clk delivers (R346). -/
def clockOf (s : State) (a : Nat) : Word :=
  if a = 0 then s.timeBase else if a = 1 then s.here.icyc else if a = 2 then s.here.hcyc else s.here.fcyc

/-- The mesh coordinates of a tile: 2 bits of its die and 3 of its place there, in each direction (R10). -/
def meshOf (tile : Nat) : Nat × Nat := (tile / 64 % 4 * 8 + tile % 8, tile / 64 / 4 * 8 + tile % 64 / 8)

/-- What sy.idn delivers (R347); the dies of a partition are numbered in ascending physical order (R79). -/
def identityOf (s : State) (k : Task) (a : Nat) : Word :=
  let p := s.part k.part
  BitVec.ofNat 64
    (if s.here.isS = true ∧ a = 6 then s.cur
     else if s.here.isS = true ∧ a = 7 then (meshOf s.cur).1 + 2 ^ 8 * (meshOf s.cur).2
     else if a = 0 ∨ a = 6 then k.index
     else if a = 1 then k.total
     else if a = 2 then ownRank s p k.job
     else if a = 3 then p.ranks k.job
     else if a = 4 then k.job
     else if a = 5 ∨ a = 7 then logicalDie p (s.cur / 64)
     else s.stepping.toNat)

end Sys2Proof.Claims

/-- R346 to R348: the clocks, counters and identities that code reads at +2, at S level the physical tile number and mesh coordinates; in
deterministic mode, to which S level is not subject, every sy.clk, and sy.idn of 5 and 7, delivers zero and sets the sticky flag. -/
def Obligations.ClockAndIdentityReads : Prop :=
  ∀ (m : Move) (s : State) (k : Task),
    let a := s.here.source m.src
    let det := fun (i : Instr) => ∃ t f, exec i s = .next t ∧ Ran s t m ∧ t.here.flying = [f] ∧ Brings f 2 0x105 0
      ∧ t.here.bare = { (s.here.setPort 0x114 a).bare with detRead := true }
    let hides := k.determ = true ∧ s.here.isS = false
    s.here.calm → s.here.task = some k →
    (s.here.mayMove m (Instr.syClk m).code → a.toNat ≤ 3 →
      (¬ hides → Sends s (.syClk m) m 0x114 2 0x105 (clockOf s a.toNat)) ∧ (hides → det (.syClk m)))
    ∧ (s.here.mayMove m (Instr.syIdn m).code → a.toNat ≤ 8 →
      (¬ hides ∨ (a ≠ 5 ∧ a ≠ 7) → Sends s (.syIdn m) m 0x114 2 0x105 (identityOf s k a.toNat))
      ∧ (hides → a = 5 ∨ a = 7 → det (.syIdn m)))

/-- R96, R344: a remote write with a good control word and address joins the remote-tile queue with its bytes and is folded into
the digest of the tile's task; nothing else changes. One in the U handler of a task whose job has stopped has no effect: that it is
discarded as step 1 of R95 discards what stands in the queue is the model's reading (log 79). When its turn comes in fixed timing (R166) is not
said here. -/
def Obligations.RemoteWriteJoinsTheQueue : Prop :=
  ∀ (m : Move) (s : State) (k : Task),
    let a := s.here.source m.src
    let c := s.here.port 0x116
    let n := 2 ^ (c.toNat % 4)
    s.here.calm → s.here.mayMove m (Instr.syRput m).code → s.here.task = some k → k.work = .dispatched →
    c.toNat < 2 ^ 16 → c.getLsbD 14 = false → c.toNat / 4 % 64 = 0 →
    a.toNat / 2 ^ 60 = 9 → mustBeZero a.toNat = false → a.toNat % 2 ^ 21 + n ≤ 2 ^ 21 → a.toNat % n = 0 →
    (Silenced s → Leaves s (.syRput m) m (s.here.setPort 0x114 a))
    ∧ (¬ Silenced s → ∃ t w, exec (.syRput m) s = .next t ∧ Ran s t m ∧ t.here.flying = []
      ∧ t.here.rputs = s.here.rputs ++ [{ addr := a, n := n, data := s.here.port 0x115, ctl := c, ready := w }] ∧ (s.here.fixed = false → w = none)
      ∧ t.here.digest = s.here.digest + foldWrite a.toNat (toBytes n (s.here.port 0x115).toNat) 0 0
      ∧ { t.here.bare with rputs := s.here.rputs, digest := s.here.digest } = (s.here.setPort 0x114 a).bare)

/-- R78, R85, R299, R334: a spawn with a legal entry and an idle tile to claim starts the spawner's code there: s0 to s7 hold the
spawner's dispatch values, s8 to s15 the spawner's s8 to s15, and the spawner goes on. Every line of the object that the tile needs
is at hand: that a spawn waits for those of other modules is log 10. -/
def Obligations.SpawnStartsATask : Prop :=
  ∀ (m : Move) (s : State) (k : Task) (n : Nat),
    let a := s.here.source m.src
    let b := s.here.port 0x111
    let u := s.setHere (s.here.setPort 0x110 a)
    let child : Task := { k with work := .spawned s.cur, stub := none }
    AsksNothing s (fun q => q == .task n) →
    s.here.calm → s.here.level = .task → s.here.mayMove m (Instr.ctlSpawn m).code → s.here.task = some k →
    s.legalTarget a = true → b.toNat < 128 → u.spawnTarget (s.cur / 64) b.toNat = some n →
    Unhindered u (.task n) (fun v => v.prepareTile n child (v.taskObject child) a.toNat) →
    ∃ t, exec (.ctlSpawn m) s = .next t ∧ s.here.advanced (t.tile s.cur) (wordCount m)
      ∧ (t.tile s.cur).flying = [] ∧ (t.tile s.cur).bare = (s.here.setPort 0x110 a).bare
      ∧ (t.tile n).phase = .running ∧ (t.tile n).level = .task ∧ (t.tile n).wb = 0
      ∧ (t.tile n).pc = BitVec.ofNat 64 ((s.taskObject k).codeBase + a.toNat)
      ∧ (∃ k', (t.tile n).task = some k' ∧ k'.work = .spawned s.cur ∧ k'.index = k.index ∧ k'.launch = k.launch)
      ∧ (∀ r, r < 8 → (t.tile n).readS r = nth 0 k.start r)
      ∧ (∀ r, 8 ≤ r → r < 16 → (t.tile n).readS r = s.here.readS r)
      ∧ (∀ r, 16 ≤ r → r < 32 → (t.tile n).readS r = 0)
      ∧ (∀ j, j ≠ s.cur → j ≠ n → t.tile j = s.tile j)

namespace Sys2Proof.Claims

/-! ## Posts (R73 to R75, R102) -/

/-- The used predecessor fields of a record, and why a post rejects it: the lowest bit of the first field that fails a check (R74). That
a set bit among the reserved ones of STATUS, of which R73 says nothing, is one is log 67 (DESIGN CHOICE). -/
def usedPreds (r : Nat) : List Nat := ([r / 2 ^ 512 % 2 ^ 64, r / 2 ^ 576 % 2 ^ 64]).take (r / 2 ^ 32 % 4)
def badRecord (a : Nat) : Bool := decide (a % 128 ≠ 0) || decide (2 ^ 60 ≤ a)
def reservedStatusBits : List Nat := [772, 773, 774, 775, 780, 781, 782, 783]
def postFault (r : Nat) : Option Nat :=
  if r % 4 = 3 then some 0
  else if (reservedStatusBits.find? (fun b => r.testBit b)).isSome then reservedStatusBits.find? (fun b => r.testBit b)
  else if r / 2 ^ 32 % 4 = 3 then some 32
  else if 1 ≤ r / 2 ^ 32 % 4 ∧ badRecord (r / 2 ^ 512 % 2 ^ 64) then some 512
  else if 2 ≤ r / 2 ^ 32 % 4 ∧ badRecord (r / 2 ^ 576 % 2 ^ 64) then some 576
  else none

/-- The walk of an address leads to an entry whatever the bytes from lo up to hi hold but for its own dirty bit: no table lies there. -/
def WalksAround (s : State) (p lo hi va : Nat) (k : Walked) : Prop :=
  (k.place + 8 ≤ lo ∨ hi ≤ k.place) ∧ ∀ m : Memory, (∀ a, a < lo ∨ hi ≤ a → readByte m a = readByte s.memory a) →
    walk { s with memory := m } (s.part p) va 3 1 (s.part p).root.toNat = .ok k

/-- A record r at a virtual address as the dispatcher finds it, for whichever job: no cache of its die holds an entry of the page, the walk
leads to a leaf that can be read and written, of no rank but the own one, plain, dirty already, of the grade of its lines, which are free
of poison. -/
def HoldsRecord (s : State) (p a r : Nat) (l : Leaf) : Prop :=
  let w := s.dispatcher p none
  let reads := fun (right : Right) k => checkLeaf s w right a k = .ok l
  (s.die w.die).cache = [] ∧ a % 128 = 0 ∧ a < 2 ^ 55
    ∧ (∃ k, walk s (s.part p) a 3 1 (s.part p).root.toNat = .ok k ∧ reads .read k ∧ reads .write k)
    ∧ l.key = 0 ∧ l.shared = false ∧ l.foreign = false ∧ l.entry.getLsbD 12 = true
    ∧ (∀ i, i < 2 → mget 0 s.grades (l.phys / 64 + i) = l.grade ∧ l.phys / 64 + i ∉ s.badLines)
    ∧ r = ofBytes (readBytes s.memory l.phys 128)

/-- The record r at an address has been posted, from s to v: it is POSTED, or REJECTED with an entry of the error log where a check fails;
its STATUS in memory says so, keeps its flags and its counts, and nothing else changes but the caches. One whose STATE is not 0 stays
as it is. -/
def Posts (s v : State) (p a r : Nat) (l : Leaf) : Prop :=
  let status := r / 2 ^ 768 % 2 ^ 64
  let after := if (postFault r).isSome then 6 else 1
  let word := after + status % 2 ^ 12 / 2 ^ 8 * 2 ^ 8 + status / 2 ^ 16 * 2 ^ 16
  if r / 2 ^ 768 % 16 ≠ 0 then { v with dies := s.dies } = s
  else
    (∀ i, readByte v.memory i = if l.phys + 96 ≤ i ∧ i < l.phys + 104 then BitVec.ofNat 8 (word / 256 ^ (i - (l.phys + 96))) else readByte s.memory i)
    ∧ (∃ x, (v.part p).launch? a = some x ∧ x.state = (if (postFault r).isSome then .rejected else .posted)
        ∧ x.job = r / 2 ^ 48 % 4096 ∧ x.preds = usedPreds r ∧ x.record = BitVec.ofNat 1024 r)
    ∧ (∀ b, b ≠ a → (v.part p).launch? b = (s.part p).launch? b) ∧ { v.part p with launches := (s.part p).launches } = s.part p
    ∧ (∀ q, q ≠ p → v.part q = s.part q)
    ∧ (∀ b, postFault r = some b → Logs s v 0x8010 b a (fun s => { s with memory := v.memory, parts := v.parts, dies := v.dies }))
    ∧ (postFault r = none → { v with memory := s.memory, parts := s.parts, dies := s.dies } = s)

end Sys2Proof.Claims

/-- R73 to R75, R102: a post of a record of STATE 0 makes it POSTED, or REJECTED with entry 0x8010 where a check of the post fails; one of
any other STATE does nothing; one that faults in translation posts nothing and is entered with code 0x8011 and its address. The rejection
of a post that fails its checks at once is that of R74's dispatcher. That a reserved bit of STATUS that is set rejects the record, at the
place of R74's reserved fields, is log 67 (DESIGN CHOICE). -/
def Sys2Proof.Claims.PostsMoveRecords : Prop :=
  ∀ (s : State) (p a r : Nat) (job : Option Nat) (l : Leaf),
    p < 16 →
    (HoldsRecord s p a r l → ((s.part p).job (r / 2 ^ 48 % 4096)).logged = false →
      ∃ v, s.post p job a = (none, v) ∧ Posts s v p a r l)
    ∧ ((s.die (s.dispatcher p job).die).cache = [] → a % 128 = 0 → a < 2 ^ 55 →
      (∀ e, walk s (s.part p) a 3 1 (s.part p).root.toNat = .error e → ∃ v, s.post p job a = (some a, v) ∧ Logs s v 0x8011 a a id)
      ∧ ∀ k e, walk s (s.part p) a 3 1 (s.part p).root.toNat = .ok k → checkLeaf s (s.dispatcher p job) .read a k = .error e →
        ∃ v, s.post p job a = (some a, v) ∧ Logs s v 0x8011 a a id)

/-- R75, R186, R335: ctl.post, with no access of the tile under way, completes and posts its record; one in the U handler of a task whose
job has stopped completes and posts nothing (log 79). -/
def Sys2Proof.Claims.TaskPosts : Prop :=
  ∀ (m : Move) (s : State) (r : Nat) (l : Leaf),
    let a := s.here.source m.src
    s.here.calm → s.here.mayMove m (Instr.ctlPost m).code →
    (a.toNat < 2 ^ 55 → a.toNat % 128 = 0 → Silenced s → Leaves s (.ctlPost m) m (s.here.setPort 0x110 a))
    ∧ (s.here.rputs = [] → s.here.postings = [] → s.here.part < 16 → ¬ Silenced s → AsksNothing s (fun q => q == .post s.cur) →
    HoldsRecord s s.here.part a.toNat r l → ((s.part s.here.part).job (r / 2 ^ 48 % 4096)).logged = false →
    ∃ t, exec (.ctlPost m) s = .next t ∧ (∀ n, n ≠ s.cur → t.tile n = s.tile n) ∧ s.here.advanced t.here (wordCount m)
      ∧ t.here.flying = [] ∧ t.here.bare = (s.here.setPort 0x110 a).bare ∧ Posts s { t with tiles := s.tiles } s.here.part a.toNat r l)

/-- R75, R186, R335: ctl.post with no access of the tile under way does as the cycle acts what every post does, and its bundle issues;
and where the record cannot be read, with an entry of the error log. Nothing of another module is to come for it (log 10). -/
def Sys2Proof.Claims.TaskPostIsAPost : Prop :=
  ∀ (m : Move) (s : State),
    let a := s.here.source m.src
    let x := s.here.setPort 0x110 a
    let u := ((tried (s.setHere x) (.post s.cur)).post s.here.part (s.here.task.map Task.job) a.toNat).2
    s.here.calm → u.here.calm → s.here.mayMove m (Instr.ctlPost m).code → s.here.rputs = [] → s.here.postings = [] → ¬ Silenced s →
    u.want = none → AsksNothing u (fun q => q == .post s.cur) → a.toNat < 2 ^ 55 → a.toNat % 128 = 0 →
    ∃ t, exec (.ctlPost m) s = .next t ∧ { t with tiles := u.tiles } = { u with want := s.want, asker := s.asker } ∧ (∀ n, n ≠ s.cur → t.tile n = u.tile n)
      ∧ t.here.pc = s.here.pc + BitVec.ofNat 64 (4 * wordCount m) ∧ t.here.bare = u.here.bare

/-- R73 to R75, R102, R186, R335: a post of a record of STATE 0 makes it POSTED, or REJECTED with entry 0x8010 where a check of the post
fails; one of any other STATE does nothing; one that faults in translation posts nothing and writes entry 0x8011. ctl.post, with no access
of its tile under way, does that as the cycle acts, and its bundle issues; that it posts nothing in the U handler of a task whose job has
stopped is the model's reading of R95 (log 79). That a set reserved bit of STATUS rejects a record is the model's choice (log 67). -/
def Obligations.PostOperationPosts : Prop := PostsMoveRecords ∧ TaskPosts ∧ TaskPostIsAPost

namespace Sys2Proof.Claims

/-! ## The engines of a tile (R138 to R164, R371 to R398) -/

/-- A tile at rest but for what the copy engine keeps of the newest commands of its channels. -/
def Rests (t : Tile) : Prop := ({ t with newest := [] } : Tile).calm

/-- The trigger of a move in its own bundle, as its checks read it. -/
def trig (t : Tile) (m : Move) (code : Nat) : Trigger :=
  { move := m, code := code, value := { word := t.source m.src, parts := [] }, bundle := t.pc, carried := [], window := [] }

/-- A command has issued with control word ctl: its token is PENDING under its number, and every other token stays
(R152, R153). -/
def Issued (a b : Tile) (ctl : Word) : Prop :=
  (∀ k, b.token k = if k = produced ctl then .pending else a.token k)
    ∧ (∀ k, mget 0 b.producers k = if k = produced ctl then a.nextId else mget 0 a.producers k) ∧ b.nextId = a.nextId + 1

/-- The bank set that a command without predecessors has in the reservation table. -/
def tableOf (id : Nat) (banks : BitVec 32) : List (Nat × BitVec 32) := if banks = 0 then [] else [(id, banks)]

/-- What is kept of a channel that has issued nothing. -/
def noCommand : Newest := { id := 0, map := 0, recent := 0, ended := false }

/-- The command that cp.go n forms (R139). -/
def latchedCopy (t : Tile) (n : Nat) (v : Word) : CopyCmd :=
  { id := t.nextId, ch := n, shape := mget 0 t.shapes v.toNat, src := t.port 0x120, dst := t.port 0x121, ctl := t.port 0x122,
    waits := [], doomed := false, user := !t.isS, phase := .running, started := 0, age := 0, map := 0, lost := 0 }

/-- A row of R374: the operation, whether it multiplies, and whether it moves data to or from the tile memories. -/
structure MatrixRow where
  op         : Move → Instr
  multiplies : Bool
  moves      : Bool

def matrixRows : List MatrixRow :=
  [⟨.mxMma, true, false⟩, ⟨.mxMmd, true, true⟩, ⟨.mxMdrn, false, true⟩, ⟨.mxMclr, false, false⟩, ⟨.mxMsave, false, true⟩,
   ⟨.mxMload, false, true⟩]

/-- The command that a matrix trigger forms from its value and the ten ports (R372). -/
def latchedMatrix (t : Tile) (op : Nat) (z : Word) : MatrixCmd :=
  { id := t.nextId, op := op, z := z, ctl := t.port 0x130, geo := t.port 0x131, fmt := t.port 0x132, bnk := t.port 0x133,
    dst := t.port 0x134, rsd := t.port 0x135, scl := t.port 0x136, seed := t.port 0x137, drp := t.port 0x138,
    org := t.port 0x139, waits := [], doomed := false }

/-- The memories of a tile as a matrix command finds them. -/
def foundBy (t : Tile) : Opened := { store := t.store, buffers := t.buffers, badWords := t.badWords }

/-- L of R219 and R374. KLEN is geo[15:0], KA fmt[13:8] and KB fmt[19:14]; K is KLEN in a narrow pair and a quarter of it,
rounded up, in a wide one. -/
def matrixLength (r : MatrixRow) (c : MatrixCmd) : Nat :=
  let klen := c.geo.toNat % 65536
  let k := if c.narrow then klen else (klen + 3) / 4
  let ka := c.fmt.toNat / 2 ^ 8 % 64
  let kb := c.fmt.toNat / 2 ^ 14 % 64
  12 + (if r.multiplies then (k + 7) / 8 * ka * ((kb + 15) / 16) else 0) + (if r.moves then 64 else 0)

/-- The kn operations with their numbers in R309. -/
def kilnRows : List ((Move → Instr) × Nat) :=
  [(.knAdd, 0), (.knMin, 1), (.knMinu, 2), (.knMax, 3), (.knMaxu, 4), (.knAnd, 5), (.knOr, 6), (.knXor, 7), (.knSwap, 8),
   (.knCas, 9), (.knTick, 10), (.knPadd, 11), (.knQadd, 12), (.knUpd, 13), (.knLd, 14), (.knSt, 15)]

end Sys2Proof.Claims

/-- R193, R329: a prefetch of an offset in the code section starts the fills of its line and of the line after it that are
neither resident nor under way, and one of an offset past the section does nothing; the bundle issues. -/
def Obligations.PrefetchStartsFills : Prop :=
  ∀ (m : Move) (s : State),
    let off := (s.here.source m.src).toNat / 4 * 4
    let x := s.here.setPort 0x110 (s.here.source m.src)
    let line := (s.codeSection.1 + off) / 256
    let absent := fun l => (s.here.codeLine s.here.part l).isNone && !s.here.fills.any (fun f => f.1 == l)
    s.here.calm → s.here.mayMove m (Instr.ctlPref m).code →
    (s.codeSection.2 ≤ off → Leaves s (.ctlPref m) m x)
    ∧ (off < s.codeSection.2 →
      Leaves s (.ctlPref m) m
        { x with fills := s.here.fills ++ (if absent line then [(line, true)] else [])
                            ++ (if absent (line + 1) then [(line + 1, true)] else []) })

/-- R141, R149: cp.defs puts the record in cp.sh0 to cp.sh7 into the slot it names when the record passes the checks of R149, takes
INVALID_SHAPE_RECORD with the slot in INFO when it does not, and ILLEGAL_OPERATION with cause 1 for a slot above 255. -/
def Obligations.ShapeDefinitionWritesItsSlot : Prop :=
  ∀ (m : Move) (s : State) (image : BitVec 512),
    let a := s.here.source m.src
    let bus := BitVec.ofNat 8 m.bus.id
    s.here.calm → s.here.mayMove m (Instr.cpDefs m).code →
    (∀ j, j < 8 → BitVec.extractLsb' (64 * j) 64 image = s.here.port (0x128 + j)) →
    (a.toNat ≤ 255 → Shape.valid image.toNat = true →
      ∃ x, Leaves s (.cpDefs m) m x ∧ (∀ k, mget 0 x.shapes k = if k = a.toNat then image else mget 0 s.here.shapes k)
        ∧ { x with shapes := s.here.shapes } = s.here)
    ∧ (a.toNat ≤ 255 → Shape.valid image.toNat = false → BelowS s →
      TakesBefore s (.cpDefs m) { code := .invalidShapeRecord, info := a, bus := bus })
    ∧ (255 < a.toNat → BelowS s →
      TakesBefore s (.cpDefs m) { code := .illegalOperation, cause := 1, info := BitVec.ofNat 64 (Instr.cpDefs m).code, bus := bus })

/-- R138, R139, R150, R152, R153: a copy that passes its checks, on an engine with nothing in flight and with its tokens PRESENT,
issues with what it latched and starts at once: its token is PENDING, its bank set is in the reservation table, and it is the
newest command of its channel, with a zero map. -/
def Obligations.CopyIssuesAndStarts : Prop :=
  ∀ (m : Move) (n : Fin 16) (s : State),
    let v := s.here.source m.src
    let c := latchedCopy s.here n.val v
    Rests s.here → s.here.level = .task → s.here.mayMove m (Instr.cpGo m n).code →
    copyChecks n.val (trig s.here m (Instr.cpGo m n).code) s = [] → (∀ k ∈ consumed c.ctl, s.here.token k = .present) →
    ∃ t x, exec (.cpGo m n) s = .next t ∧ Ran s t m ∧ t.here.flying = [] ∧ t.here.copies = [x]
      ∧ { x with age := 0, shared := false } = c ∧ Issued s.here t.here c.ctl ∧ t.here.reserved = tableOf c.id c.record.banks
      ∧ (∀ k, { mget noCommand t.here.newest k with recent := 0 }
          = if k = n.val then { noCommand with id := c.id } else { mget noCommand s.here.newest k with recent := 0 })
      ∧ { t.here.bare with
          copies := [], newest := s.here.newest, tokens := s.here.tokens, producers := s.here.producers, nextId := s.here.nextId
          reserved := [] } = s.here.bare

/-- R154, R155, R387: cp.cancel ends the waiting command of its channel: it leaves the engine and its token becomes FAULTED. cp.map
delivers at +2 the window it names of the map of the newest command of its channel, without the bits set in the cycle. The banks of
an ended command leave the table as the engines next have a cycle. -/
def Obligations.CopyCancelAndMap : Prop :=
  ∀ (m : Move) (s : State),
    let a := s.here.source m.src
    (∀ c, Rests { s.here with copies := [] } → s.here.copies = [c] → c.phase = .waiting → c.started = 0 → c.ch = a.toNat →
      a.toNat < 16 → s.here.mayMove m (Instr.cpCancel m).code →
      ∃ t, exec (.cpCancel m) s = .next t ∧ Ran s t m ∧ t.here.flying = [] ∧ t.here.copies = []
        ∧ (∀ k, t.here.token k = if k = produced c.ctl then .faulted else s.here.token k)
        ∧ (∀ k, (mget noCommand t.here.newest k).map = (mget noCommand s.here.newest k).map)
        ∧ (c.cev = false → s.here.karm.getLsbD (produced c.ctl) = false → t.here.done = s.here.done ∧ t.here.karm = s.here.karm)
        ∧ t.here.matrix = (if s.here.level = .task then {} else { leaving := [c.id] })
        ∧ { t.here.bare with
            copies := s.here.copies, newest := s.here.newest, tokens := s.here.tokens, done := s.here.done
            doneWait := s.here.doneWait, karm := s.here.karm, matrix := {} } = s.here.bare)
    ∧ (Rests s.here → s.here.mayMove m (Instr.cpMap m).code → a.toNat < 1024 → a.toNat / 16 % 16 = 0 →
      let n := mget noCommand s.here.newest (a.toNat % 16)
      ∃ t f, exec (.cpMap m) s = .next t ∧ Ran s t m ∧ t.here.flying = [f]
        ∧ Brings f 2 0x106 (BitVec.extractLsb' (64 * (a.toNat / 256)) 64
            (if n.stamp = s.here.icyc + s.here.hcyc + s.here.fcyc then n.map &&& ~~~n.recent else n.map))
        ∧ t.here.bare = s.here.bare)

/-- R115, R152, R153, R178, R179, R219, R372 to R374: a matrix command that passes its checks, in an empty engine and with its tokens
PRESENT, takes the channel with what it latched and starts: L cycles lie before it, one of which has passed, it finds the memories
of its tile as they stand, its token is PENDING, and the bank set of a row that names it is in the table. -/
def Obligations.MatrixCommandStarts : Prop :=
  ∀ r ∈ matrixRows, ∀ (m : Move) (s : State),
    let c := latchedMatrix s.here (r.op m).code (s.here.source m.src)
    s.here.calm → s.here.level = .task → s.here.mayMove m (r.op m).code →
    matrixChecks (trig s.here m (r.op m).code) s = [] → (∀ k ∈ consumed c.ctl, s.here.token k = .present) →
    ∃ t, exec (r.op m) s = .next t ∧ Ran s t m ∧ t.here.flying = []
      ∧ t.here.matrix = { channel := some (c, some (matrixLength r c - 1)), opened := some (foundBy s.here) } ∧ Issued s.here t.here c.ctl
      ∧ t.here.reserved = (if r.moves then tableOf c.id (BitVec.setWidth 32 c.bnk) else [])
      ∧ { t.here.bare with
          matrix := {}, tokens := s.here.tokens, producers := s.here.producers, nextId := s.here.nextId, reserved := [] }
        = s.here.bare

/-- R96, R388, R389, R394: a kn operation with a good address and operand word joins the kiln queue with its address, its operands
and its bundle, and is folded into the digest of the tile's task; nothing else changes. -/
def Obligations.KilnOperationsJoinTheQueue : Prop :=
  ∀ r ∈ kilnRows, ∀ (m : Move) (s : State) (k : Task),
    let a := s.here.source m.src
    let b := s.here.port 0x119
    let c := s.here.port 0x11A
    s.here.calm → s.here.mayMove m (r.1 m).code → s.here.task = some k → k.work = .dispatched →
    a.toNat / 2 ^ 60 = 10 → mustBeZero a.toNat = false → a.toNat / 2 ^ 44 % 16 < (s.part k.part).dieList.length →
    knMisaligned r.2 a c = false → knBadWord r.2 c = false →
    ∃ t d, exec (r.1 m) s = .next t ∧ Ran s t m ∧ t.here.flying = []
      ∧ t.here.kiln = [{ k := r.2, addr := a, b := b, c := c, stage := .sent, bundle := s.here.pc, bus := BitVec.ofNat 8 m.bus.id,
                         due := d }]
      ∧ t.here.digest = s.here.digest + knFold r.2 a b c
      ∧ { t.here.bare with kiln := [], digest := s.here.digest } = (s.here.setPort 0x118 a).bare

/-- R96, R162 to R164, R396, R397: a send joins the send buffer and is folded; a receive pops the head of its queue into lk.res and
lk.src at +2, and on an empty queue it holds its bundle until its timeout; a probe delivers the entry count at +2 and a peek the head, or
0 and all ones. -/
def Obligations.LinkOperations : Prop :=
  ∀ (m : Move) (s : State),
    let a := s.here.source m.src
    let x := s.here.setPort 0x11C a
    let q := a.toNat / 16 % 16
    let wait := s.here.port 0x11E
    let brings := fun (t : State) (d src : Word) => ∃ f, t.here.flying = [f] ∧ f.body = .message d src ∧ f.remain + 1 = 2 ∧ f.perf = none
    s.here.calm →
    (∀ k, s.here.mayMove m (Instr.lkSend m).code → s.here.task = some k → k.work = .dispatched → linkReserved a = false →
      ∃ t d, exec (.lkSend m) s = .next t ∧ Ran s t m ∧ t.here.flying = []
        ∧ t.here.sends = [{ dest := a, data := s.here.port 0x11D, src := linkSource (ownRank s (s.part k.part) k.job) k.index,
                            refused := false, due := d }]
        ∧ t.here.digest = s.here.digest + foldWrite a.toNat (toBytes 8 (s.here.port 0x11D).toNat) 7 0
        ∧ { t.here.bare with sends := [], digest := s.here.digest } = x.bare)
    ∧ (∀ h hs, s.here.mayMove m (Instr.lkRecv m).code → s.here.queue q = h :: hs → h.poisoned = false →
      ∃ t, exec (.lkRecv m) s = .next t ∧ Ran s t m ∧ brings t h.data h.src
        ∧ (∀ j, t.here.queue j = if j = q then hs else s.here.queue j)
        ∧ { t.here.bare with queues := s.here.queues } = x.bare)
    ∧ (s.here.mayMove m (Instr.lkRecv m).code → s.here.queue q = [] → s.here.clock ≠ 2 →
      (wait = 0 ∨ (s.timeBase - s.here.held.getD s.timeBase).toNat < wait.toNat * 1000) → HeldBy s (.lkRecv m) 0x10)
    ∧ (s.here.mayMove m (Instr.lkProbe m).code →
      Sends s (.lkProbe m) m 0x11C 2 0x108 (BitVec.ofNat 64 (s.here.queue q).length))
    ∧ (s.here.mayMove m (Instr.lkPeek m).code → (∀ h hs, s.here.queue q = h :: hs → h.poisoned = false) →
      ∃ t, exec (.lkPeek m) s = .next t ∧ Ran s t m ∧ t.here.bare = x.bare
        ∧ brings t ((s.here.queue q).head?.elim 0 Received.data)
            ((s.here.queue q).head?.elim 0xFFFFFFFFFFFFFFFF#64 Received.src))

namespace Sys2Proof.Claims

/-! ## Exact values as rationals (R252 to R274) -/

/-- The rational that an exact value stands for; none for NaR. -/
def rat (x : Value) : Option ℚ := x.map (fun d => (d.num : ℚ) * (2 : ℚ) ^ d.exp)

/-- Exact sum and product; NaR with a NaR operand (R256). -/
def plus (a b : Option ℚ) : Option ℚ := a.bind (fun x => b.map (fun y => x + y))
def times (a b : Option ℚ) : Option ℚ := a.bind (fun x => b.map (fun y => x * y))

/-- width, es and E of a format code (R252). -/
def widthBits (f : Nat) : Nat := 8 * 2 ^ (f / 4)
def topExp (f : Nat) : Nat := (widthBits f - 2) * 2 ^ (f % 4)

/-- round(x, f) in the terms of R255: the encoding of x, extended without limit, to nearest, ties to even. -/
def roundedTo (f : Nat) (x : Option ℚ) : Nat :=
  let n := widthBits f
  let es := f % 4
  match x with
  | none => 2 ^ (n - 1)
  | some x =>
    if x = 0 then 0
    else
      let a := max ((2 : ℚ) ^ (-(topExp f : Int))) (min ((2 : ℚ) ^ (topExp f : Int)) |x|)
      let s := Int.log 2 a
      let k := s / 2 ^ es
      let ex := s - k * 2 ^ es
      let g := a / (2 : ℚ) ^ s - 1
      let regime : ℚ := if 0 ≤ k then (2 : ℚ) ^ (k + 2) - 2 else 1
      let length : Int := if 0 ≤ k then k + 2 else 1 - k
      let y := (regime * 2 ^ es + (ex : ℚ) + g) * (2 : ℚ) ^ ((n : Int) - 1 - length - (es : Int))
      let t := y - (⌊y⌋ : ℚ)
      let u := if 1 / 2 < t ∨ (t = 1 / 2 ∧ ⌊y⌋ % 2 = 1) then ⌊y⌋ + 1 else ⌊y⌋
      (if x < 0 then 2 ^ n - u else u).toNat

/-- keepbit of R274. -/
def keeps (seed row col stream thr : Nat) : Bool :=
  let mix := fun (x m h : Nat) => (x * m % 2 ^ 64) ^^^ (x * m % 2 ^ 64 / 2 ^ h)
  let x := seed ^^^ (stream * 2 ^ 56) ^^^ (row * 2 ^ 32) ^^^ col
  decide (thr ≤ mix (mix (mix x 0xD6E8FEB86659FD93 31) 0xA3B195E54F2CD8E7 27) 0x8F5C3A27E1B46D0B 33 / 2 ^ 48)

/-! ## The clusters (R349 to R370) -/

/-- The value that a cluster or fan move brings to cluster c, and the lanes its guard leaves on there (R198, R203). -/
def carried (s : State) (m : Move) (c : Nat) : Vec := (s.here.cluster c).source m.src
def lanesOn (s : State) (m : Move) (c : Nat) : BitVec 16 := (s.here.cluster c).guard m.guard

/-- A move on a cluster or fan bus that a task may make: every cluster it reaches is in use. -/
def MayReach (s : State) (m : Move) : Prop :=
  s.here.level = .task ∧ m.bus.isTile = false ∧ ∀ c ∈ s.here.reach m.bus, s.here.inUse.testBit c = true

/-- The tile with port p written in every cluster that the move reaches, under its guard there (R200, R349). -/
def withPort (s : State) (m : Move) (p : Nat) : Tile :=
  (s.here.reach m.bus).foldl (fun t c => t.setVport c p (lanesOn s m c) (carried s m c)) s.here

/-- The one-move bundle of i completes; in every cluster that the move reaches, one record brings `v c` to a latch, in the lanes
that are on, L issue cycles after the trigger; the tile is x but for the passing of the cycle. -/
def EachBrings (s : State) (i : Instr) (m : Move) (x : Tile) (L port : Nat) (v : Nat → Vec) : Prop :=
  ∃ t, exec i s = .next t ∧ Ran s t m ∧ t.here.bare = x.bare
    ∧ t.here.flying.map (fun f => (f.clus, f.body, f.remain + 1, f.perf))
        = (s.here.reach m.bus).map (fun c => (c, Payload.vector port (lanesOn s m c) (v c), L, none))

/-- A row of R352: the operation, its latency, and when r is its result from a, b and c. -/
structure VectorRow where
  op      : Move → Instr
  latency : Nat
  gives   : Vec → Vec → Vec → Vec → Prop

/-- A number read as a signed integer of w bits. -/
def signedOf (w x : Nat) : Int := if x < 2 ^ (w - 1) then x else (x : Int) - (2 ^ w : Nat)

/-- A row that makes each element of width w of the result from the elements of a and b at its index. -/
def elements (op : Move → Instr) (w : Nat) (g : Nat → Nat → Nat) : VectorRow :=
  { op := op, latency := 1
    gives := fun a b _ r => ∀ e, e < 512 / w → elem w r e = g (elem w a e) (elem w b e) }

/-- A row that makes each lane of the result from the lanes of a and b at its index. -/
def lanewise (op : Move → Instr) (L : Nat) (g : Lane → Lane → Lane) : VectorRow :=
  { op := op, latency := L, gives := fun a b _ r => ∀ l, l < 16 → lane r l = g (lane a l) (lane b l) }

/-- A row that makes the whole vector. -/
def whole (op : Move → Instr) (L : Nat) (g : Vec → Vec → Vec → Vec) : VectorRow :=
  { op := op, latency := L, gives := fun a b c r => r = g a b c }

def addRows : List VectorRow :=
  [elements .vaAddb 8 (fun x y => (x + y) % 2 ^ 8), elements .vaAddh 16 (fun x y => (x + y) % 2 ^ 16),
   elements .vaAddw 32 (fun x y => (x + y) % 2 ^ 32), elements .vaSubb 8 (fun x y => (x + (2 ^ 8 - y)) % 2 ^ 8),
   elements .vaSubh 16 (fun x y => (x + (2 ^ 16 - y)) % 2 ^ 16), elements .vaSubw 32 (fun x y => (x + (2 ^ 32 - y)) % 2 ^ 32)]

def lower (w x y : Nat) : Nat := if signedOf w x ≤ signedOf w y then x else y
def higher (w x y : Nat) : Nat := if signedOf w x ≤ signedOf w y then y else x
def onesIf (w : Nat) (p : Bool) : Nat := if p then 2 ^ w - 1 else 0

def compareRows : List VectorRow :=
  [elements .vaMinb 8 (lower 8), elements .vaMinh 16 (lower 16), elements .vaMinw 32 (lower 32), elements .vaMaxb 8 (higher 8),
   elements .vaMaxh 16 (higher 16), elements .vaMaxw 32 (higher 32), elements .vaCeqb 8 (fun x y => onesIf 8 (decide (x = y))),
   elements .vaCeqh 16 (fun x y => onesIf 16 (decide (x = y))), elements .vaCeqw 32 (fun x y => onesIf 32 (decide (x = y))),
   elements .vaCltb 8 (fun x y => onesIf 8 (decide (signedOf 8 x < signedOf 8 y))),
   elements .vaClth 16 (fun x y => onesIf 16 (decide (signedOf 16 x < signedOf 16 y))),
   elements .vaCltw 32 (fun x y => onesIf 32 (decide (signedOf 32 x < signedOf 32 y)))]

def bitRows : List VectorRow :=
  [whole .vaAnd 1 (fun a b _ => a &&& b), whole .vaOr 1 (fun a b _ => a ||| b), whole .vaXor 1 (fun a b _ => a ^^^ b),
   whole .vaAndn 1 (fun a b _ => a &&& ~~~b), whole .vaSel 1 (fun a b c => (c &&& a) ||| (~~~c &&& b)),
   lanewise .vaSllw 1 (fun x y => BitVec.ofNat 32 (x.toNat * 2 ^ (y.toNat % 32))),
   lanewise .vaSrlw 1 (fun x y => BitVec.ofNat 32 (x.toNat / 2 ^ (y.toNat % 32))),
   lanewise .vaSraw 1 (fun x y => BitVec.ofInt 32 (x.toInt / Int.ofNat (2 ^ (y.toNat % 32))))]

/-- Bit n of a carry-less product: the parity of the products of bits whose places add up to n (R353). -/
def carrylessBit (x y : Lane) (n : Nat) : Bool :=
  decide ((List.range (n + 1)).countP (fun i => y.getLsbD i && x.getLsbD (n - i)) % 2 = 1)

def scanRows : List VectorRow :=
  [{ op := .vaClmul, latency := 3
     gives := fun a b _ r => ∀ l, l < 16 → ∀ n, n < 32 → (lane r l).getLsbD n = carrylessBit (lane a l) (lane b l) n },
   { op := .vaXscan, latency := 3
     gives := fun a _ _ r => lane r 0 = lane a 0 ∧ ∀ l, l < 15 → lane r (l + 1) = lane r l ^^^ lane a (l + 1) },
   { op := .vaAscan, latency := 3
     gives := fun a _ _ r => lane r 0 = lane a 0 ∧ ∀ l, l < 15 → lane r (l + 1) = lane r l + lane a (l + 1) },
   { op := .vaPerm, latency := 2
     gives := fun a b _ r => ∀ j, j < 64 → elem 8 r j = if 128 ≤ elem 8 b j then 0 else elem 8 a (elem 8 b j % 64) }]

def reduceRows : List VectorRow :=
  [whole .vaRsum 4 (fun a _ _ => BitVec.setWidth 512 (BitVec.ofInt 64 ((List.range 16).map (fun l => (lane a l).toInt)).sum)),
   whole .vaRxor 4 (fun a _ _ => BitVec.setWidth 512 (((List.range 16).map (lane a)).foldl (fun x y => x ^^^ y) 0)),
   { op := .vaRmax, latency := 4
     gives := fun a _ _ r => ∃ k, k < 16 ∧ (∀ l, l < 16 → (lane a l).toInt ≤ (lane a k).toInt)
       ∧ r = BitVec.setWidth 512 (BitVec.signExtend 64 (lane a k)) },
   whole .vaRany 4 (fun a _ _ => if a = 0 then 0 else 1)]

def vectorRows : List VectorRow := addRows ++ compareRows ++ bitRows ++ scanRows ++ reduceRows

/-- The format word of a cluster (R307), and a field of it. -/
def wordOf (t : Tile) (c : Nat) : Lane := lane (t.vport c 0x10D) 0
def codeOf (w : Lane) (i : Nat) : Nat := w.toNat / 2 ^ (4 * i) % 16

/-- The reserved bits of a format word are zero. -/
def reservedClear (w : Lane) : Prop := w.toNat < 2 ^ 26

/-- A row of R355: the operation, its latency, and each element of its result from the elements of a, b and c, in format f. -/
structure PositRow where
  op      : Move → Instr
  latency : Nat
  element : Nat → Nat → Nat → Nat → Nat

/-- A row whose result is an exact value rounded once. -/
def roundedRow (op : Move → Instr) (L : Nat) (h : Value → Value → Value → Value) : PositRow :=
  { op := op, latency := L
    element := fun f x y z => roundPosit (h (decodePosit x f) (decodePosit y f) (decodePosit z f)) f }

/-- A row that selects or compares encodings x and y of w bits. -/
def encodingRow (op : Move → Instr) (L : Nat) (g : Nat → Nat → Nat → Nat) : PositRow :=
  { op := op, latency := L, element := fun f x y _ => g (fmtWidth f) x y }

def positRows : List PositRow :=
  [roundedRow .vpPadd 3 (fun a b _ => vadd a b), roundedRow .vpPsub 3 (fun a b _ => vadd a (vneg b)),
   roundedRow .vpPmul 5 (fun a b _ => vmul a b), roundedRow .vpPfma 7 (fun a b c => vadd (vmul a b) c),
   roundedRow .vpPfms 7 (fun a b c => vadd (vmul a b) (vneg c)), encodingRow .vpPmin 1 lower, encodingRow .vpPmax 1 higher,
   encodingRow .vpPabs 1 (fun w x _ => if x < 2 ^ (w - 1) ∨ x = 2 ^ (w - 1) then x else 2 ^ w - x),
   encodingRow .vpPneg 1 (fun w x _ => (2 ^ w - x) % 2 ^ w), encodingRow .vpPceq 2 (fun w x y => onesIf w (decide (x = y))),
   encodingRow .vpPclt 2 (fun w x y => onesIf w (decide (signedOf w x < signedOf w y))),
   encodingRow .vpPcle 2 (fun w x y => onesIf w (decide (signedOf w x ≤ signedOf w y)))]

end Sys2Proof.Claims

/-- R200, R202, R203, R349, R350, R352 to R354: each va operation takes its trigger value into port a under the guard and delivers
its result into va.res at its latency, in each cluster it reaches and there in the lanes that are on. -/
def Obligations.VectorIntegerResults : Prop :=
  ∀ r ∈ vectorRows, ∀ (m : Move) (s : State),
    let x := withPort s m 0x100
    s.here.calm → MayReach s m →
    ∃ v, (∀ c ∈ s.here.reach m.bus, r.gives (x.vport c 0x100) (x.vport c 0x101) (x.vport c 0x102) (v c))
      ∧ EachBrings s (r.op m) m x r.latency 0x100 v

/-- R200, R202, R203, R255 to R257, R307, R349, R350, R355, R356: each vp operation in a valid format takes its trigger value into
port a under the guard and delivers its elements into vp.res at its latency, in each cluster it reaches. -/
def Obligations.PositUnitResults : Prop :=
  ∀ r ∈ positRows, ∀ (m : Move) (s : State),
    let x := withPort s m 0x104
    s.here.calm → MayReach s m → (∀ c ∈ s.here.reach m.bus, reservedClear (wordOf x c) ∧ fmtValid (codeOf (wordOf x c) 0) = true) →
    ∃ v, (∀ c ∈ s.here.reach m.bus,
        let f := codeOf (wordOf x c) 0
        let at_ := fun p e => elem (fmtWidth f) (x.vport c p) e
        ∀ e, e < 512 / fmtWidth f → elem (fmtWidth f) (v c) e = r.element f (at_ 0x104 e) (at_ 0x105 e) (at_ 0x106 e))
      ∧ EachBrings s (r.op m) m x r.latency 0x101 v

namespace Sys2Proof.Claims

/-- A result latch of cluster c. -/
def latch (t : Tile) (c p : Nat) : Vec := mget 0 (t.cluster c).results p

/-- Lane l of quire q of cluster c. -/
def quireLane (t : Tile) (c q l : Nat) : Quire := mget 0 (t.cluster c).q (16 * q + l)

/-- A row of R358: the operation on q0 and on q1, the cycles to its effect, the fields of the format word it reads, what it puts into
lane l of its quire, what it delivers into lane l of vq.res, if anything, and whether it may report an overflow. Quire and result are
read from the tile x as the bundle's moves leave it. -/
structure QuireRow where
  op      : Bool → Move → Instr
  cycles  : Nat
  formats : Lane → Prop
  quire   : Tile → Nat → Nat → Nat → Quire
  result  : Option (Tile → Nat → Nat → Nat → Lane)
  reports : Bool := false

def readsQA (w : Lane) : Prop := fmtValid (codeOf w 1) = true
def readsQR (w : Lane) : Prop := fmtValid (codeOf w 3) = true
def readsBoth (w : Lane) : Prop :=
  fmtValid (codeOf w 1) = true ∧ fmtValid (codeOf w 2) = true ∧ fmtWidth (codeOf w 1) = fmtWidth (codeOf w 2)

/-- The decoded elements of lane l of vq.a and vq.b in the formats QA and QB. -/
def aValues (x : Tile) (c l : Nat) : List Value := laneValues (codeOf (wordOf x c) 1) (x.vport c 0x108) l
def bValues (x : Tile) (c l : Nat) : List Value := laneValues (codeOf (wordOf x c) 2) (x.vport c 0x109) l

/-- The exact totals of R359: over the lanes of a quire, and over the clusters in use. -/
def laneTotal (x : Tile) (c q : Nat) : Quire := quireTotal ((List.range 16).map (quireLane x c q))
def clusterTotal (x : Tile) (q l : Nat) : Quire :=
  quireTotal (((List.range 8).filter (fun d => x.inUse.testBit d)).map (fun d => quireLane x d q l))

/-- A quire rounded into QR, in every element of a lane. -/
def roundedLane (x : Tile) (c : Nat) (v : Quire) : Lane := repeatLane (codeOf (wordOf x c) 3) (qval v)

def quireRows : List QuireRow :=
  [{ op := fun q m => if q then .vqQclr1 m else .vqQclr0 m, cycles := 1, formats := fun _ => True, quire := fun _ _ _ _ => 0,
     result := none },
   { op := fun q m => if q then .vqQmac1 m else .vqQmac0 m, cycles := 2, formats := readsBoth,
     quire := fun x c q l => qadd (quireLane x c q l) (sumValues (List.zipWith vmul (aValues x c l) (bValues x c l))),
     result := none },
   { op := fun q m => if q then .vqQadd1 m else .vqQadd0 m, cycles := 2, formats := readsQA,
     quire := fun x c q l => qadd (quireLane x c q l) (sumValues (aValues x c l)), result := none },
   { op := fun q m => if q then .vqQsub1 m else .vqQsub0 m, cycles := 2, formats := readsQA,
     quire := fun x c q l => qadd (quireLane x c q l) (vneg (sumValues (aValues x c l))), result := none },
   { op := fun q m => if q then .vqQrnd1 m else .vqQrnd0 m, cycles := 4, formats := readsQR,
     quire := quireLane, result := some (fun x c q l => roundedLane x c (quireLane x c q l)) },
   { op := fun q m => if q then .vqQxadd1 m else .vqQxadd0 m, cycles := 4, formats := readsQR,
     quire := fun x _ q l => clusterTotal x q l, result := some (fun x c q l => roundedLane x c (clusterTotal x q l)) },
   { op := fun q m => if q then .vqQred1 m else .vqQred0 m, cycles := 6, formats := readsQR,
     quire := fun x c q _ => laneTotal x c q, result := some (fun x c q _ => roundedLane x c (laneTotal x c q)) },
   { op := fun q m => if q then .vqQovf1 m else .vqQovf0 m, cycles := 1, formats := fun _ => True, quire := quireLane,
     result := some (fun x c q l => if quireLane x c q l = quireNar then 0xFFFFFFFF else 0), reports := true }]

/-- EN of an overflow control is set in cluster c and a lane that is on holds NaR (R361). -/
def reportsOverflow (x : Tile) (c q : Nat) (lanes : BitVec 16) : Prop :=
  (x.vport c 0x108).getLsbD 0 = true ∧ ∃ l, l < 16 ∧ lanes.getLsbD l = true ∧ quireLane x c q l = quireNar

/-- A tile without its clusters, and a cluster without its quires, operand ports and result latches. -/
def apart (t : Tile) : Tile := { t.bare with clusters := [] }
def inside (k : Cluster) : Cluster := { k with q := [], ports := [], results := [] }

end Sys2Proof.Claims

/-- R200, R258, R259, R357 to R359, R361: each vq operation, on a tile with no vq operation pending, takes effect on its quire in the
lanes that are on, in each cluster it reaches, and those with a result deliver it into vq.res; every other quire and latch lane
stays. -/
def Sys2Proof.Claims.QuireOperationsTakeEffect : Prop :=
  ∀ r ∈ quireRows, ∀ (q1 : Bool) (m : Move) (s : State),
    let x := withPort s m 0x108
    let q := if q1 then 1 else 0
    s.here.calm → MayReach s m →
    (∀ c ∈ s.here.reach m.bus, reservedClear (wordOf x c) ∧ r.formats (wordOf x c)) →
    (r.reports = true → ∀ c ∈ s.here.reach m.bus, ¬ reportsOverflow x c q (lanesOn s m c)) →
    ∃ t u, exec (r.op q1 m) s = .next t ∧ Ran s t m ∧ t.here.flying = [] ∧ Fillers r.cycles t u ∧ OnlyHere s u
      ∧ u.here.flying = [] ∧ u.here.quires = [] ∧ apart u.here = apart s.here
      ∧ (∀ c, inside (u.here.cluster c) = inside (s.here.cluster c) ∧ (∀ p, u.here.vport c p = x.vport c p)
        ∧ (∀ k l, k < 2 → l < 16 → quireLane u.here c k l
            = if c ∈ s.here.reach m.bus ∧ k = q ∧ (lanesOn s m c).getLsbD l then r.quire x c q l else quireLane s.here c k l)
        ∧ (∀ l, l < 16 → lane (latch u.here c 0x102) l
            = match r.result with
              | some g => if c ∈ s.here.reach m.bus ∧ (lanesOn s m c).getLsbD l then g x c q l else lane (latch s.here c 0x102) l
              | none => lane (latch s.here c 0x102) l)
        ∧ (∀ p, p ≠ 0x102 → latch u.here c p = latch s.here c p))

/-- R112, R258, R360: a save in one cluster writes at +2 the lane images of its quire that are on, 128 bytes each, and no other byte; a
load that meets no poison sets at +6 the lanes that are on to the 1,024-bit patterns it read at +2. -/
def Sys2Proof.Claims.QuireSaveAndLoad : Prop :=
  ∀ (q1 : Bool) (m : Move) (s : State) (c : Nat),
    let x := withPort s m 0x108
    let q := if q1 then 1 else 0
    let a := (lane (x.vport c 0x108) 0).toNat
    let on := fun l => (lanesOn s m c).getLsbD l
    s.here.calm → MayReach s m → s.here.reach m.bus = [c] → reservedClear (wordOf x c) → a + 2048 ≤ 2 ^ 21 → a % 128 = 0 →
    (∃ t u, exec (if q1 then .vqQsav1 m else .vqQsav0 m) s = .next t ∧ Ran s t m ∧ Fillers 2 t u ∧ OnlyHere s u ∧ u.here.quires = []
      ∧ (∀ l j, l < 16 → j < 128 → readByte u.here.store (a + 128 * l + j)
          = if on l then BitVec.extractLsb' (8 * j) 8 (quireLane s.here c q l) else readByte s.here.store (a + 128 * l + j))
      ∧ (∀ y, y < a ∨ a + 2048 ≤ y → readByte u.here.store y = readByte s.here.store y)
      ∧ (∀ d k l, l < 16 → k < 2 → quireLane u.here d k l = quireLane s.here d k l))
    ∧ (s.here.poisonedAt a 2048 = false →
      ∃ t u, exec (if q1 then .vqQld1 m else .vqQld0 m) s = .next t ∧ Ran s t m ∧ Fillers 6 t u ∧ OnlyHere s u ∧ u.here.quires = []
        ∧ u.here.store = s.here.store ∧ apart u.here = apart s.here
        ∧ (∀ l j, l < 16 → j < 128 → on l = true →
            BitVec.extractLsb' (8 * j) 8 (quireLane u.here c q l) = readByte s.here.store (a + 128 * l + j))
        ∧ (∀ d k l, l < 16 → k < 2 → ¬ (d = c ∧ k = q ∧ on l = true) → quireLane u.here d k l = quireLane s.here d k l))

/-- R112, R200, R258, R259, R357, R358, R359, R360, R361: each vq operation, on a tile with no vq operation pending, takes effect
on its quire in the lanes that are on, in each cluster it reaches, and those with a result deliver it into vq.res; every other
quire and latch lane stays. A save in one cluster writes at +2 the lane images of its quire that are on, 128 bytes each, and
no other byte; a load that meets no poison sets at +6 the lanes that are on to the 1,024-bit patterns it read at +2. -/
def Obligations.QuireOperationsAct : Prop := QuireOperationsTakeEffect ∧ QuireSaveAndLoad

namespace Sys2Proof.Claims

/-- A row of R363 that writes vc.res: the operation, whether it is an h form, the words it accepts, the widths of source and
destination elements, and what it makes of an element under a scale latch. -/
structure ConvertRow where
  op     : Move → Instr
  upper  : Bool
  accept : Lane → Bool
  conv   : Lane → Int → Nat → Nat

/-- The mapping of R362. -/
def MapsElements (ws wd : Nat) (upper : Bool) (conv : Nat → Nat) (a r : Vec) : Prop :=
  let k := 512 / max ws wd
  let first := if upper = true ∧ ws < wd then 256 / ws else 0
  (∀ e, e < k → elem wd r e = conv (elem ws a (first + e)) % 2 ^ wd) ∧ r.toNat < 2 ^ (k * wd)

/-- CS, CD, CSK and CDK of a format word (R307). -/
def csOf (w : Lane) : Nat := codeOf w 4
def cdOf (w : Lane) : Nat := codeOf w 5
def cskOf (w : Lane) : Bool := w.getLsbD 24
def cdkOf (w : Lane) : Bool := w.getLsbD 25

/-- Kinds that R363 accepts: a posit, a type of at most 32 bits, and an integer type of at most 32 bits. -/
def isPosit (kind : Bool) (code : Nat) : Bool := !kind && fmtValid code
def isType (kind : Bool) (code : Nat) : Bool := kind && decide (code < 11) && decide (typeWidth code ≤ 32)
def isInt (kind : Bool) (code : Nat) : Bool := isType kind code && typeIsInt code

/-- The value of an element by its kind and code, and the target of a scale. -/
def valueOf (kind : Bool) (code x : Nat) : Value := if kind then decodeType x code else decodePosit x code
def targetOf (kind : Bool) (code : Nat) : Target := if kind then .int code else .posit code
def widthOf (kind : Bool) (code : Nat) : Nat := if kind then typeWidth code else fmtWidth code

def positToPosit (w : Lane) (_ : Int) (x : Nat) : Nat :=
  if csOf w = cdOf w then x else roundPosit (decodePosit x (csOf w)) (cdOf w)
def typeToPosit (w : Lane) (_ : Int) (x : Nat) : Nat := roundPosit (decodeType x (csOf w)) (cdOf w)

def convertRows : List ConvertRow :=
  [⟨.vcCvt, false, fun w => isPosit (cskOf w) (csOf w) && isPosit (cdkOf w) (cdOf w), positToPosit⟩,
   ⟨.vcCvth, true, fun w => isPosit (cskOf w) (csOf w) && isPosit (cdkOf w) (cdOf w), positToPosit⟩,
   ⟨.vcCvi, false, fun w => isType (cskOf w) (csOf w) && isPosit (cdkOf w) (cdOf w), typeToPosit⟩,
   ⟨.vcCvih, true, fun w => isType (cskOf w) (csOf w) && isPosit (cdkOf w) (cdOf w), typeToPosit⟩,
   ⟨.vcCvo, false, fun w => isPosit (cskOf w) (csOf w) && isType (cdkOf w) (cdOf w),
     fun w _ x => toType (decodePosit x (csOf w)) (cdOf w)⟩,
   ⟨.vcQuan, false, fun w => isPosit (cskOf w) (csOf w) && (isPosit (cdkOf w) (cdOf w) || isInt (cdkOf w) (cdOf w)),
     fun w sc x => quantise (decodePosit x (csOf w)) sc (targetOf (cdkOf w) (cdOf w))⟩,
   ⟨.vcDequ, false, fun w => (isPosit (cskOf w) (csOf w) || isInt (cskOf w) (csOf w)) && isPosit (cdkOf w) (cdOf w),
     fun w sc x => dequantise (valueOf (cskOf w) (csOf w) x) sc (cdOf w)⟩]

/-- A row of R365: a load or a store and the offset of lane l from the vector that gives it. -/
structure VmRow where
  op     : Move → Instr
  offset : Vec → Nat → Lane

def nextWord (v : Vec) (l : Nat) : Lane := lane v 0 + BitVec.ofNat 32 (4 * l)
def stride (v : Vec) (l : Nat) : Lane := lane v 0 + BitVec.ofNat 32 l * lane v 1

def vmLoads : List VmRow := [⟨.vmLd, nextWord⟩, ⟨.vmLds, stride⟩, ⟨.vmLdg, lane⟩]
def vmStores : List VmRow := [⟨.vmSt, nextWord⟩, ⟨.vmSts, stride⟩, ⟨.vmSct, lane⟩]

/-- Every lane's offset passes R366. -/
def OffsetsFit (off : Nat → Lane) : Prop := ∀ l, l < 16 → (off l).toNat ≤ 0x1FFFFC ∧ (off l).toNat % 4 = 0

/-- The four bytes at an offset as a lane (R4). -/
def laneAt (t : Tile) (o : Nat) : Lane := BitVec.ofNat 32 (storeNumber t o 4)

/-- A lane that is on stores to the word at y. -/
def StoresTo (off : Nat → Lane) (on : BitVec 16) (y : Nat) : Prop := ∃ l, l < 16 ∧ on.getLsbD l = true ∧ (off l).toNat = y

end Sys2Proof.Claims

/-- R202, R203, R206, R267 to R270, R307, R349, R362 to R364: each vc conversion of accepted kinds maps the elements of its trigger
value as R362 says and delivers them into vc.res at +3; max-scale puts the scale of the elements that are on into the scale latch at
+3, and leaves it where no lane is on. -/
def Obligations.ConversionResults : Prop :=
  ∀ (m : Move) (s : State),
    let x := withPort s m 0x10C
    let w := fun c => wordOf x c
    s.here.calm → MayReach s m → (∀ c ∈ s.here.reach m.bus, reservedClear (w c)) →
    (∀ r ∈ convertRows, (∀ c ∈ s.here.reach m.bus, r.accept (w c) = true) →
      ∃ v, (∀ c ∈ s.here.reach m.bus,
          MapsElements (widthOf (cskOf (w c)) (csOf (w c))) (widthOf (cdkOf (w c)) (cdOf (w c))) r.upper
            (r.conv (w c) (s.here.cluster c).scale.toInt) (x.vport c 0x10C) (v c))
        ∧ EachBrings s (r.op m) m x 3 0x103 v)
    ∧ ((∀ c ∈ s.here.reach m.bus, isPosit (cskOf (w c)) (csOf (w c)) = true
          ∧ (isPosit (cdkOf (w c)) (cdOf (w c)) || isInt (cdkOf (w c)) (cdOf (w c))) = true) →
      ∃ t u, exec (.vcMxsc m) s = .next t ∧ Ran s t m ∧ t.here.bare = x.bare ∧ Fillers 3 t u ∧ OnlyHere s u ∧ u.here.flying = []
        ∧ apart u.here = apart s.here
        ∧ (∀ c, u.here.cluster c = { x.cluster c with
            scale := if c ∈ s.here.reach m.bus ∧ lanesOn s m c ≠ 0 then
                BitVec.ofInt 16 (maxscale
                  (((List.range 16).filter (fun l => (lanesOn s m c).getLsbD l)).flatMap (laneValues (csOf (w c)) (x.vport c 0x10C)))
                  (targetOf (cdkOf (w c)) (cdOf (w c))))
              else (s.here.cluster c).scale }))

/-- R4, R112, R365 to R367: a vm load whose offsets pass R366 and that meets no poison delivers at +6, in each cluster it reaches, the
word at each lane's offset into the lanes of vm.res that are on; nothing else changes. -/
def Sys2Proof.Claims.VectorLoadsDeliverTheirWords : Prop :=
  ∀ r ∈ vmLoads, ∀ (m : Move) (s : State),
    let off := fun c => r.offset (carried s m c)
    s.here.calm → MayReach s m → (∀ c ∈ s.here.reach m.bus, OffsetsFit (off c)) →
    (∀ c ∈ s.here.reach m.bus, ∀ l, l < 16 → s.here.poisonedAt (off c l).toNat 4 = false) →
    ∃ t u, exec (r.op m) s = .next t ∧ Ran s t m ∧ t.here.bare = s.here.bare ∧ Fillers 6 t u ∧ OnlyHere s u ∧ u.here.flying = []
      ∧ apart u.here = apart s.here
      ∧ (∀ c, { u.here.cluster c with results := [] } = { s.here.cluster c with results := [] }
        ∧ (∀ p, p ≠ 0x104 → latch u.here c p = latch s.here c p)
        ∧ (∀ l, l < 16 → lane (latch u.here c 0x104) l
            = if c ∈ s.here.reach m.bus ∧ (lanesOn s m c).getLsbD l then laneAt s.here (off c l).toNat
              else lane (latch s.here c 0x104) l))

/-- R4, R112, R172, R324, R365 to R367: a vm store in one cluster whose offsets pass R366 writes at +2 each lane that is on to the word
at its offset, the higher lane prevailing, and no other byte; it clears the poison of the 64-bit words it writes whole. -/
def Sys2Proof.Claims.VectorStoresWriteTheirWords : Prop :=
  ∀ r ∈ vmStores, ∀ (m : Move) (s : State) (c : Nat),
    let off := r.offset (s.here.vport c 0x110)
    let on := lanesOn s m c
    s.here.calm → MayReach s m → s.here.reach m.bus = [c] → OffsetsFit off →
    ∃ t u, exec (r.op m) s = .next t ∧ Ran s t m ∧ t.here.bare = s.here.bare ∧ Fillers 2 t u ∧ OnlyHere s u ∧ u.here.flying = []
      ∧ restOf u.here = restOf s.here
      ∧ (∀ l j, l < 16 → j < 4 → on.getLsbD l = true → (∀ k, l < k → k < 16 → on.getLsbD k = true → off k ≠ off l) →
          readByte u.here.store ((off l).toNat + j) = BitVec.extractLsb' (8 * j) 8 (lane (carried s m c) l))
      ∧ (∀ y, ¬ StoresTo off on (y / 4 * 4) → readByte u.here.store y = readByte s.here.store y)
      ∧ (∀ k, k ∈ u.here.badWords ↔ k ∈ s.here.badWords ∧ ¬ (StoresTo off on (8 * k) ∧ StoresTo off on (8 * k + 4)))

/-- R4, R112, R172, R324, R365, R366, R367: A vm load whose offsets pass R366 and that meets no poison delivers at +6, in each
cluster it reaches, the word at each lane's offset into the lanes of vm.res that are on; nothing else changes. A vm store in
one cluster whose offsets pass R366 writes at +2 each lane that is on to the word at its offset, the higher lane prevailing,
and no other byte; it clears the poison of the 64-bit words it writes whole. -/
def Obligations.VectorMemoryMovesWords : Prop := VectorLoadsDeliverTheirWords ∧ VectorStoresWriteTheirWords

/-- R202, R203, R368, R369: a vx operation delivers into vx.res at +4 the value that the cluster it names carries in the bundle, or
zero where that cluster carries none; a function evaluation delivers at +9 the elements that its table makes of its trigger value, NaRs
under an invalid table. -/
def Obligations.CrossCopyAndEvaluation : Prop :=
  ∀ (m : Move) (s : State),
    let d := fun c => (lane (s.here.vport c 0x114) 0).toNat % 8
    let sent := fun k => if k ∈ s.here.reach m.bus then carried s m k else 0
    s.here.calm → MayReach s m →
    EachBrings s (.vxXrot m) m s.here 4 0x105 (fun c => sent ((c + 8 - d c) % 8))
    ∧ EachBrings s (.vxXbc m) m s.here 4 0x105 (fun c => sent (d c))
    ∧ ∃ v, EachBrings s (.vfFeval m) m s.here 9 0x106 v
      ∧ ∀ c ∈ s.here.reach m.bus,
          let h := (lane (s.here.vport c 0x118) 0).toNat
          let coeff := (s.here.cluster c).coeff
          let table := tableHeader (ofBytes (readBytes coeff h 16))
          let read := h % 16 = 0 ∧ h + 16 ≤ 16384 ∧ fmtValid table.ifmt = true ∧ fmtValid table.ofmt = true
          (read → MapsElements (fmtWidth table.ifmt) (fmtWidth table.ofmt) false
            (fun x => if tableValid table then feval x table coeff else 2 ^ (fmtWidth table.ofmt - 1)) (carried s m c) (v c))
          ∧ (¬ read → ∀ l, l < 16 → lane (v c) l = 0x80000000#32)

namespace Sys2Proof.Claims

/-! ## Happenings of the module (R17, R25 to R37, R132, R133, R221, R222) -/

/-- The two states differ in one die, one tile or one port at most, which is x after the step. -/
def OnDie (s t : State) (d : Nat) (x : Die) : Prop :=
  t.die d = x ∧ (∀ n, n ≠ d → t.die n = s.die n) ∧ { t with dies := s.dies } = s
def OnTile (s t : State) (d : Nat) (x : Tile) : Prop :=
  t.tile d = x ∧ (∀ n, n ≠ d → t.tile n = s.tile n) ∧ { t with tiles := s.tiles } = s
def OnPort (s t : State) (d : Nat) (x : Port) : Prop :=
  t.port d = x ∧ (∀ n, n ≠ d → t.port n = s.port n) ∧ { t with ports := s.ports } = s

/-- A module that a start without failures leaves: nothing but the flash, the firmware slots and its names lasts. -/
def Afresh (s t : State) (b : BringUp) (fl : List FlashRecord) (count : BitVec 32) : Prop :=
  t.flash = fl ∧ t.startCount = count ∧ t.slots = s.slots ∧ t.serial = s.serial ∧ t.stepping = s.stepping ∧ t.bootSlot = s.primary
    ∧ t.tiles = [] ∧ t.parts = [] ∧ t.dies = [] ∧ t.ports = [] ∧ t.keys = [] ∧ t.errors = [] ∧ t.errorCount = 0 ∧ t.causes = []
    ∧ t.domain = none ∧ t.control.next = none ∧ t.control.waiting = []
    ∧ t.health.badTiles = b.badTiles ∧ t.health.badChannels = b.badChannels ∧ t.health.recovery = false

end Sys2Proof.Claims

/-- R29, R31, R83, R221, R222: the ceiling of a die falls by 100 MHz to no less than 2.0 GHz; once it has been lowered, a die at 105 °C
or a module at its power cap takes no new tasks on it; its fabric clock is elastic again when it is empty and no fixed-timing launch waits for it; a droop stretches
an elastic tile by up to 16 sixteenths; an emergency stretch of a pinned clock is counted in ESTR. -/
def Obligations.HeatAndDroopAct : Prop :=
  ∀ (s : State) (d n k : Nat), d < 16 → n < 1024 →
    (∃ t, exec (.thermalCeilingLower d) s = .next t
      ∧ OnDie s t d { s.die d with ceiling := if (s.die d).ceiling < 2100 then 2000 else (s.die d).ceiling - 100 })
    ∧ (∀ celsius watts, (s.die d).ceiling < 3300 → 105 ≤ celsius ∨ s.powerCap ≤ watts →
      ∃ t, exec (.thermalDispatchStop { die := d, celsius := celsius, watts := watts }) s = .next t
        ∧ OnDie s t d { s.die d with noDispatch := true })
    ∧ ((s.die d).pinned = true → (∀ j, j / 64 = d → (s.tile j).task = none) → (∀ x ∈ (s.die d).shadow, x.tile.fixed = false) →
      (∀ p ∈ s.parts, p.2.dies.getLsbD d = true → s.fixedReady p.1 = false) →
      ∃ t, exec (.fabricClockUnpin d) s = .next t ∧ OnDie s t d { s.die d with pinned := false })
    ∧ (k ≤ 16 → (s.tile n).fixed = false →
      ∃ t, exec (.droopStretch n k) s = .next t ∧ OnTile s t n { s.tile n with stretch := k })
    ∧ ((s.die d).pinned = true →
      ∃ t, exec (.emergencyDroopStretch d k) s = .next t
        ∧ OnDie s t d { s.die d with estr := (s.die d).estr + BitVec.ofNat 64 k })

namespace Sys2Proof.Claims

/-- The stored bits that one code word of a grade covers (R129), numbered as log 30 chooses: a byte of the line and its check bytes
with grade 0, a 128-bit quarter and its nine check bits with grade 1, a 64-bit word and its check bit with grade 2, the whole
word with its eight check bits in an on-die SRAM. -/
def coveredBits (grade u : Nat) : List Nat :=
  if grade = 0 then (List.range 8).map (fun i => 8 * u + i)
  else if grade = 1 then (List.range 128).map (fun i => 128 * u + i) ++ (List.range 9).map (fun i => 512 + 9 * u + i)
  else if grade = 2 then (List.range 64).map (fun i => 64 * u + i) ++ [512 + u]
  else List.range 72

/-- How many such parts a line has, and how many bits of a part are wrong. -/
def partCount (grade : Nat) : Nat := if grade = 0 then 72 else if grade = 1 then 4 else if grade = 2 then 8 else 1
def wrongIn (grade : Nat) (wrong : List Nat) (u : Nat) : Nat := (coveredBits grade u).countP (fun b => wrong.contains b)

/-- How many bytes of a line of grade 0 are wrong. -/
def wrongBytes (wrong : List Nat) : Nat := (List.range 72).countP (fun u => decide (wrongIn 0 wrong u ≠ 0))

/-- Nothing is wrong; the code corrects what is wrong; it detects what it cannot correct (R129). -/
def Intact (grade : Nat) (wrong : List Nat) : Prop := ∀ u, u < partCount grade → wrongIn grade wrong u = 0
def Corrects (grade : Nat) (wrong : List Nat) : Prop :=
  ¬Intact grade wrong
    ∧ if grade = 0 then wrongBytes wrong ≤ 3 else grade ≠ 2 ∧ ∀ u, u < partCount grade → wrongIn grade wrong u ≤ 1
def Detects (grade : Nat) (wrong : List Nat) : Prop :=
  if grade = 0 then wrongBytes wrong = 4 ∨ wrongBytes wrong = 5
  else if grade = 2 then ∃ u, u < 8 ∧ wrongIn 2 wrong u % 2 = 1
  else ∃ u, u < partCount grade ∧ wrongIn grade wrong u = 2

/-- An error corrected: counter c rises, and each 1,024th count is entered with code 0x8020 and the address (R132, R137). -/
def Counted (s t : State) (c addr : Nat) : Prop :=
  let n := mget 0 s.corrected c + 1
  (∀ j, mget 0 t.corrected j = if j = c then n else mget 0 s.corrected j)
    ∧ (n % 1024 ≠ 0 → { t with corrected := s.corrected } = s)
    ∧ (n % 1024 = 0 → n < 2 ^ 64 → Logs s { t with corrected := s.corrected } 0x8020 n addr id)

end Sys2Proof.Claims

/-- R129, R132, R133, R137: a scrub, or a read before it is made, that finds nothing wrong with a line changes nothing; bits that the
code of its grade corrects are counted for its controller or bank, and each 1,024th count is entered with code 0x8020; bits that
it detects and cannot correct poison the line, or the word of an on-die SRAM, and are entered with code 0x8021, the grade, whether
a scrub found them, and the address; a line that is poisoned already stays so. How an on-die SRAM counts its words and
addresses them, its code, the numbers of the stored bits and the counters of the units are the model's choice (log 30); so are the
form of the address of a memory line (log 64), and that a read's finding comes just before the read (log 55). -/
def Obligations.ScrubFindsErrors : Prop :=
  ∀ (s : State) (line : Nat) (found : Finding),
    let how := if found.byRead then 0 else 256
    (scrubAbsent s.health .memory line = false →
      let g := mget 0 s.grades line
      (line ∈ s.badLines ∨ Intact g found.wrong → exec (.memoryScrub .memory line found) s = .next s)
      ∧ (line ∉ s.badLines → Corrects g found.wrong →
        ∃ t, exec (.memoryScrub .memory line found) s = .next t ∧ Counted s t (controllerOf s.health (64 * line)) (64 * line))
      ∧ (line ∉ s.badLines → Detects g found.wrong → g < 256 →
        ∃ t, exec (.memoryScrub .memory line found) s = .next t ∧ (∀ j, j ∈ t.badLines ↔ j = line ∨ j ∈ s.badLines)
          ∧ Logs s t 0x8021 (g + how) (64 * line) (fun s => { s with badLines := t.badLines })))
    ∧ (∀ d, d < 16 → line < 2 ^ 22 → line ∉ (s.die d).badWords →
      (Corrects 3 found.wrong →
        ∃ t, exec (.memoryScrub (.kiln d) line found) s = .next t ∧ Counted s t (1024 + 64 * d + line / 16 % 64) (8 * line))
      ∧ (Detects 3 found.wrong →
        ∃ t x, exec (.memoryScrub (.kiln d) line found) s = .next t ∧ t.die d = { s.die d with badWords := x }
          ∧ (∀ j, j ∈ x ↔ j = line ∨ j ∈ (s.die d).badWords) ∧ (∀ j, j ≠ d → t.die j = s.die j)
          ∧ Logs s t 0x8021 (3 + how) (8 * line) (fun s => { s with dies := t.dies })))
    ∧ ∀ n, n < 1024 → line < 2 ^ 18 → line ∉ (s.tile n).badWords →
      (Corrects 3 found.wrong →
        ∃ t, exec (.memoryScrub (.tile n) line found) s = .next t ∧ Counted s t (4096 + 64 * n + line / 8 % 32) (8 * line))
      ∧ (Detects 3 found.wrong →
        ∃ t x, exec (.memoryScrub (.tile n) line found) s = .next t ∧ t.tile n = { s.tile n with badWords := x }
          ∧ (∀ j, j ∈ x ↔ j = line ∨ j ∈ (s.tile n).badWords) ∧ (∀ j, j ≠ n → t.tile j = s.tile j)
          ∧ Logs s t 0x8021 (3 + how) (8 * line) (fun s => { s with tiles := t.tiles }))

/-- R17, R31 to R37: a start in which no step fails leaves the module afresh, and a cold power cycle also clears the records of
step 2; a step that fails for a unit is recorded and, run in its alternative form on the start that follows, stays in use; an edge
that goes down is recorded for the next start; at 115 °C, once dispatch to the die has stopped, the job that has a task on it is
rolled back. What a start leaves of memory, registers and errors is the model's choice (log 27), and so are the code of an edge's
record and that the edge stays in use until the next start (log 28), and that dispatch to the die stays stopped (log 29). -/
def Obligations.StartsAndModuleFaults : Prop :=
  ∀ (s : State) (b : BringUp),
    (s.flash = [] → b.fails = [] → ∃ t, exec (.moduleStart b) s = .next t ∧ Afresh s t b [] (s.startCount + 1))
    ∧ ((∀ r ∈ s.flash, r.step = 2) → b.fails = [] →
      ∃ t, exec (.coldPowerCycle b) s = .next t ∧ Afresh s t b [] (s.startCount + 1))
    ∧ (∀ step unit code, 2 ≤ step → step ≤ 8 → unit < stepUnits step → s.flash = [] → b.fails = [⟨step, unit, code⟩] → b.altFails = [] →
      ∃ t, exec (.moduleStart b) s = .next t
        ∧ Afresh s t b [{ start := s.startCount + 2, code := code, form := 1, unit := BitVec.ofNat 16 unit, step := BitVec.ofNat 8 step }]
            (s.startCount + 2))
    ∧ (∀ e, e < 24 → edgeDown s.health e = false → e ∉ s.health.lostEdges → s.jobsOn [(edgeDies e).1, (edgeDies e).2] = [] → s.flash.length < 512 →
      recordOf s.flash 5 e = none →
      ∃ t r, exec (.edgeDown e) s = .next t ∧ t.flash = s.flash ++ [r] ∧ r.step = 5 ∧ r.unit.toNat = e ∧ r.form = 0
        ∧ r.start = s.startCount ∧ (∀ x, x ∈ t.health.lostEdges ↔ x = e ∨ x ∈ s.health.lostEdges)
        ∧ { t with flash := s.flash, fresh := s.fresh, health := s.health } = s
        ∧ { t.health with lostEdges := s.health.lostEdges } = s.health)
    ∧ (∀ d p j celsius watts, d < 16 → (s.die d).noDispatch = true → 115 ≤ celsius → tableWf {} s.tiles = true → s.jobsOn [d] = [(p, j)] → ((s.part p).job j).state = .open_ → (s.part p).stopping = none →
      (s.part p).forced = none → (s.part p).imported = [] → s.control.waiting = [] →
      ∃ t, exec (.thermalForceStop { die := d, celsius := celsius, watts := watts }) s = .next t ∧ (t.die d).noDispatch = true
        ∧ ((t.part p).job j).state = .draining ∧ ((t.part p).job j).rollbacks = ((s.part p).job j).rollbacks + 1
        ∧ (∀ i, i ≠ j → (t.part p).job i = (s.part p).job i)
        ∧ (∀ n, (s.tile n).hasJob p j = false → t.tile n = s.tile n)
        ∧ (∀ n, (s.tile n).hasJob p j = true → (s.tile n).level = .task ∨ (s.tile n).phase = .halted → (t.tile n).phase = .idle)
        ∧ t.errorCount = s.errorCount + 1)

namespace Sys2Proof.Claims

/-- A flit as a port puts it on its lanes (R22, R23, R25): it passes its check, its reserved bits are zero, and its CLASS, NAK, ACKSEQ
and SRCMOD are as given, with ACKV set. -/
def Flies (y : BitVec 2048) (cls : Nat) (nak : Bool) (ack : BitVec 16) (src : Nat) : Prop :=
  flitGood y.toNat = true ∧ y.toNat / 2 ^ 27 % 8 = cls % 8 ∧ y.getLsbD 30 = nak ∧ y.getLsbD 31 = true
    ∧ BitVec.ofNat 16 (y.toNat / 2 ^ 48) = ack ∧ y.toNat / 2 ^ 72 % 256 = src % 256 ∧ y.toNat / 2 ^ 24 % 8 = 0
    ∧ y.toNat / 2 ^ 88 % 256 = 0

/-- Sequenced flits on the lanes in their order, each with its SEQ, TAG, DSTMOD and the payload of its cargo. -/
def Sent (ys : List (BitVec 2048)) (fs : List Flit) (ack : BitVec 16) (src : Nat) : Prop :=
  ys.length = fs.length
    ∧ ∀ (i : Nat) (f : Flit), fs[i]? = some f → ∃ y, ys[i]? = some y ∧ Flies y f.cls false ack src ∧ BitVec.ofNat 16 (y.toNat / 2 ^ 32) = f.seq
      ∧ y.toNat % 2 ^ 24 = f.tag % 2 ^ 24 ∧ y.toNat / 2 ^ 80 % 256 = f.dst % 256
      ∧ y.toNat / 2 ^ 96 % 2 ^ 1920 = (Config.writeCargo f.part f.job f.launch f.cargo).1.toNat

/-- No copy of a tile waits for a flit to be acknowledged, no answer does, and no step. -/
def NothingOwed (s : State) : Prop := s.answers = [] ∧ s.awaited = [] ∧ ∀ x ∈ s.tiles, x.2.copies = []

/-- A port y that has heard the acknowledgement of a flit accepts it, and nothing else has changed yet (R25). -/
def accepted (s : State) (p : Nat) (y : Port) : State := s.setPort p { y with expect := y.expect + 1, nakSent := false }

/-- Bits hi to lo of a number (R3). -/
def bits (r : Nat) (hi lo : Nat) : Nat := r / 2 ^ lo % 2 ^ (hi + 1 - lo)

/-- The new contents of an integer location of n bytes (R391), by the number of the operation in R309. -/
def bankValue (k n y b c : Nat) : Nat :=
  let sgn := fun x : Nat => if x < 2 ^ (8 * n - 1) then (x : Int) else (x : Int) - 2 ^ (8 * n)
  match k with
  | 0 => (y + b) % 2 ^ (8 * n)
  | 1 => if sgn b < sgn y then b else y
  | 2 => if b < y then b else y
  | 3 => if sgn y < sgn b then b else y
  | 4 => if y < b then b else y
  | 5 => y &&& b
  | 6 => y ||| b
  | 7 => y ^^^ b
  | 8 => b
  | 9 => if y = c then b else y
  | 10 => (y + 1) % 2 ^ 64
  | 14 => y
  | _ => b

/-- The bytes that an integer operation acts on (R391, R392), and whether it returns the previous contents. -/
def bankBytes (k : Nat) (a c : Word) : Nat :=
  if k = 9 then (if a.toNat % 8 = 0 then 8 else 4) else if k = 10 then 8 else if c.getLsbD 40 then 8 else 4
def bankReturns (k : Nat) (c : Word) : Bool := k == 9 || k == 10 || k == 14 || (k != 15 && c.getLsbD 41)

/-- The value of a quire image (R258). -/
def quireRat (q : Nat) : Option ℚ := if q = 2 ^ 1023 then none else some ((signedOf 1024 q : ℚ) * (2 : ℚ) ^ (-496 : Int))

/-- The value of a posit encoding of a format. -/
def positRat (p f : Nat) : Option ℚ := rat (decodePosit p f)

/-- The new contents that an operation with posits leaves of an old value at its location (R391): a rounded sum, an exact sum in a quire
cell, NaR when it leaves the range, and the elements of an update. -/
def BankPosits (k : Nat) (b c : Word) (old new : Nat) : Prop :=
  let f := bits c.toNat 35 32
  let w := widthBits f
  let scalar := bits c.toNat 39 36
  if k = 11 then new = roundedTo f (plus (positRat old f) (positRat (b.toNat % 2 ^ w) f))
  else if k = 12 then
    quireRat new = (plus (quireRat old) (positRat (b.toNat % 2 ^ w) f)).bind (fun v => if |v| < (2 : ℚ) ^ 527 then some v else none)
  else
    ∀ e, e < bits c.toNat 47 44 →
      bits new (w * e + w - 1) (w * e)
        = roundedTo f (plus (positRat (bits old (w * e + w - 1) (w * e)) f)
            (times (positRat (bits c.toNat 31 0 % 2 ^ widthBits scalar) scalar) (positRat (bits b.toNat (w * e + w - 1) (w * e)) f)))

/-- The operand word of an operation with posits, as R390 and R391 allow it, and the bytes it acts on. -/
def GoodPosits (k : Nat) (c : Word) : Prop :=
  bits c.toNat 35 32 < 12
    ∧ (k = 13 → bits c.toNat 39 36 < 12 ∧ 1 ≤ bits c.toNat 47 44 ∧ bits c.toNat 47 44 * widthBits (bits c.toNat 35 32) ≤ 64)
def positBytes (k : Nat) (c : Word) : Nat :=
  if k = 12 then 128 else (if k = 13 then bits c.toNat 47 44 else 1) * (widthBits (bits c.toNat 35 32) / 8)

/-! ## What flits ask of this module (R95, R124, R134, R135, R146, R147, R159 to R162, R408) -/

/-- The answer a to a flit of module src leaves for it, from v to t (R22, R25 to R27): it takes its place behind the flits of the port of its
route, waits while the route is held, and goes nowhere without a route. -/
def Replies (v t : State) (src part job launch tag : Nat) (a : Answer) : Prop :=
  let f : Flit := { cls := 2, dst := src, part := part, job := job, launch := launch, tag := tag, cargo := .answer a }
  match (v.part part).route src 2 with
  | none => t = v
  | some r =>
    if r.held = true ∨ v.portUp r.port = false then
      t = v.mapPart part (fun p => p.setRoute { r with held := true, waiting := r.waiting ++ [f] })
    else
      let x := v.port r.port
      let g := { f with seq := x.sendSeq }
      ∃ ys, (if x.replay.length < 1024 then Sent ys [g] x.expect v.sourceModule else ys = [])
        ∧ OnPort v t r.port { x with
            sendSeq := x.sendSeq + 1, replay := x.replay ++ [g], since := if x.replay = [] then v.timeBase else x.since, sent := x.sent ++ ys }

/-- Bytes of a memory line that accesses of another module for a job reach (R123, R124): no cache of the dispatcher's die holds an entry,
the walk leads to a leaf with the right, fabric-shared with this module as its home, plain, and the line is of its grade. -/
def HomeLine (s : State) (part job : Nat) (user : Bool) (right : Right) (a n : Nat) (l : Leaf) : Prop :=
  let w := { s.dispatcher part (some job) with user := user }
  (s.die w.die).cache = [] ∧ 1 ≤ n ∧ a % 64 + n ≤ 64
    ∧ (∃ k, walk s (s.part part) a 3 1 (s.part part).root.toNat = .ok k ∧ checkLeaf s w right a k = .ok l)
    ∧ l.key = 0 ∧ l.shared = true ∧ l.foreign = false ∧ mget 0 s.grades (l.phys / 64) = l.grade
    ∧ (physicalOf s.health (s.part part) (l.ppa + n - 1)).isSome = true

/-- Such an access that faults with a cause of R128: in its walk, at its leaf, or at a leaf that is not fabric-shared with this module as
its home, for which the cause is HOME. -/
def HomeFault (s : State) (part job : Nat) (user : Bool) (right : Right) (a n cause : Nat) : Prop :=
  let w := { s.dispatcher part (some job) with user := user }
  (s.die w.die).cache = [] ∧ 1 ≤ n ∧ a % 64 + n ≤ 64
    ∧ (walk s (s.part part) a 3 1 (s.part part).root.toNat = .error cause
      ∨ ∃ k, walk s (s.part part) a 3 1 (s.part part).root.toNat = .ok k
          ∧ (checkLeaf s w right a k = .error cause
            ∨ ∃ l, checkLeaf s w right a k = .ok l ∧ (l.shared = false ∨ l.foreign = true) ∧ cause = 10))

/-- The byte that some runs of bytes give at a displacement; a later run takes the place of an earlier one. -/
def laid (rs : List (Nat × List Byte)) (i : Nat) : Option Byte :=
  rs.foldl (fun o r => if r.1 ≤ i ∧ i < r.1 + r.2.length then some (nth 0 r.2 (i - r.1)) else o) none

/-- Runs of bytes written from an offset up are in a memory, and no other byte has changed. -/
def Holds (m m' : Memory) (off : Nat) (rs : List (Nat × List Byte)) : Prop :=
  ∀ i, readByte m' i = if off ≤ i then (laid rs (i - off)).getD (readByte m i) else readByte m i

/-- Poisoned 8-byte words after a write of runs from an offset up: those that a run covers whole are clean, unless the data are poisoned,
and then every word that a run touches is poisoned (R133, R134). -/
def Cleans (w w' : List Nat) (off : Nat) (rs : List (Nat × List Byte)) (poison : Bool) : Prop :=
  ∀ k, k ∈ w' ↔ if poison then k ∈ w ∨ ∃ r ∈ rs, 8 * k < off + r.1 + r.2.length ∧ off + r.1 < 8 * k + 8
    else k ∈ w ∧ ∀ r ∈ rs, ¬(off + r.1 ≤ 8 * k ∧ 8 * k + 8 ≤ off + r.1 + r.2.length)

/-- What a matrix command found at its start, but for what other commands have written since (R177, log 16), stays. -/
def sameMatrix (x y : Tile) : Matrix := { y.matrix with opened := x.matrix.opened }

/-- A semaphore that counts the bytes of a remote write or of a copy (R159). -/
def CountedBy (x y : Tile) (sem : Option (Nat × Nat)) : Prop :=
  ∀ j, y.sema j = match sem with
    | some p => if j = p.1 then x.sema j + BitVec.ofNat 32 p.2 else x.sema j
    | none => x.sema j

/-- A write of another module performs, from u to v, and answers x: runs of bytes into a tile store, an operand buffer, a kiln, a quire
cell or a memory line with its glaze bits, of which the answer names the line and its grade (R118, R124, R133, R146, R147, R159). The job's
interval is not logged. -/
def ForeignWrites (u : State) (part job : Nat) (place : Place) (off : Nat) (rs : List (Nat × List Byte)) (user : Bool) (glaze : Option Nat)
    (add poison : Bool) (sem : Option (Nat × Nat)) (v : State) (x : Answer) : Prop :=
  match place with
  | .tile m =>
    ∃ y, OnTile u v m y ∧ Holds (u.tile m).store y.store off rs ∧ Cleans (u.tile m).badWords y.badWords off rs false
      ∧ CountedBy (u.tile m) y sem ∧ x = {}
      ∧ { y with store := (u.tile m).store, badWords := (u.tile m).badWords, semas := (u.tile m).semas
                 matrix := sameMatrix (u.tile m) y } = u.tile m
  | .buffer m b =>
    ∃ y, OnTile u v m y ∧ Holds (u.tile m).buffers y.buffers (65536 * b + off) rs ∧ CountedBy (u.tile m) y sem ∧ x = {}
      ∧ { y with buffers := (u.tile m).buffers, badWords := (u.tile m).badWords, semas := (u.tile m).semas
                 matrix := sameMatrix (u.tile m) y } = u.tile m
  | .kiln d =>
    ∃ y, OnDie u v d y ∧ { y with kiln := (u.die d).kiln, badWords := (u.die d).badWords } = u.die d ∧ x = {}
      ∧ if add then
          Holds (u.die d).kiln y.kiln off [(0, readBytes y.kiln off 128)]
            ∧ quireRat (ofBytes (readBytes y.kiln off 128))
                = (plus (quireRat (ofBytes (readBytes (u.die d).kiln off 128))) (quireRat (ofBytes (rs.flatMap Prod.snd)))).bind
                    (fun z => if |z| < (2 : ℚ) ^ 527 then some z else none)
            ∧ Cleans (u.die d).badWords y.badWords off rs (poison || (u.die d).kilnPoison off 128)
        else Holds (u.die d).kiln y.kiln off rs ∧ Cleans (u.die d).badWords y.badWords off rs poison
  | .memory =>
    ∃ l, HomeLine u part job user .write off (runsEnd rs) l ∧ l.entry.getLsbD 12 = true
      ∧ let line := l.phys / 64
        x = { line := some (line, l.grade) } ∧ Holds u.memory v.memory (64 * line + off % 64) rs
        ∧ (∀ j, j ∈ v.badLines ↔
            if j = line then poison = true ∨ ((∀ r ∈ rs, r.2.length < 64) ∧ j ∈ u.badLines) else j ∈ u.badLines)
        ∧ (∀ j, (mget 0 v.glaze j).toNat
            = match glaze with
              | some g => if j = line then g % 2 ^ glazeBits l.grade else (mget 0 u.glaze j).toNat
              | none => (mget 0 u.glaze j).toNat)
        ∧ (∀ j, mget 0 v.grades j = mget 0 u.grades j)
        ∧ { v with memory := u.memory, badLines := u.badLines, glaze := u.glaze, grades := u.grades, dies := u.dies } = u
        ∧ ∀ d, { v.die d with cache := [] } = { u.die d with cache := [] }
  | _ => False

/-- What a write of another module leads to: a job that takes no writes, an address that leads nowhere and a page that faults answer
their causes; poisoned data for a tile are refused as poisoned; anything else is written (R95, R124, R128, R134), and one without bytes
only counts (R159). -/
def WriteActs (u t : State) (src part job launch tag : Nat) (a : Word) (rs : List (Nat × List Byte)) (user : Bool) (glaze : Option Nat)
    (add poison : Bool) (sem : Option (Nat × Nat)) : Prop :=
  let replies := fun v x => Replies v t src part job launch tag x
  (u.rejects part job = true → replies u { cause := 3 })
  ∧ (u.rejects part job = false →
    (∀ c, u.arrivesAt part job launch a (runsEnd rs) = .error c → replies u { cause := c })
    ∧ ∀ place off, u.arrivesAt part job launch a (runsEnd rs) = .ok (place, off) →
      (∀ m b, place = .tile m ∨ place = .buffer m b → poison = true → replies u { poison := true })
      ∧ (∀ c, place = .memory → HomeFault u part job user .write off (runsEnd rs) c →
          ∃ v, { v with dies := u.dies } = u ∧ replies v { cause := c })
      ∧ (((u.part part).job job).logged = false → (∀ r ∈ rs, r.2 ≠ []) →
          (add = true ∨ glaze.isSome = true → ∃ bs, rs = [(0, bs)]) →
          (match place with
            | .tile m => poison = false ∧ (u.tile m).semarm.getLsbD 38 = false
            | .buffer m _ => poison = false ∧ (u.tile m).semarm.getLsbD 38 = false
            | .kiln _ => add = true → runsEnd rs = 128
            | .memory => ∃ l, HomeLine u part job user .write off (runsEnd rs) l ∧ l.entry.getLsbD 12 = true
            | _ => False) →
          ∃ v x, ForeignWrites u part job place off rs user glaze add poison sem v x ∧ replies v x))

/-- What the word that a line has been written in full leads to: the line holds the grade of its writes, and is poisoned as their data
were (R131, R133); a job that takes no writes answers its cause. -/
def LineActs (u t : State) (src part job launch tag line grade : Nat) (poison : Bool) : Prop :=
  let replies := fun v x => Replies v t src part job launch tag x
  (u.rejects part job = true → replies u { cause := 3 })
  ∧ (u.rejects part job = false →
    ∃ v, replies v {} ∧ (∀ j, mget 0 v.grades j = if j = line then grade else mget 0 u.grades j)
      ∧ (∀ j, j ∈ v.badLines ↔ if j = line then poison = true else j ∈ u.badLines)
      ∧ { v with grades := u.grades, badLines := u.badLines } = u)

/-- What a read of another module leads to: its bytes, with the glaze bits of a line where they are asked for, and whether they are
poisoned. Poisoned bytes of a memory line go only after another module of the page's sharer set has been notified and has
acknowledged it (R124, R135). -/
def ReadActs (u t : State) (src part job launch tag : Nat) (a : Word) (n : Nat) (user glaze code : Bool) : Prop :=
  let replies := fun v x => Replies v t src part job launch tag x
  let right := if code then Right.execute else Right.read
  (∀ c, u.arrivesAt part job launch a n = .error c → replies u { cause := c })
  ∧ (∀ m off, u.arrivesAt part job launch a n = .ok (.tile m, off) →
      replies u { bytes := readBytes (u.tile m).store off n, poison := (u.tile m).poisonedAt off n })
  ∧ (∀ d off, u.arrivesAt part job launch a n = .ok (.kiln d, off) →
      replies u { bytes := readBytes (u.die d).kiln off n, poison := (u.die d).kilnPoison off n })
  ∧ (∀ off c, u.arrivesAt part job launch a n = .ok (.memory, off) → HomeFault u part job user right off n c →
      ∃ v, { v with dies := u.dies } = u ∧ replies v { cause := c })
  ∧ (∀ off l, u.arrivesAt part job launch a n = .ok (.memory, off) → HomeLine u part job user right off n l →
      let line := l.phys / 64
      let got : Answer :=
        { bytes := readBytes u.memory (64 * line + off % 64) n, poison := decide (line ∈ u.badLines)
          glaze := if glaze then (mget 0 u.glaze line).toNat % 2 ^ glazeBits l.grade else 0 }
      let others := ((u.part part).sharers (off / 64 * 64)).filter (fun d => some d != u.domain)
      (line ∉ u.badLines ∨ others = [] → ∃ v, { v with dies := u.dies } = u ∧ replies v got)
      ∧ (∀ d r, line ∈ u.badLines → others = [d] → (u.part part).route d 0 = some r → r.held = false → u.portUp r.port = true →
          t.answers = u.answers ++ [{ owed := [u.nextTag], flit :=
            { cls := 2, dst := src, part := part, job := job, launch := launch, tag := tag, cargo := .answer got } }]
          ∧ (t.port r.port).replay = (u.port r.port).replay
              ++ [{ seq := (u.port r.port).sendSeq, cls := 0, dst := d, part := part, job := job, launch := 0, tag := u.nextTag
                    cargo := .notify (BitVec.ofNat 64 (off / 64 * 64)) }]
          ∧ t.tags = (u.nextTag + 1) % 2 ^ 24 ∧ t.memory = u.memory ∧ t.tiles = u.tiles ∧ t.parts = u.parts))

/-- The number at USE of a cell, in a memory (R407). -/
def useOf (m : Memory) (cell : Nat) : Nat := ofBytes (readBytes m (cell + 16) 8)

/-- What a latch of a binding cell leads to, and a latch given back: USE of a bound cell rises as its bytes are read, and a latch given
back lowers it, neither logged nor folded; a cell that is not bound is read and stays (R95, R408). A job that is rolled back takes no
latch; that one is given back all the same is the model's choice (log 10). -/
def LatchActs (u t : State) (src part job launch tag : Nat) (cell : Word) (up : Bool) : Prop :=
  let replies := fun v x => Replies v t src part job launch tag x
  (u.rejects part job = true → up = true → replies u { cause := 3 })
  ∧ (u.rejects part job = false ∨ up = false →
    (∀ c, HomeFault u part job false .execute cell.toNat 64 c → ∃ v, { v with dies := u.dies } = u ∧ replies v { cause := c })
    ∧ ∀ l, HomeLine u part job false .execute cell.toNat 64 l → l.phys / 64 ∉ u.badLines → l.entry.getLsbD 12 = true →
      let at_ := l.phys / 64 * 64
      let bytes := readBytes u.memory at_ 64
      let bound := (cellGives cell.toNat bytes).any Prod.fst
      ∃ v, replies v (if up then { bytes := bytes } else {})
        ∧ useOf v.memory at_ = (if up then (if bound then (useOf u.memory at_ + 1) % 2 ^ 64 else useOf u.memory at_)
            else (useOf u.memory at_ + (2 ^ 64 - 1)) % 2 ^ 64)
        ∧ (∀ i, i < at_ + 16 ∨ at_ + 24 ≤ i → readByte v.memory i = readByte u.memory i)
        ∧ { v with memory := u.memory, dies := u.dies, badLines := u.badLines } = u ∧ (∀ j, j ∈ v.badLines ↔ j ∈ u.badLines))

/-- What a kiln operation of another module leads to: it performs at the bank as one of this module does, and answers the previous contents
where it returns them (R118, R391). One that writes, for a job that takes no writes, answers its cause (R95). -/
def KilnActs (u t : State) (src part job launch tag : Nat) (o : KilnOp) : Prop :=
  let replies := fun v x => Replies v t src part job launch tag x
  let n := if o.k = 11 ∨ o.k = 12 ∨ o.k = 13 then positBytes o.k o.c else bankBytes o.k o.addr o.c
  (u.rejects part job = true → o.k ≠ 14 → replies u { cause := 3 })
  ∧ (u.rejects part job = false →
    (∀ c, u.arrivesAt part job launch o.addr n = .error c → replies u { cause := c })
    ∧ ∀ d off, u.arrivesAt part job launch o.addr n = .ok (.kiln d, off) → (u.die d).kilnPoison off n = false →
      ((u.part part).job job).logged = false →
      let old := ofBytes (readBytes (u.die d).kiln off n)
      let held := fun (v : State) => ∃ y, OnDie u v d y
        ∧ (∀ i, i < off ∨ off + n ≤ i → readByte y.kiln i = readByte (u.die d).kiln i)
        ∧ { y with kiln := (u.die d).kiln, badWords := (u.die d).badWords } = u.die d
      (o.k ≤ 10 ∨ o.k = 14 ∨ o.k = 15 →
        ∃ v, held v ∧ replies v { bytes := if bankReturns o.k o.c then toBytes 8 old else [] }
          ∧ ofBytes (readBytes (v.die d).kiln off n) = bankValue o.k n old (o.b.toNat % 2 ^ (8 * n)) (o.c.toNat % 2 ^ (8 * n)))
      ∧ (o.k = 11 ∨ o.k = 12 ∨ o.k = 13 → GoodPosits o.k o.c →
        ∃ v, held v ∧ replies v { bytes := if o.k = 11 ∧ o.c.getLsbD 41 = true then toBytes 8 old else [] }
          ∧ BankPosits o.k o.b o.c old (ofBytes (readBytes (v.die d).kiln off n))))

/-- What a message of another module leads to: a queue with room takes it, a full queue and a task that is switched out refuse it, and
for a task that is not there the answer is PEER (R79, R162). -/
def MessageActs (u t : State) (src part job launch tag : Nat) (o : Outgoing) : Prop :=
  let replies := fun v x => Replies v t src part job launch tag x
  let q := o.dest.toNat / 16 % 16
  let index := o.dest.toNat / 2 ^ 32 % 1024
  (∀ n, u.resident part launch job index = some n →
    (((u.tile n).queue q).length < 64 →
      ∃ v y, OnTile u v n y ∧ replies v {}
        ∧ (∀ j, y.queue j
            = if j = q then (u.tile n).queue q ++ [{ data := o.data, src := o.src, poisoned := false }] else (u.tile n).queue j)
        ∧ { y with queues := (u.tile n).queues } = u.tile n)
    ∧ (64 ≤ ((u.tile n).queue q).length → replies u { refused := true }))
  ∧ (u.resident part launch job index = none →
    (∀ d x, d ∈ u.dies → x ∈ d.2.shadow → x.part = part → x.launch = launch → x.index = index →
      x.tile.task.any (fun k => k.job == job) = true → replies u { refused := true })
    ∧ ((∀ d ∈ u.dies, ∀ x ∈ d.2.shadow, x.part ≠ part ∨ x.launch ≠ launch ∨ x.index ≠ index
        ∨ x.tile.task.any (fun k => k.job == job) = false) → replies u { cause := 3 }))

/-- Nothing of a tile waits for the answer of a transaction number. -/
def Unasked (x : Tile) (tag : Nat) : Prop :=
  (∀ o ∈ x.kiln, o.stage ≠ .away tag) ∧ (∀ r ∈ x.rputs, r.tag ≠ some tag) ∧ (∀ o ∈ x.sends, o.tag ≠ some tag)
    ∧ ∀ c ∈ x.copies, ∀ m ∈ c.moves, m.awaits tag = false

/-- What an answer leads to: an access of one tile waits for it. A kiln operation has performed, and returns what the answer brings; a
remote write has performed; a message has been taken, or keeps its entry; a cause ends the access with COPY_FAULT; and source bytes
of a chunk that needs more come to their unit (R110, R128, R160, R162, R393). A rollback waits for this write no longer (R95). One under the
number of a flit that went down with a port does nothing, for what it carried never completes (R27). -/
def AnswerActs (u t : State) (tag : Nat) (a : Answer) : Prop :=
  ((∃ q ∈ u.ports, tag ∈ q.2.lost) → t = u) ∧
  ∀ n, (∀ q ∈ u.ports, tag ∉ q.2.lost) → tableWf {} u.tiles = true → (∀ m, m ≠ n → Unasked (u.tile m) tag) → (∀ q ∈ u.awaited, q.stage ≠ .sent [tag]) →
    (u.tile n).postings = [] →
    let x := u.tile n
    let heard := fun (y : Tile) => t.tile n = y ∧ (∀ m, m ≠ n → t.tile m = u.tile m)
      ∧ (∀ p j, (t.part p).job j = { (u.part p).job j with draining := ((u.part p).job j).draining.filter (fun k => k != tag) })
      ∧ { t with tiles := u.tiles, parts := u.parts } = u
    let fault := fun (addr : Word) => ({ code := .copyFault, cause := BitVec.ofNat 8 a.cause, info := addr } : Event)
    (∀ o, x.kiln = [o] → o.stage = .away tag →
      heard (if a.cause ≠ 0 then { x with kiln := [], alarms := x.alarms ++ [fault o.addr] }
        else { x with kiln := if bankReturns o.k o.c = true ∧ o.k ≠ 12 ∧ o.k ≠ 13 then
          [{ o with stage := .performed (BitVec.ofNat 64 (ofBytes a.bytes)) a.poison, due := o.due.map (fun _ => 31) }] else [] }))
    ∧ (∀ r, x.kiln = [] → x.rputs = [r] → r.tag = some tag →
      heard { x with rputs := [], alarms := if a.cause ≠ 0 then x.alarms ++ [fault r.addr] else x.alarms })
    ∧ (∀ o, x.kiln = [] → x.rputs = [] → x.sends = [o] → o.tag = some tag →
      heard (if a.cause ≠ 0 then { x with sends := [], alarms := x.alarms ++ [fault o.dest] }
        else { x with sends := if a.refused then [{ o with refused := true, tag := none }] else [] }))
    ∧ (∀ c m q unit from_, x.kiln = [] → x.rputs = [] → x.sends = [] → x.copies = [c] → c.moves = [m] → m.asked = [q] → q.tag = tag →
      m.sent ≠ [] → (∀ y ∈ m.sent, y.tag ≠ tag) → a.cause = 0 → a.bytes.length = q.len →
      mget [] (c.sourceGrains m.chunk) (q.off / 8) = [{ unit := unit, from_ := from_, len := q.len }] → c.srcOff unit + from_ = q.off →
      let line := if a.poison then some (c.srcAddr q.off &&& ~~~63) else none
      heard { x with copies := [{ c with moves := [{ m with
        asked := []
        data := m.data.map (fun d => if d.unit = unit then
          { d with bytes := d.bytes.take from_ ++ a.bytes ++ d.bytes.drop (from_ + q.len), glaze := d.glaze + (if from_ = 0 then a.glaze else 0)
                   poison := if d.poison.isSome then d.poison else line } else d) }] }] })

/-- What an accepted flit carries for this module is done, and answered (R79, R95, R124, R134, R135, R159 to R162, R408). That the monitor
hears of a poison notify by way of the first tile of its partition that runs, and that ADDR of its error entry is 0, is the model's
reading (log 31). -/
def CargoActs (u t : State) (src part job launch tag : Nat) (c : Cargo) : Prop :=
  match c with
  | .link o => MessageActs u t src part job launch tag o
  | .write a rs user glaze add poison sem => WriteActs u t src part job launch tag a rs user glaze add poison sem
  | .line n grade poison => LineActs u t src part job launch tag n grade poison
  | .read a n user glaze code => ReadActs u t src part job launch tag a n user glaze code
  | .latch cell up => LatchActs u t src part job launch tag cell up
  | .kilnOp o => KilnActs u t src part job launch tag o
  | .answer a => AnswerActs u t tag a
  | .notify va =>
    Logs u t 0x8022 va.toNat 0 (fun u => { u with tiles := t.tiles })
      ∧ ∀ n, u.monitorTile part = some n →
        t.tile n = { u.tile n with alarms := (u.tile n).alarms ++ [{ code := .copyFault, info := va }] }
          ∧ ∀ j, j ≠ n → t.tile j = u.tile j

/-- The number of flits that the ACKSEQ of a flit f acknowledges (R25), where ACKV is set. -/
def acks (x : Port) (f : Nat) : Nat :=
  if f.testBit 31 then x.replay.head?.elim 0 (fun g => (BitVec.ofNat 16 (f / 2 ^ 48) - g.seq).toNat) else 0

/-- A port after the acknowledgement fields of a flit f that passed its check: the acknowledged flits leave the replay buffer, and on a NAK
the others are sent again in their order (R25). -/
def Hears (s : State) (x y : Port) (f : Nat) : Prop :=
  let n := acks x f
  let z := if n = 0 then x else { x with replay := x.replay.drop n, since := s.timeBase, retrains := 0 }
  if f.testBit 31 = true ∧ f.testBit 30 = true ∧ z.replay ≠ [] then
    ∃ ys, Sent ys z.replay x.expect s.sourceModule
      ∧ y = { z with replay := z.replay.map (fun g => { g with resent := g.resent + 1 }), sent := x.sent ++ ys }
  else y = z

/-- An ACKSEQ names a flit that the port holds, or the next; and then nothing else waits for an acknowledgement. -/
def Acknowledges (s : State) (x : Port) (f : Nat) : Prop :=
  f.testBit 31 = true → x.replay.length ≤ 1024 ∧ acks x f ≤ x.replay.length ∧ NothingOwed s

end Sys2Proof.Claims

/-- R22, R23, R25, R95, R124, R134, R135, R159 to R162: a flit that fails its check, or whose SEQ is not the expected one, is discarded, and
the first one after an accepted flit is answered by a NAK with ACKSEQ the expected number; one whose SEQ is expected is accepted,
and what it carries for this module is done and answered; one of a reserved class is counted; the acknowledgement that every flit
carries with ACKV takes the flits before ACKSEQ out of the replay buffer, and a NAK has the rest sent again in their order. That the
reserved bits of a flit are not looked at is log 50 (DESIGN CHOICE); that a flit for another module is accepted and does nothing is log 32
(DEDUCED), and so is SRCMOD 0 before a number; the notify clause is log 31 (DEDUCED). -/
def Sys2Proof.Claims.FlitsAreTaken : Prop :=
  ∀ (s : State) (p : Nat) (flit : BitVec 2048),
    let f := flit.toNat
    let x := s.port p
    let cls := f / 2 ^ 27 % 8
    let inOrder := BitVec.ofNat 16 (f / 2 ^ 32) = x.expect
    let dropped := fun (y : Port) => ∃ t, exec (.flitReceive p flit) s = .next t
      ∧ if x.nakSent then OnPort s t p y
        else ∃ z, OnPort s t p { y with nakSent := true, sent := y.sent ++ [z] } ∧ Flies z 7 true x.expect s.sourceModule
    p < 16 → s.portUp p = true →
    (flitGood f = false → dropped x)
    ∧ (flitGood f = true → 4 ≤ cls → cls < 7 →
      ∃ t, exec (.flitReceive p flit) s = .next t ∧ OnPort s t p { x with discards := x.discards + 1 })
    ∧ (flitGood f = true → Acknowledges s x f → ∃ y, Hears s x y f
      ∧ (cls = 7 → ∃ t, exec (.flitReceive p flit) s = .next t ∧ OnPort s t p y)
      ∧ (cls < 4 → ¬inOrder → dropped y)
      ∧ (∀ d, cls < 4 → inOrder → s.domain = some d → f / 2 ^ 80 % 2 ^ 8 ≠ d →
        ∃ t, exec (.flitReceive p flit) s = .next t ∧ OnPort s t p { y with expect := x.expect + 1, nakSent := false })
      ∧ (∀ d c, cls < 4 → inOrder → s.domain = some d → f / 2 ^ 80 % 2 ^ 8 = d →
        let len := f / 2 ^ 64 % 256
        let tag := f % 2 ^ 24
        let body : BitVec 1920 := BitVec.ofNat 1920 (f / 2 ^ 96 % 2 ^ (8 * len))
        let owner := Config.cargoOwner cls len tag body
        Config.readCargo cls len tag body = some c →
        ∃ t, exec (.flitReceive p flit) s = .next t
          ∧ ((∀ a, c ≠ .answer a) ∨ (∀ q ∈ s.awaited, q.stage ≠ .sent [tag]) →
              (t.port p).expect = x.expect + 1 ∧ (t.port p).nakSent = false)
          ∧ CargoActs (accepted s p y) t (f / 2 ^ 72 % 256) owner.1 owner.2.1 owner.2.2 tag c))

/-- R22, R25, R27: a flit that only acknowledges carries ACKSEQ and no NAK; a trained port sends its buffer again, and one whose third
retraining fails has failed, with its flits discarded and its routes held; a held route past its failure moves to its standby port
with its waiting flits. A port retrains when a flit has been resent 8 times, when its flits have waited 100 µs for ACKSEQ to advance, or
when the retraining before has failed. That a route moves once, that the port takes its waiting flits then, and which counters a
retraining resets are log 33 (DESIGN CHOICE); what a failed port has lost is kept for log 68. -/
def Sys2Proof.Claims.PortsRecoverAndRoutesMove : Prop :=
  ∀ (s : State) (p : Nat),
    let x := s.port p
    p < 16 → s.portUp p = true →
    (∃ t y, exec (.ackOnlyFlit p) s = .next t ∧ OnPort s t p { x with sent := x.sent ++ [y] } ∧ Flies y 7 false x.expect s.sourceModule)
    ∧ (x.replay ≠ [] → (∃ g ∈ x.replay, 8 ≤ g.resent) ∨ 100000 ≤ (s.timeBase - x.since).toNat ∨ 0 < x.retrains →
      (∃ t ys, exec (.portRetrain p true) s = .next t ∧ Sent ys (x.replay.take 1024) x.expect s.sourceModule
        ∧ OnPort s t p { x with
            replay := (x.replay.take 1024).map (fun g => { g with resent := 0 }) ++ x.replay.drop 1024
            since := s.timeBase, retrains := 0, sent := x.sent ++ ys })
      ∧ (x.retrains < 2 → ∃ t, exec (.portRetrain p false) s = .next t ∧ OnPort s t p { x with retrains := x.retrains + 1 })
      ∧ (2 ≤ x.retrains →
        ∃ t, exec (.portRetrain p false) s = .next t
          ∧ t.port p = { x with
              failed := true, replay := []
              lost := x.lost ++ ((x.replay.take 1024 ++ (x.replay.drop 1024).filter
                (fun f => ((s.part f.part).job f.job).stopsTasks)).filter (fun f => f.cls ≠ 2)).map Flit.tag }
          ∧ (∀ n, n ≠ p → t.port n = s.port n)
          ∧ (∀ n, ∀ r ∈ (t.part n).config.routes, r.port = p → r.held = true)
          ∧ (∀ q, q ∈ t.awaited ↔ q ∈ s.awaited ∧ (q.asker ≠ .nobody ∨ ∃ k ∈ q.tags, ∀ y ∈ t.ports, k ∉ y.2.lost))
          ∧ { t with ports := s.ports, parts := s.parts, awaited := s.awaited } = s))
    ∧ (∀ part dst cls r, part < 16 → (s.part part).route dst cls = some r → r.standby = some p → r.held = true → r.owed = [] →
      ∃ t, exec (.routeSwitch part dst cls) s = .next t
        ∧ (t.part part).route dst cls = some { r with port := p, standby := none, held := false, waiting := [] }
        ∧ (t.port p).replay.map Flit.cargo = x.replay.map Flit.cargo ++ r.waiting.map Flit.cargo
        ∧ (∀ n, n ≠ p → t.port n = s.port n) ∧ (∀ n, n ≠ part → t.part n = s.part n)
        ∧ { t with ports := s.ports, parts := s.parts } = s)

/-- R22, R23, R25, R27, R124, R135, R159 to R162: a flit that fails its check or whose SEQ is not the expected one is discarded with one NAK;
one whose SEQ is expected is accepted, and what it carries for this module, a request or an answer, is done; acknowledgements empty the replay buffer, and a NAK or a
retraining has the rest sent again, each flit with its SEQ, ACKSEQ and CRC; a port whose third retraining fails holds its routes,
and a held route past its failure moves to its standby port with its waiting flits. That the reserved bits of a flit are ignored (log 50),
what a poison notify leads to (log 31), a flit for another module (log 32), the counters of retraining and the switch of a route (log 33) and
what a failed port keeps of what it lost (log 68) are the model's choices. -/
def Obligations.HorizonPortsAct : Prop := FlitsAreTaken ∧ PortsRecoverAndRoutesMove

namespace Sys2Proof.Claims

/-! ## Writes of system registers as steps of their own (R126, R240, R336 to R342) -/

/-- The two states differ in one partition at most, which is x after the step. -/
def OnPart (s t : State) (d : Nat) (x : Partition) : Prop :=
  t.part d = x ∧ (∀ n, n ≠ d → t.part n = s.part n) ∧ { t with parts := s.parts } = s

/-- Every copy command of a tile has a number; 0 names none. -/
def Numbered (t : Tile) : Prop := ∀ c ∈ t.copies, c.id ≠ 0

/-- Room for a completion in the queue of R157. -/
def Roomy (t : Tile) : Prop := t.phase = .running ∧ t.done.length < 16 ∧ t.doneWait = []

/-- A token that KARM would queue at once. -/
def settled (x : Token) : Bool := x == .present || x == .faulted

end Sys2Proof.Claims

/-- R336, R337: S-level code sets the registers of its partition, of its die and of its own selections, and RES of its handler's event
word; below S level, and for a number of the module firmware, the write takes PRIVILEGE with INFO the number, and a number not in the
table takes ILLEGAL_OPERATION with cause 1; at S level such an event stops the tile (R239). That EPC and SVEC lose their low two bits is
log 53 (DEDUCED). -/
def Sys2Proof.Claims.RegisterWriteEvents : Prop :=
  ∀ (s : State) (n : BitVec 12) (v : Word),
    let x := s.here
    let p := x.part
    let page := BitVec.ofNat 64 (v.toNat / 65536 * 65536)
    let d := s.cur / 64
    x.canIssue = true →
    (x.isS = true →
      (∃ t, exec (.sysregWrite 0x100 v) s = .next t ∧ OnPart s t p { s.part p with svec := BitVec.ofNat 64 (v.toNat / 4 * 4) })
      ∧ (∃ t, exec (.sysregWrite 0x102 v) s = .next t ∧ OnPart s t p { s.part p with root := page })
      ∧ (∃ t, exec (.sysregWrite 0x106 v) s = .next t ∧ OnDie s t d { s.die d with swapBase := page })
      ∧ (∃ t, exec (.sysregWrite 0x107 v) s = .next t ∧ OnDie s t d { s.die d with swapPages := v })
      ∧ (∃ t, exec (.sysregWrite 0x10A v) s = .next t
          ∧ OnTile s t s.cur { x with ctxsel := BitVec.ofNat 64 (v.toNat % 65536 / 8 * 8) })
      ∧ (x.level = .monitor →
          (∃ t, exec (.sysregWrite 0x00A v) s = .next t
            ∧ OnTile s t s.cur { x with monitor := { x.monitor with epc := BitVec.ofNat 64 (v.toNat / 4 * 4) } })
          ∧ ∃ t y, exec (.sysregWrite 0x008 v) s = .next t ∧ OnTile s t s.cur y ∧ SetsRes x y v)
      ∧ (s.snapshot.mask = 0 → inTable n.toNat = false →
          ∃ t, exec (.sysregWrite n v) s = .next t ∧ Halts s t (badNumber n.toNat 0x1E4 0xFF))
      ∧ ∃ t, exec (.xwinWrite v) s = .next t
          ∧ OnPart s t p (if (s.part p).sealed_ = true ∧ v.toNat ≤ (s.part p).xwin.toNat then { s.part p with xwin := v } else s.part p))
    ∧ (BelowS s → Numbered x → n.toNat ∈ [0x003, 0x008, 0x00A] ∨ (0x100 ≤ n.toNat ∧ n.toNat ≤ 0x10E) ∨ 0x200 ≤ n.toNat →
      ∃ t, exec (.sysregWrite n v) s = .next t ∧ OnlyHere s t
        ∧ Entered x t.here { code := .privilege, info := BitVec.ofNat 64 n.toNat } x.start.pc (s.part p).svec)
    ∧ (BelowS s → Numbered x → inTable n.toNat = false → n.toNat < 0x200 →
      ∃ t, exec (.sysregWrite n v) s = .next t ∧ OnlyHere s t
        ∧ Entered x t.here { code := .illegalOperation, cause := 1, info := 0x1E4 } x.start.pc (s.part p).svec)

/-- R126, R338, R339: a TLBI write by S-level code joins the partition's invalidations in the order written, and one that completes with
no chunk of the partition in flight, and nothing of it left for other modules to answer, leaves no cache with an entry it covers; JOBCTL selects its job, and asks the dispatcher for the
rollback of cause 3 or the failure of a job that has a record. -/
def Sys2Proof.Claims.InvalidationsAndJobRequests : Prop :=
  ∀ (s : State) (v : Word) (part job : Nat),
    let x := s.here
    let p := x.part
    let asks := fun (t : State) (c : JobCause) =>
      t.here = { x with jobsel := BitVec.ofNat 64 job } ∧ (∀ n, n ≠ s.cur → t.tile n = s.tile n)
        ∧ t.causes = s.causes ++ (if (s.part p).hasJob job then [{ part := p, job := job, addr := 0, what := c }] else [])
        ∧ { t with tiles := s.tiles, causes := s.causes } = s
    (x.canIssue = true → x.isS = true → v.toNat % 65536 = 1 → v.toNat < 2 ^ 55 →
      ∃ t, exec (.tlbiPage v) s = .next t ∧ OnPart s t p { s.part p with tlbi := (s.part p).tlbi ++ [v] })
    ∧ (x.canIssue = true → x.isS = true → v = 2 →
      ∃ t, exec (.tlbiPartition v) s = .next t ∧ OnPart s t p { s.part p with tlbi := (s.part p).tlbi ++ [v] })
    ∧ (∀ vs, part < 16 → (s.part part).tlbi = v :: vs → (∀ y ∈ s.tiles, y.2.part = part → y.2.copies = [] ∧ y.2.tags = []) →
      (∀ q ∈ s.awaited, q.part = part → q.tags = []) →
      ∃ t, exec (.tlbiComplete part) s = .next t ∧ (t.part part).tlbi = vs
        ∧ (∀ d, ∀ e ∈ (t.die d).cache, e ∈ (s.die d).cache ∧ (e.part = part → covers v e.level e.page = false))
        ∧ (∀ n, ∀ e ∈ (t.tile n).copyCache, e ∈ (s.tile n).copyCache ∧ (e.part = part → covers v e.level e.page = false))
        ∧ (∀ n, n ≠ part → t.part n = s.part n)
        ∧ { t with tiles := s.tiles, dies := s.dies, parts := s.parts } = s)
    ∧ (x.canIssue = true → x.isS = true → job < 4096 →
      (∃ t, exec (.jobctlSelect (BitVec.ofNat 64 job)) s = .next t ∧ OnTile s t s.cur { x with jobsel := BitVec.ofNat 64 job })
      ∧ (∃ t, exec (.jobctlRollback (BitVec.ofNat 64 (job + 4096))) s = .next t ∧ asks t (.rollback .monitor))
      ∧ (∃ t, exec (.jobctlFail (BitVec.ofNat 64 (job + 8192))) s = .next t ∧ asks t .failed))

/-- R126, R336, R337, R338, R339: S-level code sets the registers of its partition, of its die and of its own selections; below S
level, and for a number of the module firmware, the write takes PRIVILEGE with INFO the number, and a number not in the table
takes ILLEGAL_OPERATION with cause 1. A TLBI write by S-level code joins the partition's invalidations in the order written,
and one that completes with no chunk of the partition in flight, and nothing of it left for other modules to answer, leaves no
cache with an entry it covers; JOBCTL selects its
job, and asks the dispatcher for the rollback of cause 3 or the failure of a job that has a record. That EPC and SVEC lose their low
two bits is the model's reading (log 53). -/
def Obligations.SystemRegisterEffects : Prop := RegisterWriteEvents ∧ InvalidationsAndJobRequests

/-- R240: KARM takes the written mask where no token that it arms is PRESENT or FAULTED, and such a token queues its completion
at once and its bit clears; SEMARM takes the written word, and one whose condition holds queues its completion and VALID clears. -/
def Sys2Proof.Claims.ArmingWrites : Prop :=
  ∀ (s : State) (v : Word) (k : Nat),
    let x := s.here
    let j := v.toNat / 2 ^ 32 % 64
    let met := (x.sema j - BitVec.setWidth 32 v).toNat < 2 ^ 31
    x.canIssue = true →
    ((∀ i, i < 64 → v.getLsbD i = true → settled (x.token i) = false) →
      ∃ t, exec (.karmWrite v) s = .next t ∧ OnTile s t s.cur { x with karm := v })
    ∧ (k < 64 → Roomy x → settled (x.token k) = true →
      ∃ t, exec (.karmWrite (BitVec.twoPow 64 k)) s = .next t
        ∧ OnTile s t s.cur { x with
            karm := 0
            done := x.done ++ [{ cause := 1, info := BitVec.ofNat 64 (256 * k + (if x.token k = .faulted then 65536 else 0)) }] })
    ∧ (v.getLsbD 38 = false ∨ ¬met →
      ∃ t, exec (.semarmWrite v) s = .next t ∧ OnTile s t s.cur { x with semarm := BitVec.ofNat 64 (v.toNat % 2 ^ 39) })
    ∧ (v.getLsbD 38 = true → met → Roomy x →
      ∃ t, exec (.semarmWrite v) s = .next t
        ∧ OnTile s t s.cur { x with
            semarm := BitVec.ofNat 64 (v.toNat % 2 ^ 38)
            done := x.done ++ [{ cause := 2, info := BitVec.ofNat 64 (j * 2 ^ 32 + (x.sema j).toNat) }] })

/-- R341, R342: a CTXDAT write of S-level code sets the selected 8 bytes of a vector register or a window register of the context and
nothing elsewhere, and is ignored from offset 0xEF88 up; a RANKDAT write sets the selected entry of a job's rank table while no task
of the job runs and no other entry holds the value, and is ignored for a job without a table. -/
def Sys2Proof.Claims.ContextAndRankWrites : Prop :=
  ∀ (s : State) (v : Word),
    let x := s.here
    let p := s.part x.part
    let o := x.ctxsel.toNat
    let job := x.ranksel.toNat % 4096
    let rank := x.ranksel.toNat / 65536 % 256
    x.canIssue = true → x.isS = true →
    (∀ c r w, c < 8 → r < 32 → w < 8 → o = 0x800 * c + 64 * r + 8 * w →
      ∃ t y, exec (.ctxdatWrite v) s = .next t ∧ OnTile s t s.cur y
        ∧ (∀ i, i < 8 → BitVec.extractLsb' (64 * i) 64 (mget 0 (y.cluster c).v r)
            = if i = w then v else BitVec.extractLsb' (64 * i) 64 (mget 0 (x.cluster c).v r))
        ∧ (∀ q, q ≠ r → mget 0 (y.cluster c).v q = mget 0 (x.cluster c).v q)
        ∧ { y.cluster c with v := [] } = { x.cluster c with v := [] } ∧ (∀ b, b ≠ c → y.cluster b = x.cluster b)
        ∧ { y with clusters := x.clusters } = x)
    ∧ (∀ j, j < 160 → o = 0xEA00 + 8 * j →
      ∃ t y, exec (.ctxdatWrite v) s = .next t ∧ OnTile s t s.cur y
        ∧ (∀ i, mget 0 y.sWindow i = if i = j then v else mget 0 x.sWindow i) ∧ { y with sWindow := x.sWindow } = x)
    ∧ (0xEF88 ≤ o → ∃ t, exec (.ctxdatWrite v) s = .next t ∧ OnTile s t s.cur x)
    ∧ (∀ r, p.rankTable job = some r → rank < r.length → (∀ y ∈ s.tiles, y.2.hasJob x.part job = false) →
      (∀ i, i < r.length → i ≠ rank → nth 0 r i ≠ v.toNat % 256) →
      ∃ t q, exec (.rankdatWrite v) s = .next t ∧ OnPart s t x.part q
        ∧ (∃ r', q.rankTable job = some r' ∧ r'.length = r.length ∧ ∀ i, i < r.length → nth 0 r' i = if i = rank then v.toNat % 256 else nth 0 r i)
        ∧ (∀ j, j ≠ job → q.rankTable j = p.rankTable j) ∧ { q with config := { q.config with ranks := p.config.ranks } } = p)
    ∧ (p.rankTable job = none → exec (.rankdatWrite v) s = .next s)

/-- R240, R341, R342: KARM takes the written mask where no token that it arms is PRESENT or FAULTED, and such a token queues its
completion at once and its bit clears; SEMARM takes the written word, and one whose condition holds queues its completion and
VALID clears. A CTXDAT write of S-level code sets the selected 8 bytes of a vector register or a window register of the
context and nothing elsewhere, and is ignored from offset 0xEF88 up; a RANKDAT write sets the selected entry of a job's rank
table while no task of the job runs and no other entry holds the value, and is ignored for a job without a table. -/
def Obligations.ContextRegisterEffects : Prop := ArmingWrites ∧ ContextAndRankWrites

namespace Sys2Proof.Claims

/-! ## What a tile's cycle holds by its own name (R112, R128, R134, R164, R190 to R192, R202, R240 to R244) -/

/-- The two states differ in one tile at most, and in which tile is the current one. -/
def AtTile (s t : State) (n : Nat) : Prop :=
  (∀ m, m ≠ n → t.tile m = s.tile m) ∧ { t with tiles := s.tiles, cur := s.cur } = s

/-- The bundle at the pc of a tile is the filler. -/
def AtFiller (s : State) (n : Nat) : Prop := fetchCode { s with cur := n } = .ready [] 1

/-- A tile with no records, and with none of its accesses on its way, at a filler. -/
def Between (s : State) (n : Nat) : Prop :=
  (s.tile n).phase = .running ∧ (s.tile n).flying = [] ∧ (s.tile n).quires = [] ∧ (s.tile n).kiln = [] ∧ (s.tile n).sends = []
    ∧ AtFiller s n

/-- A tile below S level that takes the next asynchronous event of its S handler: its task has ended, or it stands between bundles. -/
def HearsAlarms (s : State) (n : Nat) : Prop :=
  (s.tile n).level ≠ .monitor ∧ s.snapshot.mask = 0
    ∧ (((s.tile n).phase = .ended ∧ (s.tile n).level = .task) ∨ Between s n)

/-- The copies of a tile once the event of one of them has been taken (R128). -/
def reportedCopies (x : Tile) (id : Nat) : List CopyCmd :=
  x.copies.map (fun c => if c.id = id ∧ c.phase = .suspended then { c with phase := .reported } else c)

/-- The tile b has taken, from the tile a, a completion at U level (R229, R240). -/
def EnteredUser (a b : Tile) (c : Completion) (vector : Word) : Prop :=
  let w := BitVec.ofNat 64 (0x10 + 2 ^ 8 * c.cause.toNat + 2 ^ 24 * 0xFF)
  b.level = .user ∧ b.pc = vector ∧ b.fcyc = a.fcyc + 4 ∧ b.lastEvent = w ∧ b.held = none ∧ b.holds = 0
    ∧ b.user.active = true ∧ b.user.epc = a.pc ∧ b.user.word = w ∧ b.user.info = c.info ∧ b.user.units = {}
    ∧ b.readS 30 = w ∧ b.readS 31 = c.info
    ∧ { b with level := a.level, pc := a.pc, fcyc := a.fcyc, lastEvent := a.lastEvent, held := a.held, holds := a.holds,
               user := a.user } = a

end Sys2Proof.Claims

/-- R128, R134, R137, R227 to R231, R239, R242: an asynchronous COPY_FAULT or POISON_CONSUMED enters the S handler of its tile with EPC at
the bundle boundary, of an ended task and of a monitor instance in which no handler runs as well; the fault is entered with code 0x8023
and its copy is reported, and the poison rolls back the job of a task that has one. That a monitor instance in which no handler runs takes
an asynchronous event as a task does is the model's reading (log 46, DEDUCED): R239 speaks of a synchronous one only. -/
def Sys2Proof.Claims.AlarmsEnterTheHandler : Prop :=
  ∀ (s : State) (n : Nat) (k : Task) (e : Event) (es : List Event),
    let x := s.tile n
    let svec := (s.part x.part).svec
    n < 1024 → HearsAlarms s n → x.alarms = e :: es → x.task = some k →
    (e.code = .copyFault →
      ∃ t, exec (.copyFault n) s = .next t ∧ (∀ m, m ≠ n → t.tile m = s.tile m)
        ∧ (t.tile n).copies = reportedCopies x e.cmd
        ∧ Entered { x with alarms := es, copies := reportedCopies x e.cmd } (t.tile n) e x.pc svec
        ∧ (if e.cause = 0 then { t with tiles := s.tiles, cur := s.cur } = s
            else Logs s t 0x8023 (e.cause.toNat + 2 ^ 32 * (k.index % 2 ^ 24)) e.info.toNat (fun s => { s with tiles := t.tiles, cur := n })))
    ∧ (e.code = .poisonConsumed → Numbered x →
      ∃ t, exec (.poisonConsumed n) s = .next t ∧ (∀ m, m ≠ n → t.tile m = s.tile m)
        ∧ Entered { x with alarms := es, copies := (t.tile n).copies } (t.tile n) e x.pc svec
        ∧ t.causes = s.causes ++ (if k.work = .monitor then [] else [{ part := k.part, job := k.job, addr := 0, what := .rollback .taskFault }])
        ∧ { t with tiles := s.tiles, cur := s.cur, causes := s.causes } = s)

/-- R157, R164, R240: a queued completion of a task enters its U handler, or its S handler when its object declares none, and the queue
takes up one that waited for room; a held wait whose timeout has expired takes WAIT_TIMEOUT with its hold row in INFO. -/
def Sys2Proof.Claims.CompletionsAndTimeoutsEnter : Prop :=
  ∀ (s : State) (n : Nat) (k : Task),
    let x := s.tile n
    let svec := (s.part x.part).svec
    n < 1024 → x.level = .task → x.isMonitorTask = false → s.snapshot.mask = 0 → Numbered x → x.alarms = [] → x.task = some k →
    (∀ c cs, Between s n → x.done = c :: cs →
      let room := { x with done := cs ++ x.doneWait.take 1, doneWait := x.doneWait.drop 1 }
      ∃ t, exec (.userCompletion n) s = .next t ∧ AtTile s t n
        ∧ (∀ h, k.handler = some h → EnteredUser room (t.tile n) c (BitVec.ofNat 64 (k.codeBase + h)))
        ∧ (k.handler = none → Entered room (t.tile n) { code := .userCompletion, cause := c.cause, info := c.info } x.pc svec))
    ∧ (∀ m : Move,
      let a := x.source m.src
      let c := x.port 0x112
      x.calm → x.clock ≠ 2 → x.mayMove m (Instr.ctlWait m).code →
      fetchCode { s with cur := n } = .ready [{ move := m, code := (Instr.ctlWait m).code, op := some opCtlWait }] (wordCount m) →
      waitReserved a = false → x.waitMet a (x.port 0x111) = false → x.waitFault a (x.port 0x111) = none →
      c ≠ 0 → c.toNat * 1000 ≤ (s.timeBase - x.held.getD s.timeBase).toNat →
      ∃ t, exec (.waitTimeout n) s = .next t ∧ AtTile s t n
        ∧ Entered x (t.tile n) { code := .waitTimeout, info := 6, bus := BitVec.ofNat 8 m.bus.id } x.pc svec)

/-- R128, R134, R137, R157, R164, R227, R228, R229, R230, R231, R239, R240, R242: an asynchronous COPY_FAULT or POISON_CONSUMED
enters the S handler of its tile with EPC at the bundle boundary, of an ended task as well; the fault is entered with code
0x8023 and its copy is reported, and the poison rolls back the job of the task. A queued completion of a task enters its U
handler, or its S handler when its object declares none, and the queue takes up one that waited for room; a held wait whose
timeout has expired takes WAIT_TIMEOUT with its hold row in INFO. That a monitor instance takes an asynchronous event as a task does is
the model's reading (log 46). -/
def Obligations.EventsEnterTheHandler : Prop := AlarmsEnterTheHandler ∧ CompletionsAndTimeoutsEnter

/-- R243, R244, R249: a tile whose pre-emption is asked for stops at a bundle boundary and leaves, latched for a snapshot armed for it;
once nothing of it is on its way, at once or later, its task is in a free slot of its die's shadow store, as captured, and the tile is
idle. -/
def Obligations.PreemptionEmptiesTheTile : Prop :=
  ∀ (s : State) (n : Nat) (k : Task),
    let x := s.tile n
    let leaving := { x with phase := .leaving, lastEvent := BitVec.ofNat 64 (0x11 + 2 ^ 24 * 0xFF), held := none, holds := 0 }
    let swapped := fun (t : State) (y : Swapped) (z : Tile) => (t.tile n).phase = .idle ∧ (t.tile n).task = none
      ∧ (t.die (n / 64)).shadow = (s.die (n / 64)).shadow ++ [y]
      ∧ y.tile = z.captured ∧ y.part = k.part ∧ y.launch = k.launch ∧ y.index = k.index ∧ y.rejoined = s.timeBase
      ∧ y.slot < 64 ∧ ∀ w ∈ (s.die (n / 64)).shadow, w.slot ≠ y.slot
    n < 1024 → x.task = some k → k.work = .dispatched →
    (Between s n → x.level = .task → x.alarms = [] → x.done = [] → x.matrix = { preempt := true } →
      x.quiet = true → s.fitsSwap n k = true → ∃ t y, exec (.preemption n) s = .next t ∧ swapped t y leaving)
    ∧ (Between s n → x.level = .task → x.alarms = [] → x.done = [] → x.matrix = { preempt := true } → x.quiet = false →
      ∃ t, exec (.preemption n) s = .next t ∧ AtTile { s with snapshot := t.snapshot } t n
        ∧ t.snapshot = (if s.snapshot.mask.getLsbD 17 then
            { s.snapshot with mask := 0, due := some (s.timeBase + 1000), early := some (n, x) } else s.snapshot)
        ∧ t.tile n = leaving)
    ∧ (x.phase = .leaving → x.quiet = true → s.fitsSwap n k = true → ∃ t y, exec (.preemption n) s = .next t ∧ swapped t y x)

/-- R112, R115, R190 to R193, R202, R324: a tile at a filler issues it, and the banks of commands that completed in the cycle before leave
the reservation table; the result that is due in the cycle is in its latch after it, and the store that is due is in the tile store; a code fill whose bytes
are at hand (log 10) leaves its line resident, and one of a bundle that fails leaves the event that the bundle takes. -/
def Obligations.CyclesIssueAndDeliver : Prop :=
  ∀ (s : State) (n : Nat),
    let x := s.tile n
    n < 1024 →
    (x.calm → AtFiller s n →
      ∃ t, exec (.bundleIssue n) s = .next t ∧ AtTile s t n ∧ x.advanced (t.tile n) 1 ∧ (t.tile n).flying = []
        ∧ (t.tile n).bare = x.bare)
    ∧ (∀ ids, ({ x with matrix := {}, reserved := [] } : Tile).calm → x.matrix = { leaving := ids } → x.level = .task → AtFiller s n →
      ∃ t, exec (.bundleIssue n) s = .next t ∧ AtTile s t n ∧ x.advanced (t.tile n) 1 ∧ (t.tile n).flying = []
        ∧ (t.tile n).reserved = x.reserved.filter (fun r => !ids.contains r.1)
        ∧ { (t.tile n).bare with reserved := [], matrix := {} } = { x.bare with reserved := [], matrix := {} }
        ∧ (t.tile n).matrix = {})
    ∧ (∀ f port v, CarriesOne x f → AtFiller s n → f.body = .result port v → f.perf = none → f.remain = 0 →
      ∃ t, exec (.resultArrival n) s = .next t ∧ AtTile s t n ∧ x.advanced (t.tile n) 1 ∧ (t.tile n).flying = []
        ∧ (t.tile n).bare = (x.setResult x.level port v).bare)
    ∧ (∀ f o k v, CarriesOne x f → AtFiller s n → f.body = .store o k v → f.perf = some 0 →
      ∃ t, exec (.tileStorePerform n) s = .next t ∧ AtTile s t n ∧ x.advanced (t.tile n) 1 ∧ (t.tile n).flying = []
        ∧ (∀ j, j < k → readByte (t.tile n).store (o + j) = BitVec.ofNat 8 (v.toNat / 256 ^ j))
        ∧ (∀ j, j < o ∨ o + k ≤ j → readByte (t.tile n).store j = readByte x.store j)
        ∧ restOf (t.tile n) = restOf x)
    ∧ (∀ line prefetch r u,
      let s1 := (tried s (.fill n line)).mapTile n (fun t => { t with fills := t.fills.filter (fun f => f.1 != line) })
      x.fills.find? (fun f => f.1 == line) = some (line, prefetch) → s1.readCodeLine (x.who n) line = (r, u) → u.want = none →
      ∃ t, exec (.codeFillComplete n line) s = .next t ∧ (t.tile n).fills = x.fills.filter (fun f => f.1 != line)
        ∧ (∀ ws, r = .ok ws →
            (t.tile n).codeLine x.part line = some { line := line, part := x.part, pinned := false, data := ws.1, level := ws.2 })
        ∧ (∀ a c, r = .error (.fault a c) → prefetch = false → (t.tile n).fillFault = some (line, copyFaultEvent c a))
        ∧ (∀ a c, r = .error (.fault a c) → prefetch = true → (t.tile n).fillFault = x.fillFault ∧ (t.tile n).code = x.code))

namespace Sys2Proof.Claims

/-! ## What engines and accesses do on their own (R118, R119, R138, R155 to R162, R165, R372, R373, R382, R391, R393) -/

/-- The one token that a command produced changes to PRESENT, and every other stays. -/
def Produces (a b : Tile) (ctl : Word) : Prop := ∀ k, b.token k = if k = produced ctl then .present else a.token k

/-- A record of one dimension of n bytes between offsets of the own tile store, within one chunk, whose bank set covers both
(R115, R142, R143). -/
def PlainBytes (r : Shape) (n a b : Nat) : Prop :=
  r.mode = 0 ∧ r.glaze = 0 ∧ r.esz = 0 ∧ r.dkind = 0 ∧ r.ndim = 1 ∧ r.extent 0 = n ∧ 0 < n ∧ n ≤ 512
    ∧ ∀ i, i < n → r.banks.getLsbD ((a + i) / 64 % 32) = true ∧ r.banks.getLsbD ((b + i) / 64 % 32) = true

/-- What is kept of the newest command of a channel as a chunk of it lands: its map gains the chunk, in the tile cycle `now`, and with
the last one it has ended (R155, R156, R387). -/
def marked (w : Newest) (id chunk : Nat) (now : Word) (last : Bool) : Newest :=
  let bits := BitVec.twoPow 256 chunk
  if w.id = id then
    { w with map := w.map ||| bits, recent := if w.stamp = now then w.recent ||| bits else bits, stamp := now, ended := w.ended || last }
  else w

/-- A step of a chunk that reads every granule of its source which is still to be read and writes every part of it (R110). Reading and
landing in one step is one of the courses that the rules leave open, the others being steps for some of the granules (log 14). -/
def wholly (chunk : Nat) : ChunkStep := { chunk := chunk, parts := 2 ^ 2048 - 1 }

/-! ## The elements of a copy (R142 to R147) -/

/-- X[d], and the strides of source and destination. -/
def extentOf (r d : Nat) : Nat := if d ≤ bits r 1 0 then bits r (79 + 16 * d) (64 + 16 * d) else 1
def fromStride (r d : Nat) : Int := signedOf 32 (bits r (191 + 32 * d) (160 + 32 * d))
def toStride (r d : Nat) : Int := signedOf 32 (bits r (319 + 32 * d) (288 + 32 * d))

/-- ssz and dsz without the glaze options. -/
def fromSize (r : Nat) : Nat :=
  if bits r 13 12 = 0 then (if bits r 10 8 = 4 then 128 else 2 ^ bits r 10 8) else fmtWidth (bits r 27 24) / 8
def toSize (r : Nat) : Nat :=
  if bits r 13 12 = 0 then (if bits r 10 8 = 4 then 128 else 2 ^ bits r 10 8)
  else if bits r 18 16 = 4 then 128 else fmtWidth (bits r 31 28) / 8

/-- How many elements a record visits, and its destination size D. -/
def elementCount (r : Nat) : Nat := extentOf r 0 * extentOf r 1 * extentOf r 2 * extentOf r 3
def sizeOf_ (r : Nat) : Nat := if bits r 13 12 = 1 then elementCount r / 64 * (8 * bits r 39 34) else elementCount r * toSize r

/-- Element n by its indices: what e0 contributes, and the strides of the others. -/
def displace (r n : Nat) (lead : Nat → Nat) (stride : Nat → Nat → Int) : Int :=
  let m := n / extentOf r 0
  (lead (n % extentOf r 0) : Int) + ((m % extentOf r 1 : Nat) : Int) * stride r 1
    + ((m / extentOf r 1 % extentOf r 2 : Nat) : Int) * stride r 2 + ((m / (extentOf r 1 * extentOf r 2) : Nat) : Int) * stride r 3

/-- The displacement of element n from the source address, and of the byte at position p from the destination address. -/
def fromAt (r n : Nat) : Int := displace r n (fun e => e * fromSize r) fromStride
def toAt (r p : Nat) : Int :=
  if bits r 13 12 = 1 then
    let g := 8 * bits r 39 34
    displace r (64 * (p / g)) (fun e => e / 64 * g) toStride + ((p % g : Nat) : Int)
  else displace r (p / toSize r) (fun e => e * toSize r) toStride + ((p % toSize r : Nat) : Int)

/-- Bit j of the plane form of an element of w bits (R144). -/
def planeOf (w x j : Nat) : Bool :=
  if j = 0 then x.testBit (w - 1) else (if x < 2 ^ (w - 1) then x else 2 ^ w - x).testBit (w - 1 - j) && x ≠ 2 ^ (w - 1)

/-- The byte at position p of the destination of a copy from offset a of a tile store: the element's own byte, its plane word's, or
that of the element rounded into DFMT (R143 to R145). -/
def movedByte (t : Tile) (r : Nat) (a p : Nat) : Byte :=
  let source := fun n : Nat => storeNumber t ((a : Int) + fromAt r n).toNat (fromSize r)
  if bits r 13 12 = 1 then
    let g := 8 * bits r 39 34
    BitVec.ofFnLE (fun k : Fin 8 => planeOf (8 * fromSize r) (source (64 * (p / g) + 8 * (p % 8) + k.val)) (p % g / 8))
  else
    let x := source (p / toSize r)
    let y := if bits r 13 12 = 0 ∨ bits r 27 24 = bits r 31 28 then x else roundPosit (decodePosit x (bits r 27 24)) (bits r 31 28)
    BitVec.ofNat 8 (y / 256 ^ (p % toSize r))

/-- The positions that lie in chunk i. -/
def InChunk (r i p : Nat) : Prop := 512 * i ≤ p ∧ p < 512 * i + 512 ∧ p < sizeOf_ r

/-! ## A copy of a tile under way (R128, R134, R138, R151 to R156) -/

/-- The tile's one command is running, of a record that cp.defs accepts, with nothing under way and no event of its own, on a tile with
no local access pending; its cycles do not count copies. -/
def Moving (x : Tile) (c : CopyCmd) : Prop :=
  x.copies = [c] ∧ x.level = .task ∧ (x.phase = .running ∨ x.phase = .ended) ∧ (x.fixed = true → x.phase = .ended)
    ∧ x.units.flights = [] ∧ x.quires = [] ∧ x.matrix = {} ∧ x.karm.getLsbD (produced c.ctl) = false ∧ x.semarm.getLsbD 38 = false
    ∧ Shape.valid c.shape.toNat = true ∧ bits c.shape.toNat 21 20 = 0 ∧ c.phase = .running ∧ c.lost = 0 ∧ c.moves = [] ∧ c.kept = []
    ∧ c.ctl.getLsbD 39 = false

/-- The chunk of a command that has been started and has not landed. -/
def Open (c : CopyCmd) (i : Nat) : Prop := i < c.started ∧ c.map.getLsbD i = false ∧ 512 * i < sizeOf_ c.shape.toNat

/-- What the engine and the tokens hold once chunk i of the one copy of the tile x has landed: its bit is set, and with the last chunk
the command leaves, its banks as the next cycle begins, and its token is PRESENT. What it keeps of source granules that its writes have
touched is log 15. -/
def Lands (x y : Tile) (c : CopyCmd) (i : Nat) : Prop :=
  let now := x.icyc + x.hcyc + x.fcyc
  let last := (List.range 256).all (fun j => decide (sizeOf_ c.shape.toNat ≤ 512 * j) || decide (j = i) || c.map.getLsbD j)
  (∀ ch, mget noCommand y.newest ch = if ch = c.ch then marked (mget noCommand x.newest ch) c.id i now last else mget noCommand x.newest ch)
    ∧ (if last = true then y.copies = [] ∧ Produces x y c.ctl ∧ y.matrix = { leaving := [c.id] }
        else (∃ kept, y.copies = [{ c with map := c.map ||| BitVec.twoPow 256 i, kept := kept }]) ∧ y.tokens = x.tokens ∧ y.matrix = x.matrix)

/-- A tile without what a landing chunk touches of its engine, and without its store. -/
def besides (t : Tile) : Tile :=
  { t with copies := [], newest := [], tokens := [], matrix := {}, store := [], badWords := [], semas := [], copyCache := [] }

/-- Semaphore counts after n more bytes under a control word (R104, R159). -/
def Counts (x y : Tile) (ctl : Word) (n : Nat) : Prop :=
  ∀ j, y.sema j = if ctl.getLsbD 38 = true ∧ j = ctl.toNat / 2 ^ 32 % 64 then x.sema j + BitVec.ofNat 32 n else x.sema j

/-- A command of one dimension of n bytes, in one chunk, to a destination of a kind (R142, R143). -/
def Bytes (c : CopyCmd) (kind n : Nat) : Prop :=
  let r := c.shape.toNat
  bits r 13 12 = 0 ∧ bits r 10 8 = 0 ∧ bits r 18 16 = kind ∧ bits r 1 0 = 0 ∧ bits r 79 64 = n ∧ 0 < n ∧ n ≤ 512

/-- A range of the own tile store that a copy may read: in the store, in its banks, and clean. -/
def Readable (x : Tile) (c : CopyCmd) (a n : Nat) : Prop :=
  c.src = BitVec.ofNat 64 (2 ^ 63 + a) ∧ a + n ≤ 2 ^ 21
    ∧ (∀ i, i < n → c.shape.getLsbD (128 + (a + i) / 64 % 32) = true) ∧ x.poisonedAt a n = false

/-- The command completes faulted, with one more event on its tile: its token is FAULTED, its map stays, and its banks leave as the
next cycle begins. -/
def Faults (x y : Tile) (c : CopyCmd) (ev : Event) : Prop :=
  y.copies = [] ∧ (∀ k, y.token k = if k = produced c.ctl then .faulted else x.token k) ∧ y.alarms = x.alarms ++ [ev]
    ∧ y.matrix = { leaving := [c.id] }
    ∧ (∀ ch, mget noCommand y.newest ch
        = if ch = c.ch ∧ (mget noCommand x.newest ch).id = c.id then { mget noCommand x.newest ch with ended := true }
          else mget noCommand x.newest ch)
    ∧ { y with copies := [], newest := [], tokens := [], matrix := {}, alarms := [] }
        = { x with copies := [], newest := [], tokens := [], matrix := {}, alarms := [] }

/-- The walk of an address leads to an entry, whatever the bytes of one line hold: no table lies in it. -/
def WalksPast (s : State) (p line va : Nat) (k : Walked) : Prop :=
  ∀ m : Memory, (∀ a, a / 64 ≠ line → readByte m a = readByte s.memory a) →
    walk { s with memory := m } (s.part p) va 3 1 (s.part p).root.toNat = .ok k

/-- A page of the partition of a copy's task, as a line of it is found: no cache holds an entry of it, the walk leads to a leaf with the
right, and the line holds no table, and is local, plain, of the grade of its page and free of poison. -/
def Finds (s : State) (n : Nat) (c : CopyCmd) (right : Right) (va : Nat) (k : Walked) (l : Leaf) : Prop :=
  let w := { (s.tile n).who n with user := c.user }
  (s.die (n / 64)).cache = [] ∧ (s.tile n).copyCache = [] ∧ WalksPast s w.part (l.phys / 64) va k
    ∧ checkLeaf s w right va k = .ok l ∧ l.key = 0 ∧ l.foreign = false ∧ mget 0 s.grades (l.phys / 64) = l.grade
    ∧ l.phys / 64 ∉ s.badLines

/-! ## What a matrix command computes (R261 to R265, R273, R376 to R382) -/

/-- S of a command's pair, whether the pair is narrow, and the side of its block and the width of an accumulator. -/
def weightOf (c : MatrixCmd) : Nat := topExp (bits c.fmt.toNat 3 0) + topExp (bits c.fmt.toNat 7 4)
def sideOf (c : MatrixCmd) : Nat := if weightOf c ≤ 115 then 64 else 32
def accBits (c : MatrixCmd) : Nat := if weightOf c ≤ 115 then 256 else 1024

/-- Output (i, j) of the bank of a command as its slice or gang of slices holds it (R263), and the value that it reads as. -/
def accumulatorAt (t : Tile) (c : MatrixCmd) (i j : Nat) : Nat :=
  let slice := fun k => (mget 0 t.acc (4096 * bits c.geo.toNat 16 16 + k)).toNat
  if weightOf c ≤ 115 then slice (64 * i + j)
  else ((List.range 4).map (fun g => slice (4 * (32 * i + j) + g) * 2 ^ (256 * g))).sum
def sumAt (t : Tile) (c : MatrixCmd) (i j : Nat) : Option ℚ :=
  let b := accumulatorAt t c i j
  if b = 2 ^ (accBits c - 1) then none else some ((signedOf (accBits c) b : ℚ) / 2 ^ weightOf c)

/-- Plane j of element n of an operand buffer, and the element as a reader of k of its p planes obtains it (R265, R379). -/
def planeAt (t : Tile) (buffer off p n j : Nat) : Bool :=
  (readByte t.buffers (65536 * buffer + off + n / 64 * p * 8 + 8 * j + n % 64 / 8)).getLsbD (n % 8)
def planeRead (t : Tile) (buffer off p k es n : Nat) : Option ℚ :=
  let sg := planeAt t buffer off p n 0
  let mg := ((List.range (k - 1)).map (fun j => if planeAt t buffer off p n (j + 1) then 2 ^ (k - 2 - j) else 0)).sum
  if mg = 0 then (if sg then none else some 0) else (rat (decodeBits k es mg)).map (fun v => if sg then -v else v)

/-- Element (i, k) of A and element (k, j) of B. -/
def leftAt (t : Tile) (c : MatrixCmd) (i k : Nat) : Option ℚ :=
  planeRead t (bits c.geo.toNat 18 18) (bits c.geo.toNat 47 32) (bits c.fmt.toNat 25 20) (bits c.fmt.toNat 13 8)
    (bits c.fmt.toNat 3 0 % 4) (k * sideOf c + i)
def rightAt (t : Tile) (c : MatrixCmd) (k j : Nat) : Option ℚ :=
  planeRead t (2 + bits c.geo.toNat 19 19) (bits c.geo.toNat 63 48) (bits c.fmt.toNat 31 26) (bits c.fmt.toNat 19 14)
    (bits c.fmt.toNat 7 4 % 4) (k * sideOf c + j)

/-- The loop of R380 over the factors of an output, with the magnitude that an accumulator does not reach. -/
def accumulated (limit : ℚ) : List (Option ℚ × Option ℚ) → Option ℚ → Option ℚ
  | [], a => a
  | (x, y) :: r, a => accumulated limit r ((plus a (times x y)).bind (fun v => if |v| < limit then some v else none))

/-- Output (i, j) of the product that a command accumulates over the tile t. -/
def productAt (t : Tile) (c : MatrixCmd) (i j : Nat) : Option ℚ :=
  accumulated ((2 : ℚ) ^ (accBits c - 1) / 2 ^ weightOf c)
    ((List.range (bits c.geo.toNat 15 0)).map (fun k => (leftAt t c i k, rightAt t c k j)))
    (if c.z.getLsbD 0 then some 0 else sumAt t c i j)

/-- The drained output (i, j), from an accumulator and the residuals of the tile t (R273, R381). -/
def drainedAt (t : Tile) (c : MatrixCmd) (acc : Option ℚ) (i j : Nat) : Nat :=
  let rs := widthBits (bits c.fmt.toNat 39 36) / 8
  let pitch := if bits c.bnk.toNat 63 48 = 0 then (bits c.geo.toNat 31 26 + 1) * rs else bits c.bnk.toNat 63 48
  let residual := if c.fmt.getLsbD 40
    then rat (decodePosit (storeNumber t (c.rsd.toNat % 2 ^ 21 + i * pitch + j * rs) rs) (bits c.fmt.toNat 39 36)) else some 0
  let scale := rat (decodePosit (bits c.scl.toNat 31 0) (bits c.scl.toNat 35 32))
  let kept := !c.drp.getLsbD 24
    || keeps c.seed.toNat ((bits c.org.toNat 31 0 + i) % 2 ^ 32) ((bits c.org.toNat 63 32 + j) % 2 ^ 32) (bits c.drp.toNat 23 16)
        (bits c.drp.toNat 15 0)
  roundedTo (bits c.fmt.toNat 35 32) (plus residual ((times scale acc).map (fun v => if kept then v else 0)))

/-- A tile whose task has ended, with the command running in its channel, nothing written since its start and no poison. -/
def Running (x : Tile) (c : MatrixCmd) : Prop :=
  x.level = .task ∧ x.phase = .ended ∧ x.copies = [] ∧ x.units.flights = [] ∧ x.quires = [] ∧ x.badWords = []
    ∧ x.karm.getLsbD (produced c.ctl) = false ∧ ∃ left, x.matrix = { channel := some (c, some left), opened := some (foundBy x) }

/-- The command has retired: the channel is free, its banks have left the table, its token is PRESENT, and nothing else of the tile has
changed but its memories. -/
def Retired (s t : State) (n : Nat) (c : MatrixCmd) : Prop :=
  let x := s.tile n
  let y := t.tile n
  OnTile s t n y ∧ y.matrix = {} ∧ Produces x y c.ctl ∧ y.reserved = x.reserved.filter (fun r => decide (r.1 ≠ c.id))
    ∧ { y with acc := x.acc, store := x.store, buffers := x.buffers, matrix := x.matrix, tokens := x.tokens, reserved := x.reserved } = x

/-- The formats and planes of the operands are as a trigger admits them (R377, R383). -/
def GoodOperands (c : MatrixCmd) : Prop :=
  bits c.fmt.toNat 3 0 < 12 ∧ bits c.fmt.toNat 7 4 < 12 ∧ 2 ≤ bits c.fmt.toNat 13 8 ∧ bits c.fmt.toNat 13 8 ≤ widthBits (bits c.fmt.toNat 3 0)
    ∧ 2 ≤ bits c.fmt.toNat 19 14 ∧ bits c.fmt.toNat 19 14 ≤ widthBits (bits c.fmt.toNat 7 4)

/-- The formats of the accumulators and of the drained outputs, and the planes of a buffer, are as a trigger admits them (R377, R383). -/
def GoodDrain (c : MatrixCmd) : Prop :=
  bits c.fmt.toNat 3 0 < 12 ∧ bits c.fmt.toNat 7 4 < 12 ∧ bits c.fmt.toNat 35 32 < 12
    ∧ (c.dst.toNat / 2 ^ 60 = 0xB → 2 ≤ bits c.fmt.toNat 46 41 ∧ bits c.fmt.toNat 46 41 ≤ widthBits (bits c.fmt.toNat 35 32))

/-- The bank of a command holds the product, and the other bank what it held. -/
def Multiplied (x y : Tile) (c : MatrixCmd) : Prop :=
  (∀ i j, i < sideOf c → j < sideOf c → sumAt y c i j = productAt x c i j)
    ∧ ∀ k, k / 4096 ≠ bits c.geo.toNat 16 16 → mget 0 y.acc k = mget 0 x.acc k

/-- A drain of accumulators acc into the tile store, row by row, or into an operand buffer in plane form, and nothing else of it. -/
def Drained (x y : Tile) (c : MatrixCmd) (acc : Nat → Nat → Option ℚ) : Prop :=
  let ds := widthBits (bits c.fmt.toNat 35 32) / 8
  let rows := bits c.geo.toNat 25 20 + 1
  let cols := bits c.geo.toNat 31 26 + 1
  let pitch := if bits c.bnk.toNat 47 32 = 0 then cols * ds else bits c.bnk.toNat 47 32
  let at_ := fun i j => c.dst.toNat % 2 ^ 21 + i * pitch + j * ds
  let pd := bits c.fmt.toNat 46 41
  let base := c.dst.toNat % 65536
  let element := fun i j => if c.fmt.getLsbD 47 then i * sideOf c + j else j * sideOf c + i
  (c.dst.toNat / 2 ^ 60 = 8 → rows ≤ sideOf c → cols ≤ sideOf c → cols * ds ≤ pitch → y.buffers = x.buffers
      ∧ (∀ i j, i < rows → j < cols → storeNumber y (at_ i j) ds = drainedAt x c (acc i j) i j)
      ∧ ∀ o, (∀ i j, i < rows → j < cols → o < at_ i j ∨ at_ i j + ds ≤ o) → readByte y.store o = readByte x.store o)
    ∧ (c.dst.toNat / 2 ^ 60 = 0xB → rows = sideOf c → cols = sideOf c → base % 8 = 0 → base + sideOf c * sideOf c / 64 * pd * 8 ≤ 65536 →
      let b := bits c.dst.toNat 17 16
      y.store = x.store
      ∧ (∀ i j p, i < rows → j < cols → p < pd →
          planeAt y b base pd (element i j) p = planeOf (8 * ds) (drainedAt x c (acc i j) i j) p)
      ∧ ∀ o, o < 65536 * b + base ∨ 65536 * b + base + sideOf c * sideOf c / 64 * pd * 8 ≤ o → readByte y.buffers o = readByte x.buffers o)

/-- The kiln line of an offset among all lines, and its bank among all controllers and banks, as a job's filters name them (R90). -/
def lineKey (d off : Nat) : Nat := 2 ^ 40 + d * 2 ^ 19 + off / 64
def bankOfLine (d off : Nat) : Nat := 1024 + 64 * d + off / 128 % 64

/-- The pre-image record of a kiln line of a die of a partition (R91). -/
def kilnRecord (s : State) (d lg off : Nat) : List Byte :=
  toBytes 16 (2 + (if (s.die d).kilnPoison (off / 64 * 64) 64 then 16 else 0) + 2 ^ 64 * (lg * 2 ^ 25 + off / 64 * 64))
    ++ readBytes (s.die d).kiln (off / 64 * 64) 64

/-- A job with one more record in its log: it takes an implicit checkpoint when the reserve is reached (R92). -/
def oneMore (j : Job) : Job :=
  let j1 := { j with records := j.records + 1 }
  if j1.log.any (fun f => decide ((f.pages - f.reserve) * 65536 < 65536 + 80 * j1.records)) ∧ none ∉ j.asked then
    { j1 with asked := j.asked ++ [none], state := if j.state = .open_ ∨ j.state = .serial then .quiescing else j.state }
  else j1

end Sys2Proof.Claims

/-- R115, R138, R155, R165: a copy that waits for nothing starts, and its bank set enters the reservation table; the one chunk of a copy
of bytes within a tile store lands: the destination bytes are the source bytes, the map has its bit, the command leaves the engine,
its banks as the next cycle begins, and its token is PRESENT. The source is read in the step that lands it, which is one course of several
that R177 leaves open (log 14). -/
def Sys2Proof.Claims.CopyStartsAndBytesLand : Prop :=
  ∀ (s : State) (n : Nat) (c : CopyCmd) (k : Task),
    let x := s.tile n
    n < 1024 → x.level = .task → x.phase = .running ∨ x.phase = .ended → (x.fixed = true → x.phase = .ended) → x.copies = [c] →
    (c.phase = .waiting → c.waits = [] → c.doomed = false →
      ∃ t, exec (.copyStart n c.id) s = .next t
        ∧ OnTile s t n { x with
            copies := [{ c with phase := .running, age := 0 }], reserved := x.reserved ++ tableOf c.id c.record.banks })
    ∧ (∀ a b bytes, PlainBytes c.record bytes a b → c.src = BitVec.ofNat 64 (2 ^ 63 + a) → c.dst = BitVec.ofNat 64 (2 ^ 63 + b) →
      a + bytes ≤ 2 ^ 21 → b + bytes ≤ 2 ^ 21 → a + bytes ≤ b ∨ b + bytes ≤ a → x.poisonedAt a bytes = false →
      c.phase = .running → c.started = 1 → c.map = 0 → c.lost = 0 → c.moves = [] → c.kept = [] → c.semv = false → c.cev = false →
      x.task = some k → x.units.flights = [] → x.quires = [] → x.matrix = {} → x.karm.getLsbD (produced c.ctl) = false →
      ∃ t y, exec (.chunkLanded n c.id (wholly 0)) s = .next t ∧ t.tile n = y ∧ (∀ m, m ≠ n → t.tile m = s.tile m)
        ∧ (∀ i, i < bytes → readByte y.store (b + i) = readByte x.store (a + i))
        ∧ (∀ i, i < b ∨ b + bytes ≤ i → readByte y.store i = readByte x.store i)
        ∧ y.copies = [] ∧ y.matrix = { leaving := [c.id] } ∧ Produces x y c.ctl
        ∧ (∀ ch, mget noCommand y.newest ch
            = if ch = c.ch then marked (mget noCommand x.newest ch) c.id 0 (x.icyc + x.hcyc + x.fcyc) true else mget noCommand x.newest ch)
        ∧ { y with
            store := x.store, badWords := x.badWords, copies := x.copies, tokens := x.tokens, newest := x.newest, matrix := x.matrix } = x
        ∧ { t with tiles := s.tiles, fresh := s.fresh } = s)

/-- R104, R110, R142 to R145, R155, R159: a chunk of a copy within a tile store, of any extents and strides, raw, packed into planes or
re-formatted, lands: each destination byte of the chunk is the byte its element gives it, and every other byte, with the poison of
words not wholly written, stays; the chunk's bytes are counted at the semaphore that the command names. Distinct positions have
distinct places, and none of them is a source byte. The source is read in the step that lands it (log 14). -/
def Sys2Proof.Claims.ChunksMoveElements : Prop :=
  ∀ (s : State) (n i a b : Nat) (c : CopyCmd) (k : Task),
    let x := s.tile n
    let r := c.shape.toNat
    let source := fun (e j : Nat) => (a : Int) + fromAt r e + j
    let target := fun (p : Nat) => (b : Int) + toAt r p
    n < 1024 → x.task = some k → Moving x c → Open c i → bits r 18 16 = 0 → c.src = BitVec.ofNat 64 (2 ^ 63 + a) →
    c.dst = BitVec.ofNat 64 (2 ^ 63 + b) → a < 2 ^ 21 → b < 2 ^ 21 →
    (∀ e j, e < elementCount r → j < fromSize r → 0 ≤ source e j ∧ source e j < 2 ^ 21
      ∧ c.shape.getLsbD (128 + (source e j).toNat / 64 % 32) = true ∧ (source e j).toNat / 8 ∉ x.badWords) →
    (∀ p, p < sizeOf_ r → 0 ≤ target p ∧ target p < 2 ^ 21) →
    (∀ p q, InChunk r i p → InChunk r i q → target p = target q → p = q) →
    (∀ p e j, InChunk r i p → e < elementCount r → j < fromSize r → target p ≠ source e j) →
    ∃ t, exec (.chunkLanded n c.id (wholly i)) s = .next t ∧ (∀ m, m ≠ n → t.tile m = s.tile m) ∧ { t with tiles := s.tiles, fresh := s.fresh } = s
      ∧ (∀ p, InChunk r i p → readByte (t.tile n).store (target p).toNat = movedByte x r a p)
      ∧ (∀ o : Nat, (∀ p, InChunk r i p → target p ≠ o) → readByte (t.tile n).store o = readByte x.store o)
      ∧ (∀ w, w ∈ (t.tile n).badWords ↔ w ∈ x.badWords ∧ ¬∀ o : Nat, o / 8 = w → ∃ p, InChunk r i p ∧ target p = o)
      ∧ Counts x (t.tile n) c.ctl (min (sizeOf_ r) (512 * i + 512) - 512 * i) ∧ Lands x (t.tile n) c i ∧ besides (t.tile n) = besides x

/-- R96, R118, R147, R155, R159: a chunk of bytes of the own store lands elsewhere: in the store of another tile, whose semaphore counts
them; in a kiln; in a memory line; and a quire image is added into its cell. The write is folded into the digest of its task, granule by
granule, and a cell add as one of kind 5: how a copy's writes are folded is log 54 (DESIGN CHOICE). The source is read in the step that
lands it (log 14). -/
def Sys2Proof.Claims.CopiesReachOtherPlaces : Prop :=
  ∀ (s : State) (n a bytes off : Nat) (c : CopyCmd) (k : Task),
    let x := s.tile n
    let run := readBytes x.store a bytes
    let lands := fun (t : State) (kind : Nat) => Lands x (t.tile n) c 0
      ∧ (t.tile n).digest = x.digest + foldWrite c.dst.toNat run kind 0
      ∧ { besides (t.tile n) with digest := 0 } = { besides x with digest := 0 } ∧ (t.tile n).store = x.store
      ∧ (t.tile n).badWords = x.badWords
    n < 1024 → x.task = some k → k.work = .dispatched → Moving x c → Open c 0 → Readable x c a bytes →
    ((s.part k.part).job k.job).logged = false →
    (∀ m, Bytes c 2 bytes → s.resolve n k c.dst.toNat 0 bytes = .ok (.tile m, off) → m ≠ n → (s.tile m).semarm.getLsbD 38 = false →
      ∃ t, exec (.chunkLanded n c.id (wholly 0)) s = .next t ∧ lands t 0 ∧ (∀ j, j ≠ n → j ≠ m → t.tile j = s.tile j)
        ∧ { t with tiles := s.tiles, fresh := s.fresh } = s
        ∧ (∀ i, i < bytes → readByte (t.tile m).store (off + i) = readByte x.store (a + i))
        ∧ (∀ i, i < off ∨ off + bytes ≤ i → readByte (t.tile m).store i = readByte (s.tile m).store i)
        ∧ Counts (s.tile m) (t.tile m) c.ctl bytes
        ∧ { t.tile m with store := (s.tile m).store, badWords := (s.tile m).badWords, semas := (s.tile m).semas } = s.tile m)
    ∧ (∀ d, Bytes c 3 bytes → s.resolve n k c.dst.toNat 0 bytes = .ok (.kiln d, off) →
      ∃ t, exec (.chunkLanded n c.id (wholly 0)) s = .next t ∧ lands t 0 ∧ (∀ j, j ≠ n → t.tile j = s.tile j)
        ∧ { t with tiles := s.tiles, dies := s.dies, fresh := s.fresh } = s
        ∧ (∀ i, i < bytes → readByte (t.die d).kiln (off + i) = readByte x.store (a + i))
        ∧ (∀ i, i < off ∨ off + bytes ≤ i → readByte (t.die d).kiln i = readByte (s.die d).kiln i)
        ∧ (∀ w, w ∈ (t.die d).badWords ↔ w ∈ (s.die d).badWords ∧ ¬(off ≤ 8 * w ∧ 8 * w + 8 ≤ off + bytes))
        ∧ { t.die d with kiln := (s.die d).kiln, badWords := (s.die d).badWords } = s.die d ∧ (∀ j, j ≠ d → t.die j = s.die j))
    ∧ (∀ d, let r := c.shape.toNat
      bits r 13 12 = 0 → bits r 10 8 = 4 → bits r 18 16 = 4 → bits r 1 0 = 0 → bits r 79 64 = 1 → bytes = 128 →
      s.resolve n k c.dst.toNat 0 128 = .ok (.kiln d, off) → off % 128 = 0 → (s.die d).kilnPoison off 128 = false →
      let cell := fun (m : Memory) => BitVec.ofNat 1024 (ofBytes (readBytes m off 128))
      ∃ t, exec (.chunkLanded n c.id (wholly 0)) s = .next t ∧ lands t 5 ∧ (∀ j, j ≠ n → t.tile j = s.tile j)
        ∧ { t with tiles := s.tiles, dies := s.dies, fresh := s.fresh } = s
        ∧ cell (t.die d).kiln = qadd (cell (s.die d).kiln) (qval (BitVec.ofNat 1024 (ofBytes run)))
        ∧ (∀ i, i < off ∨ off + 128 ≤ i → readByte (t.die d).kiln i = readByte (s.die d).kiln i)
        ∧ { t.die d with kiln := (s.die d).kiln, badWords := (s.die d).badWords } = s.die d ∧ (∀ j, j ≠ d → t.die j = s.die j))
    ∧ (∀ q l, Bytes c 5 bytes → c.dst.toNat < 2 ^ 55 → c.dst.toNat % 64 + bytes ≤ 64 → Finds s n c .write c.dst.toNat q l →
      l.entry.getLsbD 12 = true → off = l.phys / 64 * 64 + c.dst.toNat % 64 →
      ∃ t, exec (.chunkLanded n c.id (wholly 0)) s = .next t ∧ lands t 0 ∧ (∀ j, j ≠ n → t.tile j = s.tile j)
        ∧ (∀ i, i < bytes → readByte t.memory (off + i) = readByte x.store (a + i))
        ∧ (∀ i, i < off ∨ off + bytes ≤ i → readByte t.memory i = readByte s.memory i)
        ∧ t.parts = s.parts ∧ ∀ j, (t.die j).kiln = (s.die j).kiln)

/-- R110, R124, R155: a chunk of bytes of one memory line lands in the own store; R128, R134, R151 to R153: a chunk that meets poison
does not land in a tile store, and its command completes faulted with POISON_CONSUMED as its one event; a chunk whose source or
destination takes an address fault, or lies outside the command's banks, ends it with one COPY_FAULT of its cause; and one whose
destination has a translation fault suspends it with one. The source is read in the step that lands the chunk (log 14). -/
def Sys2Proof.Claims.ChunksFromMemoryAndFaults : Prop :=
  ∀ (s : State) (n a bytes : Nat) (c : CopyCmd) (k : Task),
    let x := s.tile n
    let step := exec (.chunkLanded n c.id (wholly 0)) s
    n < 1024 → x.task = some k → Moving x c →
    (∀ b q l, Bytes c 0 bytes → Open c 0 → c.src.toNat < 2 ^ 55 → c.src.toNat % 64 + bytes ≤ 64 →
      Finds s n c .read c.src.toNat q l → c.dst = BitVec.ofNat 64 (2 ^ 63 + b) → b + bytes ≤ 2 ^ 21 →
      ∃ t, step = .next t ∧ Lands x (t.tile n) c 0 ∧ t.memory = s.memory ∧ (∀ j, j ≠ n → t.tile j = s.tile j)
        ∧ (∀ i, i < bytes → readByte (t.tile n).store (b + i) = readByte s.memory (l.phys / 64 * 64 + c.src.toNat % 64 + i))
        ∧ (∀ i, i < b ∨ b + bytes ≤ i → readByte (t.tile n).store i = readByte x.store i)
        ∧ Counts x (t.tile n) c.ctl bytes ∧ besides (t.tile n) = besides x)
    ∧ (∀ b w, Bytes c 0 bytes → Open c 0 → c.started = 1 → c.src = BitVec.ofNat 64 (2 ^ 63 + a) → a + bytes ≤ 2 ^ 21 →
      (∀ i, i < bytes → c.shape.getLsbD (128 + (a + i) / 64 % 32) = true) → x.badWords = [w] → x.poisonedAt a bytes = true →
      c.dst = BitVec.ofNat 64 (2 ^ 63 + b) → b + bytes ≤ 2 ^ 21 →
      ∃ t, step = .next t ∧ OnTile s t n (t.tile n)
        ∧ Faults x (t.tile n) c { code := .poisonConsumed, info := BitVec.ofNat 64 (2 ^ 63 + w / 8 * 64) })
    ∧ (∀ kind, Bytes c kind bytes → c.started = 0 → c.map = 0 →
      (∀ e, s.resolve n k c.src.toNat 0 1 = .error e →
        ∃ t, step = .next t ∧ OnTile s t n (t.tile n)
          ∧ Faults x (t.tile n) c { code := .copyFault, cause := BitVec.ofNat 8 e, info := c.src, cmd := c.id })
      ∧ (c.src = BitVec.ofNat 64 (2 ^ 63 + a) → a < 2 ^ 21 → c.shape.getLsbD (128 + a / 64 % 32) = false →
        ∃ t, step = .next t ∧ OnTile s t n (t.tile n)
          ∧ Faults x (t.tile n) c { code := .copyFault, cause := 4, info := c.src, cmd := c.id })
      ∧ (c.src = BitVec.ofNat 64 (2 ^ 63 + a) → a + bytes ≤ 2 ^ 21 → (∀ i, i < bytes → c.shape.getLsbD (128 + (a + i) / 64 % 32) = true) →
        (∀ e, s.resolve n k c.dst.toNat 0 1 = .error e →
          ∃ t, step = .next t ∧ OnTile s t n (t.tile n)
            ∧ Faults x (t.tile n) c { code := .copyFault, cause := BitVec.ofNat 8 e, info := c.dst, cmd := c.id })
        ∧ (∀ e, c.dst.toNat + bytes ≤ 2 ^ 55 → (s.part k.part).stopping = none → (s.die (n / 64)).cache = [] → x.copyCache = [] →
          walk s (s.part k.part) c.dst.toNat 3 1 (s.part k.part).root.toNat = .error e →
          ∃ t, step = .next t
            ∧ OnTile s t n { x with
                copies := [{ c with phase := .suspended, redo := 0 }]
                alarms := x.alarms ++ [{ code := .copyFault, cause := BitVec.ofNat 8 e, info := c.dst, cmd := c.id }] })))

/-- R96, R104, R110, R115, R118, R124, R128, R134, R138, R142 to R145, R147, R151 to R153, R155, R159, R165: a copy that waits for nothing
starts, and its banks enter the table. A chunk of any extents and strides within the tile store, raw, packed or re-formatted, lands
with exactly its bytes; so do bytes that go to another tile, a kiln, a quire cell or memory, or come from memory. Poison, address
faults and banks outside the set end a command faulted with one event, and a translation fault suspends it. That the step that lands a
chunk has read its source (log 14), and how a copy's writes are folded into a digest (log 54), are the model's choices. -/
def Obligations.CopiesStartAndLand : Prop :=
  CopyStartsAndBytesLand ∧ ChunksMoveElements ∧ CopiesReachOtherPlaces ∧ ChunksFromMemoryAndFaults

/-- R178, R179, R219, R372 to R374, R382: on a tile whose task has ended, the command in the channel of the matrix engine starts with L
cycles before it, its bank set in the table, and the operand buffers as they stand; a clear that retires zeroes its bank, and a load
fills it from the bytes of the tile store that have stood since its start; the other bank stays, the token is PRESENT and the
channel is free. -/
def Sys2Proof.Claims.CommandsStartClearAndLoad : Prop :=
  ∀ (s : State) (n : Nat) (c : MatrixCmd),
    let x := s.tile n
    let b := c.geo.toNat / 65536 % 2
    let inBank := fun k => 4096 * b ≤ k ∧ k < 4096 * b + 4096
    n < 1024 → x.level = .task → x.phase = .ended →
    (∀ r ∈ matrixRows, ∀ m, c.op = (r.op m).code → x.matrix = { channel := some (c, none) } → c.waits = [] → c.doomed = false →
      ∃ t o, exec (.mxCommandStart n) s = .next t ∧ o.buffers = x.buffers ∧ (x.units.flights = [] → x.quires = [] → o = foundBy x)
        ∧ OnTile s t n { x with
            matrix := { channel := some (c, some (matrixLength r c)), opened := some o }
            reserved := x.reserved ++ (if r.moves then tableOf c.id (BitVec.setWidth 32 c.bnk) else []) })
    ∧ (∀ m left opened,
      let offset := c.rsd.toNat % 2 ^ 21
      let after := fun (new : Nat → Slice) => ∃ t y, exec (.mxCommandRetire n) s = .next t ∧ OnTile s t n y
        ∧ (∀ k, mget 0 y.acc k = if inBank k then new (k - 4096 * b) else mget 0 x.acc k)
        ∧ y.matrix.channel = none ∧ y.matrix.shadow = [] ∧ Produces x y c.ctl
        ∧ y.reserved = x.reserved.filter (fun r => decide (r.1 ≠ c.id))
        ∧ { y with acc := x.acc, badWords := x.badWords, matrix := x.matrix, tokens := x.tokens, reserved := x.reserved } = x
      x.matrix = { channel := some (c, some left), opened := opened } → x.copies = [] → x.karm.getLsbD (produced c.ctl) = false → x.units.flights = [] →
      x.quires = [] →
      (c.op = (Instr.mxMclr m).code → after (fun _ => 0))
      ∧ (c.op = (Instr.mxMload m).code → x.poisonedAt offset 131072 = false →
        (∀ o, opened = some o → readBytes o.store offset 131072 = readBytes x.store offset 131072
          ∧ ({ x with badWords := o.badWords } : Tile).poisonedAt offset 131072 = false) →
        after (fun k => BitVec.ofNat 256 (storeNumber x (offset + 32 * k) 32))))

/-- R261 to R265, R273, R376 to R382: a product that retires leaves in its bank, for each output, the exact sum of its products over the
planes read, NaR where an operand is NaR or a partial sum leaves the range; a drain writes each output, scaled, with its residual and its
dropout, rounded once, and leaves the bank; mx.mmd does both; a save writes the 4,096 slices of its bank, little-endian. -/
def Sys2Proof.Claims.MatrixCommandsCompute : Prop :=
  ∀ (s : State) (n : Nat) (c : MatrixCmd) (m : Move),
    let x := s.tile n
    let step := exec (.mxCommandRetire n) s
    n < 1024 → Running x c →
    (c.op = (Instr.mxMma m).code → GoodOperands c →
      ∃ t, step = .next t ∧ Retired s t n c ∧ Multiplied x (t.tile n) c ∧ (t.tile n).store = x.store ∧ (t.tile n).buffers = x.buffers)
    ∧ (c.op = (Instr.mxMmd m).code → GoodOperands c → GoodDrain c →
      ∃ t, step = .next t ∧ Retired s t n c ∧ Multiplied x (t.tile n) c ∧ Drained x (t.tile n) c (productAt x c))
    ∧ (c.op = (Instr.mxMdrn m).code → GoodDrain c →
      ∃ t, step = .next t ∧ Retired s t n c ∧ (t.tile n).acc = x.acc ∧ Drained x (t.tile n) c (sumAt x c))
    ∧ (c.op = (Instr.mxMsave m).code →
      let at_ := c.dst.toNat % 2 ^ 21
      ∃ t, step = .next t ∧ Retired s t n c ∧ (t.tile n).acc = x.acc ∧ (t.tile n).buffers = x.buffers
        ∧ (∀ k, k < 4096 → storeNumber (t.tile n) (at_ + 32 * k) 32 = (mget 0 x.acc (4096 * bits c.geo.toNat 16 16 + k)).toNat)
        ∧ ∀ o, o < at_ ∨ at_ + 131072 ≤ o → readByte (t.tile n).store o = readByte x.store o)

/-- R178, R179, R219, R261 to R265, R273, R372 to R374, R376 to R382: the command in the channel of the matrix engine starts with L cycles
before it, its bank set in the table. A clear zeroes its bank, a load fills it, a product leaves the exact sums of its products there, a
drain writes its outputs rounded once, and a save writes its slices; the token is PRESENT and the channel is free. -/
def Obligations.MatrixStartsAndRetires : Prop := CommandsStartClearAndLoad ∧ MatrixCommandsCompute

/-- R159, R161, R162, R166: a remote write that performs puts its bytes into the store of the tile it names, counts them in the semaphore
its control word names, and leaves its list; in fixed timing it does not before the cycle that its message takes to come; a message that arrives joins the receive queue it names, or is refused by a full one and
sent again once the queue has room. -/
def Obligations.RemoteWritesAndMessagesArrive : Prop :=
  ∀ (s : State) (n m : Nat) (k : Task),
    let x := s.tile n
    let z := s.tile m
    n < 1024 → m ≠ n → x.task = some k → x.postings = [] →
    (∀ r rs c, x.rputs = r :: rs → x.phase = .running → r.ready = some c → 2 ^ 63 ≤ (x.icyc + x.hcyc + x.fcyc - c).toNat →
      exec (.remoteWritePerform n 0) s = .refused (.notDue "REMOTE_WRITE_PERFORM"))
    ∧ (∀ r rs off, x.rputs = r :: rs → r.tag = none → s.resolve n k r.addr.toNat 0 r.n = .ok (.tile m, off) → r.n ≤ 8 → z.semarm.getLsbD 38 = false →
      (∀ c, r.ready = some c → (x.icyc + x.hcyc + x.fcyc - c).toNat < 2 ^ 63) →
      ∃ t, exec (.remoteWritePerform n 0) s = .next t ∧ t.tile n = { x with rputs := rs } ∧ (∀ j, j ≠ n → j ≠ m → t.tile j = s.tile j)
        ∧ (∀ i, i < r.n → readByte (t.tile m).store (off + i) = BitVec.ofNat 8 (r.data.toNat / 256 ^ i))
        ∧ (∀ i, i < off ∨ off + r.n ≤ i → readByte (t.tile m).store i = readByte z.store i)
        ∧ (∀ j, (t.tile m).sema j = if r.ctl.getLsbD 15 ∧ j = r.ctl.toNat / 256 % 64 then z.sema j + BitVec.ofNat 32 r.n else z.sema j)
        ∧ { t.tile m with store := z.store, badWords := z.badWords, semas := z.semas, matrix := sameMatrix z (t.tile m) } = z
        ∧ { t with tiles := s.tiles } = s)
    ∧ (∀ o,
      let q := o.dest.toNat / 16 % 16
      x.sends = [o] → o.due = none → o.tag = none → s.peer k (o.dest.toNat / 2 ^ 48 % 256) (o.dest.toNat / 2 ^ 32 % 1024) = .ok (some m, 0) →
      (o.refused = false → (z.queue q).length < 64 →
        ∃ t, exec (.linkMessageArrive n 0) s = .next t ∧ t.tile n = { x with sends := [] } ∧ (∀ j, j ≠ n → j ≠ m → t.tile j = s.tile j)
          ∧ (∀ j, (t.tile m).queue j = if j = q then z.queue j ++ [{ data := o.data, src := o.src, poisoned := false }] else z.queue j)
          ∧ { t.tile m with queues := z.queues } = z ∧ { t with tiles := s.tiles } = s)
      ∧ (o.refused = false → 64 ≤ (z.queue q).length →
        ∃ t, exec (.linkMessageArrive n 0) s = .next t ∧ OnTile s t n { x with sends := [{ o with refused := true }] })
      ∧ (o.refused = true → (z.queue q).length < 64 →
        ∃ t, exec (.linkResend n 0) s = .next t ∧ OnTile s t n { x with sends := [{ o with refused := false }] }))

/-- R118, R119, R391, R393: an integer operation that performs at its bank leaves the value of its row at its location, and every other
byte of the kiln stays; one that returns keeps the old value until it returns, any other leaves the queue; the value that returns
is in kn.res. -/
def Sys2Proof.Claims.IntegersPerform : Prop :=
  ∀ (s : State) (n : Nat) (k : Task) (o : KilnOp),
    let x := s.tile n
    n < 1024 → x.task = some k → x.postings = [] → x.kiln = [o] → o.due = none →
    (∀ d off,
      let w := bankBytes o.k o.addr o.c
      let old := ofBytes (readBytes (s.die d).kiln off w)
      let new := bankValue o.k w old (o.b.toNat % 2 ^ (8 * w)) (o.c.toNat % 2 ^ (8 * w))
      let j := (s.part k.part).job k.job
      o.stage = .sent → o.k ≤ 10 ∨ o.k = 14 ∨ o.k = 15 → s.resolve n k o.addr.toNat 0 w = .ok (.kiln d, off) →
      (s.die d).kilnPoison off w = false →
      j.logged = false ∨ o.k = 14 ∨ (off / 64 = (off + w - 1) / 64 ∧ lineKey d off ∈ mget [] j.filters (bankOfLine d off)) →
      ∃ t, exec (.kilnOperationPerform n 0) s = .next t
        ∧ (∀ i, i < w → readByte (t.die d).kiln (off + i) = BitVec.ofNat 8 (new / 256 ^ i))
        ∧ (∀ i, i < off ∨ off + w ≤ i → readByte (t.die d).kiln i = readByte (s.die d).kiln i)
        ∧ { t.die d with kiln := (s.die d).kiln, badWords := (s.die d).badWords } = s.die d
        ∧ (∀ j, j ≠ d → t.die j = s.die j) ∧ (∀ j, j ≠ n → t.tile j = s.tile j) ∧ { t with dies := s.dies, tiles := s.tiles } = s
        ∧ t.tile n = { x with
            kiln := if bankReturns o.k o.c then [{ o with stage := .performed (BitVec.ofNat 64 old) false }] else [] })
    ∧ (∀ v, o.stage = .performed v false → o.returns = true →
      ∃ t y, exec (.knResultReturn n) s = .next t ∧ OnTile s t n y
        ∧ (∀ j, mget 0 y.units.results j = if j = 0x107 then v else mget 0 x.units.results j)
        ∧ { y with kiln := x.kiln, units := { y.units with results := x.units.results } } = x ∧ y.kiln = [])

/-- R118, R119, R256, R259, R391: kn.padd leaves the rounded sum at its location, kn.qadd the exact sum in its 128-byte cell, NaR on
overflow, and kn.upd the rounded elements; every other byte of the kiln stays, and only a kn.padd with RET keeps the old value to return. -/
def Sys2Proof.Claims.PositsPerform : Prop :=
  ∀ (s : State) (n : Nat) (k : Task) (o : KilnOp) (d off : Nat),
    let x := s.tile n
    let w := positBytes o.k o.c
    let old := ofBytes (readBytes (s.die d).kiln off w)
    n < 1024 → x.task = some k → x.postings = [] → x.kiln = [o] → o.due = none →
    o.stage = .sent → o.k = 11 ∨ o.k = 12 ∨ o.k = 13 → GoodPosits o.k o.c → s.resolve n k o.addr.toNat 0 w = .ok (.kiln d, off) →
    (s.die d).kilnPoison off w = false → ((s.part k.part).job k.job).logged = false →
    ∃ t, exec (.kilnOperationPerform n 0) s = .next t
      ∧ BankPosits o.k o.b o.c old (ofBytes (readBytes (t.die d).kiln off w))
      ∧ (∀ i, i < off ∨ off + w ≤ i → readByte (t.die d).kiln i = readByte (s.die d).kiln i)
      ∧ { t.die d with kiln := (s.die d).kiln, badWords := (s.die d).badWords } = s.die d
      ∧ (∀ j, j ≠ d → t.die j = s.die j) ∧ (∀ j, j ≠ n → t.tile j = s.tile j) ∧ { t with dies := s.dies, tiles := s.tiles } = s
      ∧ t.tile n = { x with
          kiln := if o.k = 11 ∧ o.c.getLsbD 41 = true then [{ o with stage := .performed (BitVec.ofNat 64 old) false }] else [] }

/-- R90 to R92: the first write of a job to a kiln line in its interval appends the line's pre-image to the job's log before the write, and
its bank remembers the line; a log that has no room, or no page for the record, fails the job, and the write goes on unlogged. A record
goes to its place line by line, through a page of grade S in LPDDR6 that can be read and written. -/
def Sys2Proof.Claims.FirstWritesAreLogged : Prop :=
  (∀ (s : State) (n : Nat) (k : Task) (o : KilnOp) (d off lg : Nat) (f : LogFields),
    let x := s.tile n
    let w := bankBytes o.k o.addr o.c
    let new := bankValue o.k w (ofBytes (readBytes (s.die d).kiln off w)) (o.b.toNat % 2 ^ (8 * w)) (o.c.toNat % 2 ^ (8 * w))
    let j := (s.part k.part).job k.job
    let j1 := { j with filters := mset [] j.filters (bankOfLine d off) (addTo (lineKey d off) (mget [] j.filters (bankOfLine d off))) }
    let s0 := s.setPart k.part ((s.part k.part).setJob j1)
    let wrote := writeLog s0 (x.who n) (linePieces (f.base + 65536 + 80 * j.records) 80) (kilnRecord s d lg off)
    let stored := fun t : State =>
      (∀ i, i < w → readByte (t.die d).kiln (off + i) = BitVec.ofNat 8 (new / 256 ^ i))
        ∧ ∀ i, i < off ∨ off + w ≤ i → readByte (t.die d).kiln i = readByte (s.die d).kiln i
    n < 1024 → x.task = some k → x.postings = [] → x.kiln = [o] → o.due = none → o.stage = .sent → o.k ≤ 10 ∨ o.k = 15 →
    s.resolve n k o.addr.toNat 0 w = .ok (.kiln d, off) → (s.die d).kilnPoison off w = false → off / 64 = (off + w - 1) / 64 →
    (s.part k.part).dieList[lg]? = some d → j.log = some f → j.state ≠ .unprotected → j.state ≠ .failed →
    lineKey d off ∉ mget [] j.filters (bankOfLine d off) → (mget [] j.filters (bankOfLine d off)).length < 32768 →
    (∀ s1, j.records < (f.pages - 1) * 65536 / 80 → wrote = .ok s1 →
      ∃ t, exec (.kilnOperationPerform n 0) s = .next t ∧ stored t ∧ t.memory = s1.memory
        ∧ (t.part k.part).job k.job = oneMore j1 ∧ t.causes = s.causes)
    ∧ (∀ a, j.records < (f.pages - 1) * 65536 / 80 → wrote = .error a →
      ∃ t, exec (.kilnOperationPerform n 0) s = .next t ∧ stored t ∧ t.memory = s.memory
        ∧ t.causes = s.causes ++ [{ part := k.part, job := k.job, addr := a, what := .overflow a }])
    ∧ ((f.pages - 1) * 65536 / 80 ≤ j.records →
      ∃ t, exec (.kilnOperationPerform n 0) s = .next t ∧ stored t ∧ t.memory = s.memory
        ∧ t.causes = s.causes ++ [{ part := k.part, job := k.job, addr := 0, what := .overflow 0 }]))
  ∧ (∀ (s : State) (w : Who) (va n : Nat) (bs : List Byte) (ps : List (Nat × Nat)) (k : Walked) (l : Leaf),
    let fresh := s.cachedFor w va = none
    (∀ t, writeLog s w [(va, n)] (bs.take n) = .ok t → writeLog s w ((va, n) :: ps) bs = writeLog t w ps (bs.drop n))
    ∧ (fresh → walk s (s.part w.part) va 3 1 (s.part w.part).root.toNat = .ok k →
      checkLeaf s { w with user := false } .write va k = .ok l →
      l.entry.getLsbD 8 = true → 2 ^ 41 ≤ l.ppa → l.grade = 0 → l.foreign = false → l.entry.getLsbD 12 = true → l.key = 0 →
      va % 64 + n ≤ 64 → bs.length = n →
      ∃ t, writeLog s w [(va, n)] bs = .ok t
        ∧ (∀ i, i < n → readByte t.memory (l.phys / 64 * 64 + va % 64 + i) = nth 0 bs i)
        ∧ ∀ a, a < l.phys / 64 * 64 + va % 64 ∨ l.phys / 64 * 64 + va % 64 + n ≤ a → readByte t.memory a = readByte s.memory a)
    ∧ (fresh → (∀ k, walk s (s.part w.part) va 3 1 (s.part w.part).root.toNat = .ok k →
        ∀ l, checkLeaf s { w with user := false } .write va k = .ok l →
          l.entry.getLsbD 8 = false ∨ l.ppa < 2 ^ 41 ∨ l.grade ≠ 0 ∨ l.foreign = true) →
      writeLog s w ((va, n) :: ps) bs = .error va))

/-- R90 to R92, R118, R119, R256, R259, R391, R393: a kiln operation that performs leaves the value of its row at its location, integers
and posits, and every other byte of the kiln stays; one that returns keeps the old value until it returns, any other leaves the queue;
the value that returns is in kn.res. The first write of a job to a line in its interval is logged before it. -/
def Obligations.KilnOperationsPerform : Prop := IntegersPerform ∧ PositsPerform ∧ FirstWritesAreLogged

namespace Sys2Proof.Claims

/-! ## The dispatcher (R53, R76 to R88, R95, R98, R245, R249) -/

/-- A partition that no STOP and no FORCE_STOP waits for, with no import to take up, and a control port on which no request waits. -/
def Undisturbed (s : State) (p : Nat) : Prop :=
  (s.part p).stopping = none ∧ (s.part p).forced = none ∧ (s.part p).imported = [] ∧ s.control.waiting = []

/-- The tiles that a linked launch at the head of a partition's order has reserved (R81): of those that it had, the ones still vacant, and the
first other vacant ones as far as it lacks some, in working order. -/
def reservedFor (s : State) (p : Nat) (l : Launch) : List Nat :=
  let vacant := s.vacantTiles p
  let had := vacant.filter (fun n => (s.part p).reserved.any (fun r => r.1 == l.addr && r.2.contains n))
  let more := (vacant.filter (fun n => !had.contains n)).take (l.tasks - had.length)
  vacant.filter (fun n => had.contains n || more.contains n)

/-- Nothing of the partitions differs but what linked launches have reserved (R81). -/
def OnlyReserves (s t : State) : Prop := ∀ q, { t.part q with reserved := (s.part q).reserved } = s.part q

/-- Tile n runs task i of a launch under a code object: it stands at its entry bundle in frame 0, s0 to s7 hold its dispatch values and
every other register is zero (R77, R78). -/
def Starts (t : State) (n : Nat) (l : Launch) (o : CodeObject) (entry i : Nat) : Prop :=
  let x := t.tile n
  let r := l.record.toNat
  let total := iterations r
  let slice := r / 2 ^ 160 % 2 ^ 32
  x.phase = .running ∧ x.level = .task ∧ x.wb = 0 ∧ x.frames = [] ∧ x.p = 0 ∧ x.pc = BitVec.ofNat 64 (o.codeBase + entry)
    ∧ (∃ k, x.task = some k ∧ k.index = i ∧ k.launch = l.addr ∧ k.job = l.job ∧ k.work = .dispatched ∧ k.total = l.tasks)
    ∧ x.readS 0 = BitVec.ofNat 64 i ∧ x.readS 1 = BitVec.ofNat 64 (i * slice)
    ∧ x.readS 2 = BitVec.ofNat 64 (min slice (total - i * slice))
    ∧ x.readS 5 = BitVec.ofNat 64 (r / 2 ^ 448 % 2 ^ 64) ∧ x.readS 6 = BitVec.ofNat 64 (r / 2 ^ 320 % 2 ^ 64)
    ∧ x.readS 7 = BitVec.ofNat 64 l.tasks ∧ (∀ j, 8 ≤ j → j < 32 → x.readS j = 0)

/-- The launch record kept after tasks were dispatched. -/
def Progress (t : State) (p : Nat) (l : Launch) (count : Nat) : Prop :=
  ∃ l', (t.part p).launch? l.addr = some l' ∧ l'.dispatched = l.dispatched + count
    ∧ l'.state = if l.dispatched + count = l.tasks then .running else .dispatching

/-- A decision of partition p has been served: one more of its turn, or the first of a new one (R82). -/
def Turned (s t : State) (p : Nat) : Prop :=
  (t.turn, t.served) = if p = s.turn ∧ s.served < (s.part p).dieList.length then (p, s.served + 1) else (p, 1)

/-- A tile whose task has retired: it is idle, and what a later task finds of its registers and memories is what the task left, which
the next dispatch zeroes (R80, R299). -/
def Retires (a b : Tile) : Prop :=
  b.phase = .idle ∧ b.task = none ∧ b.held = none ∧ b.units.flights = [] ∧ b.quires = [] ∧ b.reserved = [] ∧ b.matrix = {}
    ∧ b.units.ports = a.units.ports ∧ b.units.results = a.units.results
    ∧ { b with
        phase := a.phase, task := a.task, code := a.code, fills := a.fills, fillFault := a.fillFault, held := a.held, holds := a.holds
        stall := a.stall, quires := a.quires, reserved := a.reserved, units := a.units, matrix := a.matrix, copyCache := a.copyCache } = a

end Sys2Proof.Claims

/-- R74, R76: a POSTED task launch whose predecessors have retired and whose checks pass, on its JOB as memory holds it now, becomes READY,
from now on. Nothing of another module is to come for it (log 10). -/
def Obligations.PostedLaunchesBecomeReady : Prop :=
  ∀ (s : State) (p addr : Nat) (l l0 l1 : Launch) (bs : List Byte) (s0 s1 s2 : State),
    p < 16 → (s.part p).launch? addr = some l → l.state = .posted → l.preds = [] →
    (tried s (.ready p addr)).jobNow p l = (l0, s0) → (s0.part p).state = .running → ((s0.part p).job l0.job).stopsTasks = false →
    s0.readDispatch p (some l0.job) l0.addr 128 = (.ok bs, s1) → s1.examine p l0 (headAsPosted l0.record.toNat (ofBytes bs)) = (.ok l1, s2) →
    l1.kind = 0 → l1.tasks ≠ 0 → Undisturbed s2 p → Unhindered s (.ready p addr) (fun u => (u.readyStep p l).2) →
    ∃ t l', exec (.launchReady p addr) s = .next t ∧ (t.part p).launch? l1.addr = some l' ∧ l'.state = .ready
      ∧ l'.readyAt = s2.timeBase ∧ l'.record = l1.record ∧ l'.dispatched = l1.dispatched ∧ l'.finished = l1.finished

/-- R77, R78, R80 to R82, R84: the head of the order starts its next task on the first idle tile, a linked launch all its tasks
on as many idle tiles in working order; a switched-out task at the head returns to an idle tile of its die as it left; a rise of
effective priority asks the best victim's tile for a pre-emption. A linked launch keeps the vacant tiles that it has reserved. Nothing of
another module is to come for a step (log 10). A partition's turn lasts as many decisions as it has dies; that turns go by partition number,
past those with no decision to make, is the model's choice (log 34). -/
def Obligations.DispatcherStartsTasks : Prop :=
  ∀ (s : State) (p : Nat) (l : Launch) (o : CodeObject),
    let entry := l.record.toNat / 2 ^ 128 % 2 ^ 32
    p < 16 → AsksNothing s (fun a => a.dispatches p) →
    (∀ n ns, s.headLaunch p l.addr = some l → l.kind = 0 → l.linked = false → l.object = some o → (l.cell = none ∨ l.bound = true) →
      s.vacantTiles p = n :: ns → s.dieTakes (s.launchFixed p l) (n / 64) = true → (s.part p).imported = [] → s.serves = some p →
      Unhindered s (.dispatch p l.addr l.dispatched) (fun u => u.dispatchStep p l n) →
      ∃ t, exec (.taskDispatch p l.addr) s = .next t ∧ Turned s t p ∧ Starts t n l o entry l.dispatched ∧ Progress t p l 1)
    ∧ (let tiles := reservedFor s p l
      s.headLaunch p l.addr = some l → l.kind = 0 → l.linked = true → l.object = some o → (l.cell = none ∨ l.bound = true) →
      (s.part p).imported = [] → tiles.length = l.tasks → (s.vacantTiles p).Nodup →
      (∀ n ∈ tiles, s.dieTakes (s.launchFixed p l) (n / 64) = true) → s.serves = some p →
      Unhindered s (.dispatch p l.addr 0) (fun u => u.gangStep p l tiles) →
      ∃ t, exec (.gangStart p l.addr) s = .next t ∧ Turned s t p ∧ Progress t p l l.tasks
        ∧ ∀ i, i < l.tasks → Starts t (nth 0 tiles i) l o entry i)
    ∧ (∀ n x k c, n < 1024 → s.dispatchHead p = some c → c.swapped = true → c.addr = x.launch → c.index = x.index →
      (s.die (n / 64)).shadow.find? (fun y => y.part == p && y.launch == x.launch && y.index == x.index) = some x → s.serves = some p →
      x.tile.task = some k → (s.tile n).phase = .idle → n ∈ workingTiles s.health (n / 64) →
      s.dieTakes x.tile.fixed (n / 64) = true → Unhindered s (.dispatch p x.launch x.index) (fun u => (u.takeTurn p).resume x n) →
      ∃ t k', exec (.taskResume p x.launch x.index n) s = .next t ∧ Turned s t p
        ∧ (t.tile n).task = some k' ∧ k'.index = k.index ∧ k'.launch = k.launch ∧ k'.job = k.job
        ∧ (t.tile n).phase = x.tile.phase ∧ (t.tile n).level = x.tile.level ∧ (t.tile n).pc = x.tile.pc
        ∧ (t.tile n).sGlobal = x.tile.sGlobal ∧ (t.tile n).sWindow = x.tile.sWindow ∧ (t.tile n).wb = x.tile.wb
        ∧ (t.tile n).p = x.tile.p ∧ (t.tile n).frames = x.tile.frames ∧ (t.tile n).tokens = x.tile.tokens
        ∧ (t.tile n).semas = x.tile.semas ∧ (t.tile n).units = x.tile.units ∧ (t.tile n).icyc = x.tile.icyc
        ∧ (∀ y ∈ (t.die (n / 64)).shadow, y.slot ≠ x.slot))
    ∧ (∀ c v, s.dispatchHead p = some c → c.swapped = false → (s.part p).launch? c.addr = some l → l.linked = false →
      s.vacantTiles p = [] →
      (∀ n ∈ partitionTiles s (s.part p), (s.tile n).matrix.preempt = false ∧ (s.tile n).phase ≠ .leaving) →
      s.bestVictim p ((partitionTiles s (s.part p)).filter (s.preemptible p)) = some v → (s.victimKey p v).1 < c.eff →
      ∃ t, exec (.effectivePriorityRise p) s = .next t
        ∧ OnTile s { t with parts := s.parts } v { s.tile v with matrix := { (s.tile v).matrix with preempt := true } }
        ∧ OnlyReserves s t ∧ (t.part p).reserved = none)
    ∧ (∀ c, s.dispatchHead p = some c → c.swapped = false → (s.part p).launch? c.addr = some l → l.addr = c.addr → l.linked = true →
      s.requestPreemption p = s →
      ∃ t, exec (.effectivePriorityRise p) s = .next t ∧ { t with parts := s.parts } = s ∧ OnlyReserves s t
        ∧ (t.part p).reserved = some (l.addr, reservedFor s p l))
    ∧ (∀ i,
      let first := if s.served < (s.part s.turn).dieList.length then s.turn else s.turn + 1
      i < 16 → s.decides ((first + i) % 16) = true → (∀ j, j < i → s.decides ((first + j) % 16) = false) →
      s.serves = some ((first + i) % 16))

/-- R86, R98, R100: an ended task with nothing left of it retires and its tile is idle, with its registers and memories as the task left
them: one of a launch adds its digest's CRC-64 to LACC and counts in FINISHED, and the last one retires the launch; one whose digest is not
that of its entry in the table rolls its job back, with entry 0x8012. That a spawned one hands its deterministic-read flag to
its spawner, for the launch's, is the model's reading of R100 (log 35); that an idle tile keeps its registers and memories is log 44, and
that what was in flight of it is dropped is log 58 (both DESIGN CHOICE). Nothing of another module is to come for it (log 10). -/
def Obligations.TasksRetire : Prop :=
  ∀ (s : State) (n : Nat) (k : Task),
    let x := s.tile n
    n < 1024 → x.task = some k → x.phase = .ended → x.level = .task → x.alarms = [] → x.quiet = true → x.copies = [] →
    (∀ y ∈ s.tiles, ∀ j, y.2.task = some j → j.work ≠ .spawned n) → Undisturbed s k.part →
    AsksNothing s (fun a => a.fills n || a == .task n) →
    (∀ b, k.work = .spawned b → b ≠ n →
      ∃ t, exec (.taskRetire n) s = .next t ∧ Retires x (t.tile n) ∧ (t.tile n).copyCache = x.copyCache
        ∧ t.tile b = { s.tile b with detRead := (s.tile b).detRead || x.detRead }
        ∧ (∀ j, j ≠ n → j ≠ b → t.tile j = s.tile j) ∧ { t with tiles := s.tiles, parts := s.parts } = s ∧ OnlyReserves s t)
    ∧ (∀ l, k.work = .dispatched → (s.part k.part).launch? k.launch = some l → l.digtab = 0 → l.finished + 1 < l.tasks →
      Unhindered s (.task n) (fun u => u.retireTask n k) →
      ∃ t l', exec (.taskRetire n) s = .next t ∧ Retires x (t.tile n)
        ∧ (t.part k.part).launch? l.addr = some l' ∧ l'.finished = l.finished + 1 ∧ l'.state = l.state
        ∧ l'.lacc = l.lacc + BitVec.ofNat 64 (crc64 (toBytes 8 k.index ++ toBytes 8 x.digest.toNat))
        ∧ l'.detRead = (l.detRead || x.detRead))
    ∧ (∀ l r f q, k.work = .dispatched → (s.part k.part).launch? k.launch = some l → l.digtab = 0 → l.finished + 1 = l.tasks → l.cell = none →
      l.succs = [] → ((s.part k.part).job l.job).mismatch = none → ((s.part k.part).job l.job).logged = false →
      (∀ c ∈ s.causes, c.part ≠ k.part ∨ c.job ≠ l.job) → HoldsRecord s k.part l.addr r f →
      WalksAround s k.part f.phys (f.phys + 128) l.addr q →
      ∃ t l', exec (.taskRetire n) s = .next t ∧ Retires x (t.tile n) ∧ ((t.part k.part).job l.job).rollbacks = 0 ∧ t.causes = s.causes
        ∧ (t.part k.part).launch? l.addr = some l' ∧ l'.finished = l.tasks ∧ l'.state = .retired
        ∧ l'.lacc = l.lacc + BitVec.ofNat 64 (crc64 (toBytes 8 k.index ++ toBytes 8 x.digest.toNat))
        ∧ readBytes t.memory (f.phys + 96) 8 = toBytes 8 l'.statusWord.toNat
        ∧ readBytes t.memory (f.phys + 104) 8 = toBytes 8 l'.lacc.toNat ∧ readBytes t.memory (f.phys + 112) 8 = toBytes 8 l'.lacc.toNat
        ∧ ∀ i, i < f.phys + 96 ∨ f.phys + 120 ≤ i → readByte t.memory i = readByte s.memory i)
    ∧ (∀ l bs s1, k.work = .dispatched → (s.part k.part).launch? k.launch = some l → l.digtab ≠ 0 → l.digchk = true →
      (tried s (.task n)).readDispatch k.part (some l.job) (l.digtab + 8 * (1 + k.index)) 8 = (.ok bs, s1) → ofBytes bs ≠ x.digest.toNat → k.index < 2 ^ 24 →
      l.addr < 2 ^ 64 → ((s1.part k.part).job l.job).serialRun = false → Undisturbed s1 k.part → s.want = none → s1.want = none →
      ∃ t, exec (.taskRetire n) s = .next t
        ∧ Logs s1 t 0x8012 k.index l.addr (fun u => { u with parts := t.parts, causes := t.causes, asker := s.asker })
        ∧ t.causes = s1.causes ++ [{ part := k.part, job := l.job, addr := 0, what := .rollback .digest }]
        ∧ ((t.part k.part).job l.job).mismatch = some (l.addr, BitVec.ofNat 64 k.index))

namespace Sys2Proof.Claims

/-- An entry with a code and an ADDR has joined the error log. -/
def Enters (s t : State) (code addr : Nat) : Prop :=
  t.errorCount = s.errorCount + 1
    ∧ ∃ e : BitVec 256, t.errors.getLast? = some e ∧ e.toNat / 2 ^ 48 % 2 ^ 16 = code ∧ e.toNat / 2 ^ 128 % 2 ^ 64 = addr % 2 ^ 64

/-- An entry with a code and an ADDR has joined the error log, and after it the 0x8017 of a job that fails (R87). -/
def Fails (s t : State) (p job code addr : Nat) : Prop :=
  ((t.part p).job job).state = .failed ∧ t.errorCount = s.errorCount + 2
    ∧ ∃ e f : BitVec 256, t.errors.drop (t.errors.length - 2) = [e, f] ∧ e.toNat / 2 ^ 48 % 2 ^ 16 = code
      ∧ e.toNat / 2 ^ 128 % 2 ^ 64 = addr % 2 ^ 64 ∧ f.toNat / 2 ^ 48 % 2 ^ 16 = 0x8017 ∧ f.toNat / 2 ^ 64 % 2 ^ 64 = job % 2 ^ 64

/-- The records that a checkpoint lists: those of the job with STATE 1 to 4, but for its own (R89). -/
def listed (s : State) (p job : Nat) (own : Option Nat) : List Nat :=
  ((s.part p).launches.filter (fun l =>
    decide (l.job = job ∧ (l.state = .posted ∨ l.state = .ready ∨ l.state = .dispatching ∨ l.state = .running) ∧ own ≠ some l.addr))).map
    Launch.addr

/-- Page 0 of a log (R89). -/
def pageZero (as : List Nat) : List Byte := toBytes 8 as.length ++ as.flatMap (fun a => toBytes 8 a)

/-- The state in which a job without a rollback under way runs (R95). -/
def runs (j : Job) : JobState := if j.serialRun then .serial else .open_

/-- Some record of the job's log lies at or beyond the reserve (R92). -/
def reserveReached (j : Job) : Bool :=
  j.log.any (fun f => decide ((f.pages - f.reserve) * 65536 < 65536 + 80 * j.records))

/-- A job rolls back, every task of it has left its tile, and every write that left for another module has its answer or went down with
its port, as which the model discards it (log 68). -/
def Drained_ (s : State) (p job : Nat) (f : LogFields) : Prop :=
  let j := (s.part p).job job
  s.jobLive p job = false ∧ Undisturbed s p ∧ j.state = .draining ∧ j.log = some f ∧ j.mismatch = none
    ∧ ∀ k ∈ j.draining, ∃ q ∈ s.ports, k ∈ q.2.lost

/-- The collected posts made again, in the order of the log, each appended to the emptied log (R90, R95). -/
def reposts (s : State) (p job : Nat) (posts : List Nat) : State := posts.foldl (fun s a => ((s.post p (some job) a).2).logPost p job a) s

/-- The state in which the posts of an interval are made again: the log is empty, and the records that are not listed are forgotten. -/
def emptied (s : State) (p job : Nat) : State :=
  s.setPart p { (s.part p).setJob { (s.part p).job job with records := 0, filters := [], state := .replaying } with
                launches := (s.part p).launches.filter (fun l => l.job != job) }

end Sys2Proof.Claims

/-- R88, R89, R95: the checkpoint that a job without tasks waits for takes effect. An explicit one posts its record's successors, writes
the pending list to page 0 of its log, gives its record STATE 5 and opens a new interval under its log fields; one whose list is longer than
8,191 records is rejected, which is the model's choice (log 39), and the interval stays as it was; an implicit one opens a new interval
under the log it had. What it needs of other modules is at hand (log 10). -/
def Sys2Proof.Claims.CheckpointsTakeEffect : Prop :=
  ∀ (s : State) (p job : Nat),
    let j := (s.part p).job job
    let s0 := tried s (.job p job)
    p < 16 → s.jobLive p job = false → Undisturbed s p → j.stopsTasks = false →
    Unhindered s (.job p job) (fun u => (u.takeCheckpoints p job).requestPreemption p) →
    (∀ r l s1, j.asked.filter Option.isSome = [some r] → (s.part p).launch? r = some l →
      let u := l.succs.foldl (fun s a => (s.post p (some job) a).2) s0
      let list := listed u p job (some r)
      let base := bits l.record.toNat 127 64
      list.length ≤ 8191 → (u.part p).launch? r = some l →
      writeLog u (u.dispatcher p (some job)) (linePieces base (pageZero list).length) (pageZero list) = .ok s1 →
      ∃ t, exec (.checkpointTakeEffect p job) s = .next t
        ∧ (t.part p).job job = { j with
            log := some { base := base, pages := bits l.record.toNat 223 192, reserve := bits l.record.toNat 255 224, record := some l.addr }
            records := 0, filters := [], rollbacks := 0, asked := [], stopped := j.stopped || j.stopAsked, state := runs j }
        ∧ (t.part p).launch? r = some { l with state := .retired } ∧ (∀ b, b ≠ r → (t.part p).launch? b = (u.part p).launch? b)
        ∧ t.memory = (s1.writeLaunch p { l with state := .retired }).memory)
    ∧ (∀ r l, j.asked.filter Option.isSome = [some r] → (s.part p).launch? r = some l →
      8191 < (listed (l.succs.foldl (fun s a => (s.post p (some job) a).2) s0) p job (some r)).length →
      ∃ t, exec (.checkpointTakeEffect p job) s = .next t ∧ Enters s t 0x8010 r
        ∧ ((t.part p).job job).log = j.log ∧ ((t.part p).job job).asked = []
        ∧ (t.part p).launch? r = some { l with state := .rejected } ∧ ∀ b, b ≠ r → (t.part p).launch? b = (s.part p).launch? b)
    ∧ (∀ f s1, j.asked = [none] → j.log = some f → (listed s p job none).length ≤ 8191 →
      writeLog s0 (s.dispatcher p (some job)) (linePieces f.base (pageZero (listed s p job none)).length) (pageZero (listed s p job none))
        = .ok s1 →
      ∃ t, exec (.checkpointTakeEffect p job) s = .next t ∧ t.memory = s1.memory ∧ (t.part p).launches = (s.part p).launches
        ∧ (t.part p).job job = { j with
            log := some f, records := 0, filters := [], rollbacks := 0, asked := [], stopped := j.stopped || j.stopAsked, state := runs j })

/-- R91, R95: the records of a log are read newest first from byte 65,536 on, 80 bytes each; a memory record restores its line, its glaze
bits and its poison, a kiln record its line, and the posts are collected in the order of the log. That a restored line is graded as its
page is now is the model's reading (log 56). -/
def Sys2Proof.Claims.RecordsAreApplied : Prop :=
  ∀ (s : State) (p own : Nat) (w : Who) (f : LogFields) (posts : List Nat),
    s.replayRecords p own w f 0 posts = (.ok posts, s)
    ∧ (∀ n g s1, s.readVirtual w .read (f.base + 65536 + 80 * n) 80 = (.ok g, s1) →
      (∀ a, g.poison = some a → s.replayRecords p own w f (n + 1) posts = (.error (.poison a), s1))
      ∧ (g.poison = none →
        let h := ofBytes (g.bytes.take 16)
        let addr := h / 2 ^ 64 % 2 ^ 64
        let line := fun i => nth 0 g.bytes (16 + i)
        let after := fun (u : State) => s.replayRecords p own w f (n + 1) posts = u.replayRecords p own w f n posts
        (∀ a, h % 16 = 1 → physicalOf s1.health (s.part p) addr = some a →
          ∃ u, after u ∧ (∀ i, readByte u.memory i = if a / 64 = i / 64 then line (i % 64) else readByte s1.memory i)
            ∧ (∀ i, mget 0 u.glaze i = if i = a / 64 then BitVec.ofNat 56 (h / 2 ^ 8 % 2 ^ 56) else mget 0 s1.glaze i)
            ∧ (∀ i, i ∈ u.badLines ↔ if i = a / 64 then h.testBit 4 = true else i ∈ s1.badLines)
            ∧ (∀ i, i ≠ a / 64 → mget 0 u.grades i = mget 0 s1.grades i)
            ∧ { u with memory := s1.memory, glaze := s1.glaze, badLines := s1.badLines, grades := s1.grades } = s1)
        ∧ (∀ d, h % 16 = 2 → (s.part p).dieList[addr / 2 ^ 25]? = some d →
          ∃ u, after u ∧ OnDie s1 u d (u.die d)
            ∧ (∀ i, readByte (u.die d).kiln i
                = if addr % 2 ^ 25 ≤ i ∧ i < addr % 2 ^ 25 + 64 then line (i - addr % 2 ^ 25) else readByte (s1.die d).kiln i)
            ∧ { u.die d with kiln := (s1.die d).kiln, badWords := (s1.die d).badWords } = s1.die d)
        ∧ (h % 16 = 3 → s.replayRecords p own w f (n + 1) posts = s1.replayRecords p own w f n (addr :: posts))))

/-- R92, R95, R99: once the tasks of a job that rolls back have stopped, its log is replayed: the records listed become again what their
STATUS says, the posts of the interval are made again, and the job runs, from an emptied log, unless this was the third rollback to its
checkpoint; posts that reach the reserve make it quiesce, and so does a listed checkpoint that stands at READY. While a write of the job to
another module is unanswered, the replay waits. A poisoned line of the log and a page of it that does not translate fail the job; that the
entries then have codes 0x8021 and 0x8015, and that a listed record that cannot be read is entered with code 0x8011 and forgotten, is the
model's choice (log 39, DESIGN CHOICE). A restored line is graded by log 56. What the replay itself needs of other modules is at hand
(log 10). -/
def Sys2Proof.Claims.ReplaysRestore : Prop :=
  ∀ (s : State) (p job : Nat) (f : LogFields),
    let j := (s.part p).job job
    let w := s.dispatcher p (some job)
    let own := ownRank s (s.part p) job
    let s0 := tried s (.job p job)
    p < 16 →
    (j.state = .draining → (∃ k ∈ j.draining, ∀ q ∈ s.ports, k ∉ q.2.lost) → exec (.logReplay p job) s = .refused (.notDue "LOG_REPLAY")) ∧
    (Drained_ s p job f → Unhindered s (.job p job) (fun u => (u.replay p job).requestPreemption p) →
    (∀ posts u v, s0.replayRecords p own w f j.records [] = (.ok posts, u) → u.readPending w f = (.ok [], v) →
      (∀ l ∈ (s.part p).launches, l.job = job → l.cell = none) →
      let z := reposts (emptied v p job) p job posts
      let again := ((z.part p).job job).asked
      let asked := again.filter Option.isSome ++ (if again.contains none then [none] else [])
      Undisturbed z p →
      ∃ t, exec (.logReplay p job) s = .next t
        ∧ (3 ≤ j.rollbacks → ((t.part p).job job).state = .failed)
        ∧ (j.rollbacks < 3 → t.memory = z.memory ∧ (t.part p).launches = (z.part p).launches ∧ t.errors = z.errors
          ∧ (t.part p).job job = { (z.part p).job job with
              state := if asked = [] then runs j else .quiescing, asked := asked, stopAsked := false, stopped := false }))
    ∧ (∀ u v a, s0.replayRecords p own w f j.records [] = (.ok [], u) → u.readPending w f = (.ok [a], v) →
      (∀ l ∈ (s.part p).launches, l.job = job → l.cell = none) → j.rollbacks < 3 →
      let z := emptied v p job
      (∀ status bs z1 z2,
        let r := ofBytes bs
        z.statusAt p (some job) a = (some status, z1) → z1.readDispatch p (some job) a 128 = (.ok bs, z2) → bits r 59 48 = job →
        (bits status 3 0 = 1 ∨ (bits r 1 0 ≠ 0 ∧ bits status 3 0 < 8) →
          ∃ t x, exec (.logReplay p job) s = .next t ∧ (t.part p).launch? a = some x ∧ x.state.number = bits status 3 0
            ∧ x.record = BitVec.ofNat 1024 r ∧ x.preds = usedPreds r ∧ x.dispatched = bits status 39 16 ∧ x.finished = bits status 63 40
            ∧ x.lacc = BitVec.ofNat 64 (bits r 959 896) ∧ t.memory = z2.memory
            ∧ (bits r 1 0 = 1 → bits status 3 0 = 2 →
                ((t.part p).job job).state = .quiescing ∧ some a ∈ ((t.part p).job job).asked)
            ∧ ∀ y ∈ (t.part p).launches, y.addr = a ∨ (y.job ≠ job ∧ y ∈ (s.part p).launches))
        ∧ (∀ old, 2 ≤ bits status 3 0 → bits status 3 0 ≤ 4 → bits r 1 0 = 0 → (s.part p).launch? a = some old → old.job = job →
          old.object.isSome = true → 2 ≤ old.state.number → old.state ≠ .retired →
          ∃ t x, exec (.logReplay p job) s = .next t ∧ (t.part p).launch? a = some x ∧ x.state.number = bits status 3 0
            ∧ x.dispatched = bits status 39 16 ∧ x.finished = bits status 63 40 ∧ x.object = old.object ∧ x.readyAt = old.readyAt))
      ∧ (∀ z1, z.statusAt p (some job) a = (none, z1) →
          ∃ t, exec (.logReplay p job) s = .next t ∧ Enters z1 t 0x8011 a ∧ ∀ y ∈ (t.part p).launches, y.job ≠ job))
    ∧ (∀ e s1, s0.replayRecords p own w f j.records [] = (.error (.fault e), s1) →
      ∃ t, exec (.logReplay p job) s = .next t ∧ Fails s1 t p job 0x8015 e)
    ∧ (∀ e s1, s0.replayRecords p own w f j.records [] = (.error (.poison e), s1) →
      ∃ t addr, exec (.logReplay p job) s = .next t ∧ Fails s1 t p job 0x8021 addr))

/-- R53, R92, R249: a STOP whose limit has expired is answered TIMEOUT, and its jobs open again, but for those that an explicit checkpoint
or a reached reserve keeps quiescing; a snapshot latches the tiles. -/
def Sys2Proof.Claims.TimeoutsAndSnapshots : Prop :=
  ∀ (s : State) (p : Nat),
    p < 16 →
    (∀ st, (s.part p).forced = none → (s.part p).imported = [] → (s.part p).stopping = some st → 1000 * st.limit ≤ (s.timeBase - st.since).toNat →
      s.control.waiting = [] → s.control.again = [] →
      ∃ t r, exec (.stopTimeout p) s = .next t ∧ (t.part p).stopping = none ∧ (t.part p).state = (s.part p).state
        ∧ t.control.sent = s.control.sent ++ [r] ∧ r.header.toNat / 2 ^ 32 % 2 ^ 8 = 6 ∧ r.header.getLsbD 40 = true ∧ r.payload = []
        ∧ r.header.toNat % 2 ^ 32 = st.request.toNat % 2 ^ 32 ∧ BitVec.extractLsb' 64 32 r.header = BitVec.extractLsb' 64 32 st.request
        ∧ (∀ job,
          let j := (s.part p).job job
          let left := if reserveReached j then j.asked else j.asked.filter Option.isSome
          (t.part p).job job = { j with
            asked := left, stopAsked := false, stopped := false
            state := if j.state = .quiescing ∧ left = [] then runs j else j.state })
        ∧ (∀ n, n ≠ p → t.part n = s.part n) ∧ { t with parts := s.parts, control := s.control } = s)
    ∧ (∀ due, s.snapshot.due = some due → due.toNat ≤ s.timeBase.toNat →
      ∃ t tiles free, exec .snapshotLatch s = .next t ∧ t.snapshot.latched = some (tiles, free) ∧ t.snapshot.due = none
        ∧ t.snapshot.early = none ∧ t.snapshot.mask = s.snapshot.mask
        ∧ (∀ n, mget {} tiles n = match s.snapshot.early with | some (m, x) => if n = m then x else s.tile n | none => s.tile n)
        ∧ { t with snapshot := s.snapshot, fresh := s.fresh } = s)

/-- R53, R88, R89, R91, R92, R95, R249: checkpoints take effect, explicit and implicit; a rolled back job's log is replayed record by
record, and its launches, posts and state come back; a STOP whose limit has expired is answered TIMEOUT and its jobs open again; a snapshot
latches the tiles. The fate of a checkpoint whose list is too long, and the codes 0x8015, 0x8021 and 0x8011 of what a replay cannot read,
are the model's choice (log 39, DESIGN CHOICE); the grade of a restored line is log 56 (DEDUCED); a write that went down with its port
counts as discarded (log 68, DESIGN CHOICE). -/
def Obligations.CheckpointsReplaysAndTimeouts : Prop := CheckpointsTakeEffect ∧ RecordsAreApplied ∧ ReplaysRestore ∧ TimeoutsAndSnapshots

namespace Sys2Proof.Claims

/-! ## The control port (R39 to R70, R249, R250) -/

/-- A request of a type that stands at the port, is the next in order, and may execute at once: its header is in order, PART is as
given, its payload is `body`, and nothing waits, of other modules either (log 10). -/
def Asks (s : State) (ty part : Nat) (body : List Byte) : Prop :=
  let m := s.control.arrived
  s.health.noPort = false ∧ s.health.recovery = false ∧ m.type = ty ∧ m.part = part ∧ m.resp = false ∧ m.reserved = false
    ∧ m.payload = body ∧ m.len = body.length ∧ body.length ≤ 8960
    ∧ s.control.isDuplicate m = false ∧ s.control.isNext m = true ∧ s.control.waiting = [] ∧ s.control.again = []
    ∧ s.control.times.all (fun x => x.1 != m.seq) = true ∧ AsksNothing s (fun a => a == .request m.header)
    ∧ (if part = 0xFF then ∀ q ∈ s.parts, q.2.busy = false else part < 16 ∧ (s.part part).busy = false)

/-- The state in which the request at the port executes: it has been accepted, and a partial image of its scope that it does not
continue is gone (R41, R46). -/
def received (s : State) : State :=
  ({ s with control := s.control.accept s.control.arrived } : State).dropImages s.control.arrived

/-- The request at the port has been answered with a status and a payload, and the answer is kept for duplicates (R40, R41). -/
def Answered (s t : State) (status : Nat) (payload : List Byte) : Prop :=
  let m := s.control.arrived
  ∃ r, t.control.sent = s.control.sent ++ [r] ∧ r.payload = payload
    ∧ r.header.toNat % 2 ^ 32 = m.header.toNat % 2 ^ 32 ∧ r.header.toNat / 2 ^ 32 % 256 = status ∧ r.header.getLsbD 40 = true
    ∧ r.header.toNat / 2 ^ 41 % 2 ^ 55 = m.header.toNat / 2 ^ 41 % 2 ^ 55 ∧ r.header.toNat / 2 ^ 96 = payload.length % 2 ^ 32
    ∧ t.control.next = some (m.seq + 1) ∧ t.control.kept.getLast? = some (m.seq, some r) ∧ t.control.waiting = []
    ∧ t.control.again = []

/-- An answer that changes nothing else. -/
def OnlyAnswered (s t : State) (status : Nat) (payload : List Byte) : Prop :=
  Answered s t status payload ∧ { t with control := (received s).control } = received s

/-- The types of R44. -/
def assigned : List Nat :=
  [0x01, 0x02, 0x03, 0x04, 0x10, 0x11, 0x12, 0x13, 0x14, 0x15, 0x20, 0x21, 0x22, 0x23, 0x24, 0x25, 0x30, 0x31, 0x32, 0x33, 0x34,
   0x35, 0x36, 0x40, 0x50, 0x51, 0x52]

/-- The step that takes the request at the port. -/
def stepOf (m : Message) : Instr :=
  let first := ofBytes (m.payload.take 1)
  match m.type with
  | 0x01 => .info
  | 0x02 => .recordClear
  | 0x03 => .powerCap
  | 0x04 => .firmwareImage
  | 0x10 => .partCreate
  | 0x11 => .partDestroy
  | 0x12 => .monitorLoad
  | 0x13 => .keyInstall
  | 0x14 => .keyClear
  | 0x15 => if first = 1 then .partConfigReplace else if first = 2 then .partConfigAppend else .partConfigRead
  | 0x20 => .memWrite
  | 0x21 => .memRead
  | 0x22 => .memWriteRaw
  | 0x23 => .memReadRaw
  | 0x24 => .kilnRead
  | 0x25 => .kilnWrite
  | 0x30 => .chainPost
  | 0x31 => .stop
  | 0x32 => .forceStop
  | 0x33 => .resume
  | 0x34 => .dirtyScan
  | 0x35 => .stateExport
  | 0x36 => .stateImport
  | 0x40 => .attest
  | 0x50 => .errorRead
  | 0x51 => if ofBytes (m.payload.take 4) = 0 then .snapshotTrigger else .snapshotArm
  | 0x52 => .snapshotRead
  | _ => .unassignedType

/-- A page of a partition as the control port's requests find it: the walk leads to a leaf with a right, no cache holds an entry of
it, and the page is of this module alone, plain and of the grade of its line. -/
def MapsLine (s : State) (p : Nat) (right : Right) (va : Nat) (k : Walked) (l : Leaf) : Prop :=
  let w := s.dispatcher p none
  (s.die w.die).cache = [] ∧ walk s (s.part p) va 3 1 (s.part p).root.toNat = .ok k ∧ checkLeaf s w right va k = .ok l
    ∧ l.key = 0 ∧ l.shared = false ∧ l.foreign = false ∧ mget 0 s.grades (l.phys / 64) = l.grade

/-- A section of R57 with an 8-byte head. -/
def sectionBytes (kind : Nat) (body : List Byte) : List Byte :=
  toBytes 1 kind ++ [0] ++ toBytes 2 body.length ++ toBytes 4 0 ++ body

end Sys2Proof.Claims

/-- R41, R44: the duplicate of a request that has been answered gets the kept response again, and one of a request that has not waits for
it; an unassigned type gets BAD_TYPE and has no effect; a request of any type that is out of sequence is discarded. That one of an
unassigned type leaves a partial image of its scope as it stands is the model's reading of R44 beside R46 (log 21); that a request may
have any STATUS, HOLD and FORCE, which count only where its type uses them, is its choice (log 75). -/
def Obligations.RequestsAreTakenInOrder : Prop :=
  ∀ s : State,
    let m := s.control.arrived
    let c := s.control
    (∀ q r, s.health.noPort = false → m.resp = false → c.kept.find? (fun k => k.1 == m.seq) = some (q, some r) →
      exec .duplicateRequest s = .next { s with control := { c with sent := c.sent ++ [r] } })
    ∧ (∀ q, s.health.noPort = false → m.resp = false → c.kept.find? (fun k => k.1 == m.seq) = some (q, none) →
      exec .duplicateRequest s = .next { s with control := { c with again := c.again ++ [m.seq] } })
    ∧ (∀ ty part body, ty ∉ assigned → Asks s ty part body →
      ∃ t, exec .unassignedType s = .next t ∧ Answered s t 1 [] ∧ { t with control := s.control } = s)
    ∧ (s.health.noPort = false → m.resp = false → c.isDuplicate m = false → c.isNext m = false → exec (stepOf m) s = .next s)

/-- R33, R44 to R46, R63, R69, R70, R249, R250: the module-scope requests: INFO, RECORD_CLEAR, POWER_CAP, a firmware image in one piece,
ATTEST, ERROR_READ from the first entry, and the snapshot's trigger, arming and reading. That a trigger replaces an arming, and an arming
a pending trigger, is the model's choice (log 22). -/
def Obligations.ModuleRequestsAct : Prop :=
  ∀ s : State,
    let u := received s
    (Asks s 0x01 0xFF [] →
      ∃ t b, exec .info s = .next t ∧ OnlyAnswered s t 0 b ∧ b.take 16 = toBytes 8 s.stepping.toNat ++ toBytes 8 s.serial.toNat
        ∧ (b.drop 184).take 2 = toBytes 2 s.flash.length
        ∧ (b.drop 192).take (16 * s.flash.length) = s.flash.flatMap FlashRecord.bytes)
    ∧ (Asks s 0x02 0xFF [] → ∃ t, exec .recordClear s = .next t ∧ Answered s t 0 [] ∧ { t with control := u.control } = { u with flash := [] })
    ∧ (∀ w, Asks s 0x03 0xFF (toBytes 4 w) → w < 2 ^ 32 →
      (1000 ≤ w → w ≤ 4400 →
        ∃ t, exec .powerCap s = .next t ∧ Answered s t 0 [] ∧ { t with control := u.control } = { u with powerCap := w })
      ∧ (w < 1000 ∨ 4400 < w → ∃ t, exec .powerCap s = .next t ∧ OnlyAnswered s t 4 []))
    ∧ (∀ image, s.control.firmware = none → 512 ≤ image.length → image.length ≤ 8944 →
      Asks s 0x04 0xFF (toBytes 4 image.length ++ toBytes 4 0 ++ toBytes 4 image.length ++ toBytes 4 0 ++ image) →
      (Config.signatureHolds image = true →
        ∃ t, exec .firmwareImage s = .next t ∧ Answered s t 0 [] ∧ mfind (1 - s.bootSlot) t.slots = some image
          ∧ t.primary = 1 - s.bootSlot ∧ (∀ k, k ≠ 1 - s.bootSlot → mfind k t.slots = mfind k s.slots)
          ∧ { t with control := u.control, slots := u.slots, primary := u.primary } = u)
      ∧ (Config.signatureHolds image = false → ∃ t, exec .firmwareImage s = .next t ∧ OnlyAnswered s t 9 []))
    ∧ (∀ nonce, nonce.length = 64 → Asks s 0x40 0xFF nonce → s.health.noKeys = false →
      ∃ t b, exec .attest s = .next t ∧ OnlyAnswered s t 0 (b ++ toBytes 512 (Config.sign b).toNat) ∧ b.length = 352 ∧ b.take 64 = nonce
        ∧ (b.drop 64).take 64 = toBytes 64 s.mf.toNat)
    ∧ (∀ n, 1 ≤ n → n ≤ 256 → Asks s 0x50 0xFF (toBytes 4 0 ++ toBytes 2 n ++ toBytes 2 0) → s.errors.length ≤ n →
      s.errorCount = s.errors.length →
      ∃ t, exec .errorRead s = .next t
        ∧ OnlyAnswered s t 0 (toBytes 4 s.errorCount ++ toBytes 4 s.overflow ++ toBytes 2 s.errors.length ++ toBytes 6 0
            ++ s.errors.flatMap (fun e => toBytes 32 e.toNat)))
    ∧ (Asks s 0x51 0xFF [] → s.snapshot.latched = none →
      ∃ t, exec .snapshotTrigger s = .next t ∧ Answered s t 0 []
        ∧ { t with control := u.control } = { u with snapshot := { s.snapshot with due := some (s.timeBase + 1000), mask := 0, early := none } })
    ∧ (∀ mask : Lane, mask ≠ 0 → Asks s 0x51 0xFF (toBytes 4 mask.toNat) → s.snapshot.latched = none →
      ∃ t, exec .snapshotArm s = .next t ∧ Answered s t 0 []
        ∧ { t with control := u.control } = { u with snapshot := { s.snapshot with due := none, mask := mask, early := none } })
    ∧ (∀ x n off len, s.snapshot.latched = some x → n < 0x400 → 1 ≤ len → off + len ≤ 512 →
      Asks s 0x52 0xFF (toBytes 2 n ++ toBytes 2 0 ++ toBytes 4 off ++ toBytes 4 len) →
      ∃ t b, exec .snapshotRead s = .next t ∧ OnlyAnswered s t 0 b ∧ b = (((mget {} x.1 n).snapshotBytes x.2).drop off).take len
        ∧ (off = 0 → 8 ≤ len → b.take 8 = toBytes 8 (mget {} x.1 n).pc.toNat))

/-- R49, R50, R52, R54, R57, R61, R62: the requests that make, load, configure and destroy a partition and fill its key slots. That
a read returns a configuration that has been written and has still to take effect (log 51), and its sections by KIND (log 74), is the
model's choice. -/
def Obligations.PartitionRequestsAct : Prop :=
  ∀ (s : State) (p : Nat),
    let u := received s
    p < 16 →
    (∀ mask flags base count window, mask < 2 ^ 16 → flags < 2 → base < 2 ^ 16 → count < 2 ^ 16 → window < 2 ^ 55 →
      Asks s 0x10 p (toBytes 2 mask ++ toBytes 1 flags ++ toBytes 1 0 ++ toBytes 2 base ++ toBytes 2 count ++ toBytes 8 window) →
      (s.part p).state = .free → mask ≠ 0 → (flags = 0 → window = 0) →
      (∀ d, d < 16 → mask.testBit d = true → dieAvailable s.health d = true ∧ u.ownedByOther p d = false) →
      (∀ x ∈ apartPairs s.health, (mask.testBit x.1 && mask.testBit x.2) = false) → u.badKeys p base count = false →
      s.health.noKeys = false →
      ∃ t, exec .partCreate s = .next t ∧ Answered s t 0 []
        ∧ OnPart u { t with control := u.control } p
            { state := .created, dies := BitVec.ofNat 16 mask, sealed_ := flags == 1, xwin := BitVec.ofNat 64 window, keyBase := base
              keyCount := count })
    ∧ (Asks s 0x11 p [] → (s.part p).state ≠ .free →
      let own := fun d => (s.part p).dies.getLsbD d
      ∃ t, exec .partDestroy s = .next t ∧ Answered s t 0 [] ∧ t.part p = {} ∧ (∀ q, q ≠ p → t.part q = s.part q)
        ∧ (∀ n, t.tile n = if own (n / 64) then {} else s.tile n)
        ∧ (∀ d, own d = true → (t.die d).kiln = [] ∧ (t.die d).shadow = []) ∧ (∀ d, own d = false → t.die d = s.die d)
        ∧ (∀ a, readByte t.memory a = if own (ownerDie s.health (a / 64 * 64)) then 0 else readByte s.memory a)
        ∧ (∀ k, mfind k t.keys = if (s.part p).ownsSlot k then none else mfind k s.keys))
    ∧ (∀ k wrapped, k < 2 ^ 16 → wrapped.length = 512 → Asks s 0x13 p (toBytes 2 k ++ toBytes 6 0 ++ wrapped) →
      (s.part p).state ≠ .free → (s.part p).ownsSlot k = true → mfind k s.keys = none → s.health.noKeys = false →
      (∀ key, Config.unwrap wrapped = some key →
        ∃ t, exec .keyInstall s = .next t ∧ Answered s t 0 []
          ∧ (∀ j, mfind j t.keys = if j = k then some key else mfind j s.keys) ∧ { t with control := u.control, keys := u.keys } = u)
      ∧ (Config.unwrap wrapped = none → ∃ t, exec .keyInstall s = .next t ∧ OnlyAnswered s t 9 []))
    ∧ (∀ k, k < 2 ^ 16 → Asks s 0x14 p (toBytes 2 k ++ toBytes 6 0) → (s.part p).state ≠ .free → (s.part p).ownsSlot k = true →
      ∃ t, exec .keyClear s = .next t ∧ Answered s t 0 [] ∧ (∀ j, mfind j t.keys = if j = k then none else mfind j s.keys)
        ∧ { t with control := u.control, keys := u.keys } = u)
    ∧ (Asks s 0x15 p (toBytes 8 0) → (s.part p).state ≠ .free →
      let xs := ((s.part p).staged.getD (s.part p).config).sections
      (xs.flatMap ConfigSection.bytes).length ≤ 8952 →
      ∃ t, exec .partConfigRead s = .next t
        ∧ OnlyAnswered s t 0 (toBytes 2 0 ++ toBytes 2 xs.length ++ toBytes 4 0xFFFFFFFF ++ xs.flatMap ConfigSection.bytes))
    ∧ (∀ d, d < 256 → Asks s 0x15 p (toBytes 1 1 ++ toBytes 1 0 ++ toBytes 2 1 ++ toBytes 4 0 ++ sectionBytes 0 (toBytes 8 d)) →
      (s.part p).state = .created ∨ (s.part p).state = .stopped → u.selfAgrees p { self := some d } = true →
      ∃ t, exec .partConfigReplace s = .next t ∧ Answered s t 0 []
        ∧ OnPart u { t with control := u.control } p { u.part p with staged := some { self := some d } })
    ∧ (∀ d job, d < 256 → job < 4096 →
      Asks s 0x15 p (toBytes 1 2 ++ toBytes 1 0 ++ toBytes 2 1 ++ toBytes 4 0
        ++ sectionBytes 1 (toBytes 2 job ++ toBytes 2 1 ++ toBytes 4 0 ++ toBytes 1 d)) →
      (s.part p).state = .created ∨ (s.part p).state = .stopped → (s.part p).staged = some { self := some d } →
      u.selfAgrees p { self := some d } = true →
      ∃ t, exec .partConfigAppend s = .next t ∧ Answered s t 0 []
        ∧ OnPart u { t with control := u.control } p { u.part p with staged := some { self := some d, ranks := [(job, [d])] } })
    ∧ (∀ load root vbase entry (image : List Byte),
      let head := toBytes 8 load ++ toBytes 8 root ++ toBytes 8 vbase ++ toBytes 4 entry ++ toBytes 4 image.length ++ toBytes 4 0
        ++ toBytes 4 image.length ++ toBytes 8 0
      load < 2 ^ 64 → root < 2 ^ 64 → vbase < 2 ^ 64 → entry < 2 ^ 32 → image.length ≤ 64 → Asks s 0x12 p (head ++ image) →
      s.control.arrived.hold = true → (s.part p).state = .created → (s.part p).image = none →
      badMonitorHead s.health (s.part p) (head ++ image) = false →
      ∃ t a, exec .monitorLoad s = .next t ∧ Answered s t 0 [] ∧ physicalOf s.health (s.part p) load = some a
        ∧ t.part p = { s.part p with
            mm := extend (s.part p).mm image, root := BitVec.ofNat 64 root, mbase := BitVec.ofNat 64 vbase, svec := BitVec.ofNat 64 vbase
            entry := entry, total := image.length, state := .stopped }
        ∧ (∀ i, i < image.length → readByte t.memory (a + i) = nth 0 image i)
        ∧ (∀ i, i < a ∨ a + image.length ≤ i → readByte t.memory i = readByte s.memory i)
        ∧ (∀ q, q ≠ p → t.part q = s.part q) ∧ (∀ n, t.tile n = s.tile n))

/-- R47, R55, R64 to R67: the requests that move plain memory, raw lines and kiln lines of a partition, and the dirty scan. -/
def Sys2Proof.Claims.TransfersAct : Prop :=
  ∀ (s : State) (p : Nat),
    let u := received s
    let reach := (s.part p).state = .running ∨ (s.part p).state = .stopped
    p < 16 → (s.part p).sealed_ = false →
    (∀ va k l (bs : List Byte), va < 2 ^ 55 → 1 ≤ bs.length → va % 64 + bs.length ≤ 64 → reach → MapsLine u p .write va k l →
      l.entry.getLsbD 12 = true →
      Asks s 0x20 p (toBytes 8 va ++ toBytes 4 bs.length ++ toBytes 4 0 ++ bs) →
      ∃ t, exec .memWrite s = .next t ∧ Answered s t 0 []
        ∧ (∀ i, i < bs.length → readByte t.memory (l.phys / 64 * 64 + va % 64 + i) = nth 0 bs i)
        ∧ (∀ i, i < l.phys / 64 * 64 + va % 64 ∨ l.phys / 64 * 64 + va % 64 + bs.length ≤ i → readByte t.memory i = readByte s.memory i)
        ∧ (∀ n, t.tile n = s.tile n))
    ∧ (∀ va n k l, va < 2 ^ 55 → 1 ≤ n → va % 64 + n ≤ 64 → reach → MapsLine u p .read va k l → l.phys / 64 ∉ s.badLines →
      Asks s 0x21 p (toBytes 8 va ++ toBytes 4 n ++ toBytes 4 0) →
      ∃ t, exec .memRead s = .next t ∧ Answered s t 0 (readBytes s.memory (l.phys / 64 * 64 + va % 64) n) ∧ t.memory = s.memory
        ∧ (∀ n, t.tile n = s.tile n))
    ∧ (∀ va k l (bs : List Byte) glaze poison, va < 2 ^ 55 → va % 64 = 0 → bs.length = 64 → glaze < 2 ^ 56 → poison < 2 →
      (s.part p).state = .stopped → MapsLine u p .write va k l → l.entry.getLsbD 12 = true →
      Asks s 0x22 p (toBytes 8 va ++ toBytes 4 1 ++ toBytes 4 0 ++ bs ++ toBytes 7 glaze ++ toBytes 1 poison ++ toBytes 8 0) →
      ∃ t, exec .memWriteRaw s = .next t ∧ Answered s t 0 [] ∧ readBytes t.memory (l.phys / 64 * 64) 64 = bs
        ∧ (∀ i, i < l.phys / 64 * 64 ∨ l.phys / 64 * 64 + 64 ≤ i → readByte t.memory i = readByte s.memory i)
        ∧ (mget 0 t.glaze (l.phys / 64)).toNat = glaze % 2 ^ glazeBits l.grade ∧ (l.phys / 64 ∈ t.badLines ↔ poison = 1))
    ∧ (∀ va k l, va < 2 ^ 55 → va % 64 = 0 → reach → MapsLine u p .read va k l →
      Asks s 0x23 p (toBytes 8 va ++ toBytes 4 1 ++ toBytes 4 0) →
      ∃ t, exec .memReadRaw s = .next t ∧ t.memory = s.memory
        ∧ Answered s t 0 (readBytes s.memory (l.phys / 64 * 64) 64
            ++ toBytes 7 ((mget 0 s.glaze (l.phys / 64)).toNat % 2 ^ glazeBits l.grade)
            ++ toBytes 1 (if l.phys / 64 ∈ s.badLines then 1 else 0) ++ toBytes 8 0))
    ∧ (∀ die off, die < (s.part p).dieList.length → off % 64 = 0 → off + 64 ≤ 2 ^ 25 →
      let d := nth 0 (s.part p).dieList die
      let head := toBytes 1 die ++ toBytes 3 0 ++ toBytes 4 off ++ toBytes 4 1 ++ toBytes 4 0
      (reach → Asks s 0x24 p head →
        ∃ t, exec .kilnRead s = .next t
          ∧ OnlyAnswered s t 0 (readBytes (s.die d).kiln off 64 ++ toBytes 7 0 ++ toBytes 1 (if (s.die d).kilnPoison off 64 then 1 else 0)
              ++ toBytes 8 0))
      ∧ (∀ bs : List Byte, bs.length = 64 → (s.part p).state = .stopped → Asks s 0x25 p (head ++ bs ++ toBytes 16 0) →
        ∃ t, exec .kilnWrite s = .next t ∧ Answered s t 0 [] ∧ readBytes (t.die d).kiln off 64 = bs
          ∧ (∀ i, i < off ∨ off + 64 ≤ i → readByte (t.die d).kiln i = readByte (s.die d).kiln i)
          ∧ (∀ w, w ∈ (t.die d).badWords ↔ w ∈ (s.die d).badWords ∧ ¬(off / 8 ≤ w ∧ w < off / 8 + 8))
          ∧ (∀ j, j ≠ d → t.die j = s.die j) ∧ { t with control := u.control, dies := u.dies } = u))
    ∧ (∀ va n, va % 65536 = 0 → 1 ≤ n → va + 65536 * n ≤ 2 ^ 55 → n ≤ 65536 → reach → (s.part p).dirtyMap = [] →
      Asks s 0x34 p (toBytes 8 va ++ toBytes 4 n ++ toBytes 4 0) →
      ∃ t, exec .dirtyScan s = .next t ∧ Answered s t 0 (List.replicate ((n + 7) / 8) 0) ∧ t.memory = s.memory
        ∧ (∀ q, q ≠ p → t.part q = s.part q) ∧ t.part p = u.part p)
    ∧ (∀ va k, va % 65536 = 0 → va + 65536 ≤ 2 ^ 55 → reach → va / 2 ^ 29 ∈ (s.part p).dirtyMap →
      walk u (s.part p) va 3 1 (s.part p).root.toNat = .ok k → k.entry.testBit 12 = true →
      Asks s 0x34 p (toBytes 8 va ++ toBytes 4 1 ++ toBytes 4 0) →
      ∃ t, exec .dirtyScan s = .next t ∧ Answered s t 0 [1]
        ∧ (∀ a, readByte t.memory a = if a = k.place + 1 then readByte s.memory a &&& 0xEF else readByte s.memory a)
        ∧ (∀ d, ∀ e ∈ (t.die d).cache, e.home ≠ k.place))

/-- R55, R64, R65, R127: transfers that reach over several lines of a page, and the first write through an entry whose dirty bit is clear,
which sets the bit in the table and marks every 512 MiB region that the entry maps. -/
def Sys2Proof.Claims.TransfersReachFurther : Prop :=
  ∀ (s : State) (p : Nat) (va : Nat) (k : Walked) (l : Leaf),
    let u := received s
    let reach := (s.part p).state = .running ∨ (s.part p).state = .stopped
    let start := l.phys / 64 * 64 + va % 64
    p < 16 → (s.part p).sealed_ = false → va < 2 ^ 55 → reach →
    (∀ bs : List Byte, 1 ≤ bs.length → va % 65536 + bs.length ≤ 65536 → bs.length ≤ 8944 → MapsLine u p .write va k l →
      (physicalOf s.health (s.part p) (l.ppa + bs.length - 1)).isSome = true → WalksAround u p start (start + bs.length) va k →
      Asks s 0x20 p (toBytes 8 va ++ toBytes 4 bs.length ++ toBytes 4 0 ++ bs) →
      (l.entry.getLsbD 12 = true →
        ∃ t, exec .memWrite s = .next t ∧ Answered s t 0 [] ∧ (∀ n, t.tile n = s.tile n)
          ∧ ∀ i, readByte t.memory i = if start ≤ i ∧ i < start + bs.length then nth 0 bs (i - start) else readByte s.memory i)
      ∧ (l.entry.getLsbD 12 = false →
        ∃ t, exec .memWrite s = .next t ∧ Answered s t 0 []
          ∧ (∀ i, readByte t.memory i = if start ≤ i ∧ i < start + bs.length then nth 0 bs (i - start)
              else if i = k.place + 1 then readByte s.memory i ||| 0x10 else readByte s.memory i)
          ∧ let size := 2 ^ (16 + 13 * (3 - k.level))
            ∀ x, x ∈ (t.part p).dirtyMap ↔ x ∈ (s.part p).dirtyMap ∨ (va / size * size / 2 ^ 29 ≤ x ∧ 2 ^ 29 * x < va / size * size + size)))
    ∧ (∀ n, 1 ≤ n → va % 65536 + n ≤ 65536 → n ≤ 8960 → MapsLine u p .read va k l →
      (physicalOf s.health (s.part p) (l.ppa + n - 1)).isSome = true →
      (∀ j, j ≤ (start + n - 1) / 64 - start / 64 → start / 64 + j ∉ s.badLines ∧ mget 0 s.grades (start / 64 + j) = l.grade) →
      Asks s 0x21 p (toBytes 8 va ++ toBytes 4 n ++ toBytes 4 0) →
      ∃ t, exec .memRead s = .next t ∧ Answered s t 0 (readBytes s.memory start n) ∧ t.memory = s.memory ∧ (∀ n, t.tile n = s.tile n))

/-- R47, R55, R64 to R67, R127: the requests that move plain memory, raw lines and kiln lines of a partition, within a line and over
several; the dirty bit and the regions that a first write marks, and the dirty scan. -/
def Obligations.TransferRequestsAct : Prop := TransfersAct ∧ TransfersReachFurther

/-- R42, R48, R51, R53, R75, R102: CHAIN_POST posts its record as every post does, and a record that does not translate is answered FAULT
with its address; STOP and FORCE_STOP of a partition without jobs stop it at once, and with an open job they wait for its checkpoint or its
rollback; RESUME lets a stopped partition whose monitor has begun and that has no job run; the export lists what is pending and the import
keeps a launch record, but for one whose STATUS sets a reserved bit, which is BAD_ARG (log 51). That a CHAIN_POST in STOPPED posts its record at once, and when a STOP completes, is the model's reading of R53
(log 25). -/
def Obligations.WorkRequestsAct : Prop :=
  ∀ (s : State) (p : Nat),
    let u := received s
    p < 16 →
    (∀ a v w bs, a < 2 ^ 55 → a % 128 = 0 → (s.part p).state = .running ∨ (s.part p).state = .stopped → Asks s 0x30 p (toBytes 8 a) →
      let asker := Asker.request s.control.arrived.header
      (tried u asker).post p none a = (none, v) → v.readDispatch p none a 128 = (.ok bs, w) →
      ((w.part p).job (field (ofBytes bs) 59 48)).logged = false →
      w.want = none → AsksNothing w (fun q => q == asker) → v.control = u.control → w.control = u.control →
      ∃ t, exec .chainPost s = .next t ∧ Answered s t 0 [] ∧ { t with control := u.control } = { w with want := s.want, asker := s.asker })
    ∧ (∀ a, a < 2 ^ 55 → a % 128 = 0 → (s.part p).state = .running ∨ (s.part p).state = .stopped → Asks s 0x30 p (toBytes 8 a) →
      (∀ r l, HoldsRecord u p a r l → ((s.part p).job (r / 2 ^ 48 % 4096)).logged = false →
        ∃ t, exec .chainPost s = .next t ∧ Answered s t 0 [] ∧ Posts u { t with control := u.control } p a r l)
      ∧ (∀ e, (u.die (u.dispatcher p none).die).cache = [] → walk u (u.part p) a 3 1 (u.part p).root.toNat = .error e →
        ∃ t, exec .chainPost s = .next t ∧ Answered s t 8 (toBytes 8 a) ∧ Logs u { t with control := u.control } 0x8011 a a id))
    ∧ (∀ limit, 1000 ≤ limit → limit ≤ 60000000 → (s.part p).state = .running → Asks s 0x31 p (toBytes 4 limit ++ toBytes 4 0) →
      ((s.part p).jobs = [] → (s.part p).launches = [] →
        ∃ t, exec .stop s = .next t ∧ Answered s t 0 [] ∧ (t.part p).state = .stopped ∧ (t.part p).stopping = none)
      ∧ (∀ j, (s.part p).jobs = [j] → j.state = .open_ → j.asked = [] →
        ∃ t, exec .stop s = .next t ∧ t.control.sent = s.control.sent ∧ (t.part p).state = .running
          ∧ (t.part p).stopping = some { request := s.control.arrived.header, since := s.timeBase, limit := limit }
          ∧ (t.part p).jobs = [{ j with state := .quiescing, stopAsked := true, stopped := false, asked := [none] }]))
    ∧ ((s.part p).state = .running → Asks s 0x32 p [] →
      ((s.part p).jobs = [] → (s.part p).launches = [] →
        ∃ t, exec .forceStop s = .next t ∧ Answered s t 0 [] ∧ (t.part p).state = .stopped)
      ∧ (∀ j, (s.part p).jobs = [j] → (s.part p).launches = [] → j.state = .open_ →
        ∃ t, exec .forceStop s = .next t ∧ t.control.sent = s.control.sent ∧ (t.part p).forced = some s.control.arrived.header
          ∧ ((t.part p).job j.num).state = .draining ∧ ((t.part p).job j.num).rollbacks = j.rollbacks + 1))
    ∧ ((s.part p).state = .stopped → Asks s 0x33 p [] → (s.part p).begun = true → (s.part p).staged = none → (s.part p).imported = [] →
      (s.part p).jobs = [] →
      ∃ t, exec .resume s = .next t ∧ Answered s t 0 [] ∧ (t.part p).state = .running ∧ (∀ q, q ≠ p → t.part q = s.part q)
        ∧ { t with control := u.control, parts := u.parts } = u)
    ∧ ((s.part p).state = .stopped → Asks s 0x35 p (toBytes 4 0) → (u.exports p).flatten.length ≤ 8944 →
      ∃ t, exec .stateExport s = .next t
        ∧ OnlyAnswered s t 0 (toBytes 4 (u.exports p).length ++ toBytes 4 0xFFFFFFFF ++ toBytes 4 (u.exports p).length ++ toBytes 4 0
            ++ (u.exports p).flatten))
    ∧ (∀ addr status lacc, addr < 2 ^ 64 → status < 2 ^ 64 → (s.part p).state = .stopped →
      let x := toBytes 1 1 ++ toBytes 7 0 ++ toBytes 8 addr ++ toBytes 8 status ++ toBytes 8 lacc ++ toBytes 32 0
      Asks s 0x36 p (toBytes 4 1 ++ toBytes 4 0 ++ x) →
      (bits status 7 4 = 0 → bits status 15 12 = 0 → bits status 3 0 < 8 →
        ∃ t, exec .stateImport s = .next t ∧ Answered s t 0 []
          ∧ OnPart u { t with control := u.control } p { u.part p with imported := (s.part p).imported ++ [x] })
      ∧ (bits status 7 4 ≠ 0 ∨ bits status 15 12 ≠ 0 → ∃ t, exec .stateImport s = .next t ∧ OnlyAnswered s t 4 []))

namespace Sys2Proof.Claims

/-! ## Words of the code stream (R279 to R285, R303 to R310) -/

/-- A move word from its fields E, B, G, S and D (R279). -/
def word (e b g s d : Nat) : Lane := BitVec.ofNat 32 (e * 2 ^ 31 + b * 2 ^ 25 + g * 2 ^ 20 + s * 2 ^ 10 + d)

/-- Words with the step they stand for, none where they are no legal step. -/
def wordRows : List (List Lane × Option Instr) :=
  let on (b : Bus) (g : Guard) (s : Source) : Move := { last := true, bus := b, guard := g, src := s }
  [([word 0 33 0 0x003 0x007], some (.move { last := false, bus := .tile 1, guard := .always, src := .reg 3 } (.reg 7))),
   ([word 1 39 0 0x1FF 0x105, 0x12345678], some (.move (on (.tile 7) .always (.long 0x12345678)) (.port 0x05))),
   ([word 1 32 0b00101 0x3FF 0x1A1], some (.saSub (on (.tile 0) (.test 5 false) (.short 0x1FF)) true)),
   ([word 1 33 0 0x012 0x1C5], some (.smDivu (on (.tile 1) .always (.reg 0x12)))),
   ([word 1 34 0b11110 0x142 0x1D2], some (.lsSt32 (on (.tile 2) (.test 14 true) (.result 0x42)))),
   ([word 1 35 0 0x001 0x1D9], some (.ctlCall (on (.tile 3) .always (.reg 1)))),
   ([word 1 36 0 0x022 0x1EA], some (.sySemadd (on (.tile 4) .always (.reg 0x22)))),
   ([word 1 37 0 0x200 0x205], some (.cpGo (on (.tile 5) .always (.short 0)) 5)),
   ([word 1 38 0 0x2FF 0x211], some (.mxMmd (on (.tile 6) .always (.short 0xFF)))),
   ([word 1 32 0 0x106 0x221], some (.knCas (on (.tile 0) .always (.result 0x06)))),
   ([word 1 32 0 0x01F 0x228], some (.lkSend (on (.tile 0) .always (.reg 31)))),
   ([word 1 26 0 0x100 0x182], some (.vaAddw (on (.cluster 6 2) .always (.result 0x00)))),
   ([word 1 0 0b00011 0x02F 0x1C2], some (.vpPmul (on (.cluster 0 0) (.test 3 false) (.reg 0x2F)))),
   ([word 1 31 0 0x01E 0x1E1], some (.vqQmac1 (on (.cluster 7 3) .always (.reg 30)))),
   ([word 1 4 0 0x106 0x1F4], some (.vcCvo (on (.cluster 1 0) .always (.result 0x06)))),
   ([word 1 41 0b10011 0x004 0x1F8], some (.vmLd (on (.fan 1) (.test 3 true) (.reg 4)))),
   ([word 1 3 0 0x005 0x201], some (.vxXbc (on (.cluster 0 3) .always (.reg 5)))),
   ([word 1 43 0 0x104 0x204], some (.vfFeval (on (.fan 3) .always (.result 0x04)))),
   ([0xFE000000], some .filler),
   ([0x40001D6D], some (.move { last := false, bus := .tile 0, guard := .always, src := .reg 7 } (.port 0x6D))),
   ([0x2A0009FB], some (.vmSt { last := false, bus := .cluster 5 1, guard := .always, src := .reg 2 })),
   ([0x42040905], some (.move { last := false, bus := .tile 1, guard := .always, src := .result 0x02 } (.port 0x05))),
   ([0xD0040409], some (.move (on (.fan 0) .always (.result 0x01)) (.reg 9))),
   ([word 1 44 0 0 0], none), ([word 1 32 0b10000 0 0], none), ([word 1 32 0 0x030 0], none), ([word 1 32 0 0 0x020], none),
   ([word 1 32 0 0 0x230], none), ([word 1 3 0 0 0x202], none), ([word 1 32 0 0x1FF 0], none)]

end Sys2Proof.Claims

/-! ## The machine as a whole -/

/-- R190, R191: where nothing waits to be acted on and nothing of the outside world is due, a step issues the bundle at the current
tile's pc, after the redirects that fall due: it is exec of the instruction that the words there decode to, when that one ends its
bundle, and the cycle of BUNDLE_ISSUE whatever the words hold; BUNDLE_ISSUE of a tile is that cycle of the tile. What no rule says is the
model's choice: that steps take one tile after another (log 2), that a tile with no cycle lets one count of the time base pass, and that
one whose task waits for code of other modules tries its start again and lets a count pass while that has not come (log 12), that what the
dispatcher has been asked comes first, then the next happening, which is exec of its step once its counts have passed and its message
stands at the port (log 3). -/
def Obligations.StepRunsDecodedInstruction : Prop :=
  ∀ s : State,
    (s.causes = [] → s.agenda = [] → s.cur < 1024 → s.here.canIssue = true →
      (∀ i rest, decodeWords s.here.start.codeAt.1 = some (i, rest) → (∀ x, i.parts = some x → x.1.last = true) →
        step s = exec i s)
      ∧ step s = exec (.bundleIssue s.cur) s)
    ∧ (∀ n, s.causes = [] → s.agenda = [] → n < 1024 → (s.tile n).canIssue = true →
      exec (.bundleIssue n) s = step { s with cur := n })
    ∧ (s.causes = [] → s.agenda = [] → s.canCycle = false → s.here.starting = false →
      step s = .next { s with timeBase := s.timeBase + 1 })
    ∧ (s.causes = [] → s.agenda = [] → s.cur < 1024 → s.here.starting = true →
      (∀ t, s.startAgain = .made t ∨ s.startAgain = .asked t → step s = .next t ∧ exec (.bundleIssue s.cur) s = .next t)
      ∧ (s.startAgain = .early →
        step s = .next { s with timeBase := s.timeBase + 1 } ∧ exec (.bundleIssue s.cur) s = .refused (.notDue "BUNDLE_ISSUE")))
    ∧ (∀ c cs, s.causes = c :: cs → step s = .next (s.actOn c cs))
    ∧ ∀ h hs, s.causes = [] → s.agenda = h :: hs →
      step s = exec h.what
        { s with agenda := hs, timeBase := s.timeBase + BitVec.ofNat 64 h.wait
                 control := { s.control with arrived := h.message.getD s.control.arrived } }

/-- R277, R279 to R285, R303 to R305, R308 to R310, R313: words written out by their fields E, B, G, S and D, one or more for each unit and
each kind of bus, guard, source and destination, decode to the step they stand for, with the four words of the worked example of R313
among them; and a reserved bus, a reserved guard, an unmapped source, p0 as a destination, an unmapped trigger code and a long immediate that is not
there decode to none. -/
def Obligations.WordsDecode : Prop := ∀ r ∈ wordRows, (decodeWords r.1).map Prod.fst = r.2

/-- R279 to R285: encoding a well-formed step of the code stream and decoding its words gives it back with every operand, and
every list of words that decodes to a step begins with that step's encoding, which is well-formed: no two words mean the same
step, and no bit of a word is dropped. -/
def Obligations.DecodeEncodeAgree : Prop :=
  (∀ (i : Instr) (rest : List Lane), i.wf = true → i.isCode = true → decodeWords (encode i ++ rest) = some (i, rest))
  ∧ ∀ (ws rest : List Lane) (i : Instr), decodeWords ws = some (i, rest) → i.wf = true ∧ i.isCode = true ∧ ws = encode i ++ rest

/-- R28, R31, R32, R41, R69: the module after a start in which every step passed: every tile idle, every partition free, no domain
number, no key, nothing logged, no request seen, the time base at 0, the power cap at 4,400 W, memory, kiln and tile stores all zero,
of grade S and free of poison, and the memory in its canonical form. That nothing failed is the model's choice (log 1), and so are
the power cap, the time base and the registers that no rule names (log 7), and the tile stores that read zero before a first dispatch
(log 44). -/
def Obligations.ResetState : Prop :=
  (∀ n, (State.reset.tile n).phase = .idle ∧ (State.reset.tile n).task = none ∧ (State.reset.tile n).alarms = []
    ∧ (∀ a, readByte (State.reset.tile n).store a = 0) ∧ (∀ r, r < 32 → (State.reset.tile n).readS r = 0))
  ∧ (∀ p, (State.reset.part p).state = .free ∧ (State.reset.part p).jobs = [] ∧ (State.reset.part p).launches = [])
  ∧ (∀ d a, readByte (State.reset.die d).kiln a = 0)
  ∧ (∀ a, readByte State.reset.memory a = 0) ∧ (∀ l, mget 0 State.reset.grades l = 0) ∧ State.reset.badLines = []
  ∧ memoryWf State.reset.memory = true
  ∧ State.reset.domain = none ∧ State.reset.keys = [] ∧ State.reset.errors = [] ∧ State.reset.errorCount = 0
  ∧ State.reset.control.next = none ∧ State.reset.control.kept = [] ∧ State.reset.control.waiting = []
  ∧ State.reset.timeBase = 0 ∧ State.reset.powerCap = 4400 ∧ State.reset.causes = [] ∧ State.reset.flash = []
  ∧ State.reset.want = none ∧ State.reset.awaited = []

/-- R4, R50, R54: the module's memory keeps its canonical form through every step, whatever the step is: addresses strictly rising
and no byte listed that is zero, so that equal memories are equal data. The form is the model's own; what it stands for is that
every byte has one place and one value, and that an unlisted one reads as the zero that bring-up and a destroyed partition leave. So is
the mark of an access that a step in the making lacks, which no step leaves behind (log 10). -/
def Obligations.MemoryStaysCanonical : Prop :=
  ∀ s t : State, step s = .next t →
    (memoryWf s.memory = true → memoryWf t.memory = true) ∧ (s.want = none → t.want = none)

namespace Sys2Proof.Claims

/-! ## Exact numbers (R252 to R272) -/

/-- The number of leading bits of u, from bit top down, that are equal (R254). -/
def RunIs (u top m : Nat) : Prop :=
  m ≤ top + 1 ∧ (∀ j, j < m → u.testBit (top - j) = u.testBit top) ∧ (m ≤ top → u.testBit (top - m) ≠ u.testBit top)

/-- The value of an n-bit posit encoding that is neither 0 nor NaR and whose regime has m bits (R254). -/
def regimeValue (n es p m : Nat) : ℚ :=
  let u := if p.testBit (n - 1) then 2 ^ n - p else p
  let k : Int := if u.testBit (n - 2) then (m : Int) - 1 else -(m : Int)
  let l := n - 2 - m
  let rest := u % 2 ^ l
  let e := if es ≤ l then rest / 2 ^ (l - es) else rest * 2 ^ (es - l)
  let v := (2 : ℚ) ^ (k * 2 ^ es + (e : Int)) * (1 + ((rest % 2 ^ (l - es) : Nat) : ℚ) / 2 ^ (l - es))
  if p.testBit (n - 1) then -v else v

/-- The bounds of an integer type and its width (R266). -/
def intBits (t : Nat) : Nat := 8 * 2 ^ (t % 4)
def intLow (t : Nat) : Int := if t < 4 then -(2 ^ (intBits t - 1)) else 0
def intHigh (t : Nat) : Int := if t < 4 then 2 ^ (intBits t - 1) - 1 else 2 ^ intBits t - 1

/-- The pattern that a value becomes in an integer type: the nearest integer, ties to the even one, clamped, and the lowest for NaR
(R268). -/
def IntOf (t : Nat) (x : Option ℚ) (r : Nat) : Prop :=
  match x with
  | none => (r : Int) = intLow t % 2 ^ intBits t
  | some x =>
    ∃ z : Int, |x - z| ≤ 1 / 2 ∧ (|x - z| = 1 / 2 → z % 2 = 0) ∧ (r : Int) = max (intLow t) (min (intHigh t) z) % 2 ^ intBits t

/-- Exponent bits, fraction bits and canonical NaN of binary16, bfloat16 and binary32 (R266). -/
def floatShape (t : Nat) : Nat × Nat := if t = 8 then (5, 10) else if t = 9 then (8, 7) else (8, 23)
def floatNan (t : Nat) : Nat := if t = 8 then 0x7E00 else if t = 9 then 0x7FC0 else 0x7FC00000

/-- The magnitude that an exponent and fraction field stand for; the pattern of infinity stands for the power of two that follows the
largest finite one. -/
def floatMagnitude (eb fb m : Nat) : ℚ :=
  let bias : Int := 2 ^ (eb - 1) - 1
  if m / 2 ^ fb = 0 then (m : ℚ) * (2 : ℚ) ^ (1 - bias - (fb : Int))
  else ((2 ^ fb + m % 2 ^ fb : Nat) : ℚ) * (2 : ℚ) ^ (((m / 2 ^ fb : Nat) : Int) - bias - (fb : Int))

/-- A value that is not zero rounded into an IEEE type: to nearest, ties to the even pattern, to infinity above, to a subnormal or a
signed zero below (R268). -/
def FloatOf (t : Nat) (x : ℚ) (r : Nat) : Prop :=
  let s := floatShape t
  let top := (2 ^ s.1 - 1) * 2 ^ s.2
  let mag := r % 2 ^ (s.1 + s.2)
  let off := fun m => |(|x| - floatMagnitude s.1 s.2 m)|
  r / 2 ^ (s.1 + s.2) = (if x < 0 then 1 else 0) ∧ mag ≤ top
    ∧ ∀ m, m ≤ top → off mag ≤ off m ∧ (off mag = off m → m ≠ mag → mag % 2 = 0)

/-- M of R269. -/
def targetTop : Target → ℚ
  | .int t => intHigh t
  | .posit f => (2 : ℚ) ^ topExp f

/-- An exact value that is a multiple of the weight of a quire's bit 0 (R258). -/
def OnGrid (x : Option ℚ) : Prop := ∀ v, x = some v → ∃ z : Int, v = z * (2 : ℚ) ^ (-496 : Int)

/-- A value as a quire holds it: NaR outside the range (R258, R259). -/
def inQuire (x : Option ℚ) : Option ℚ := x.bind (fun v => if |v| < (2 : ℚ) ^ 527 then some v else none)

end Sys2Proof.Claims

/-- R254 to R257: decode gives the value of an encoding, round the encoding of a value, sums, products and negations are exact with NaR
for a NaR operand, and encodings order as their values do. -/
def Sys2Proof.Claims.PositsAreExact : Prop :=
  (∀ f p, f < 12 → p < 2 ^ widthBits f →
    (p = 0 → positRat p f = some 0) ∧ (p = 2 ^ (widthBits f - 1) → positRat p f = none)
    ∧ (p ≠ 0 → p ≠ 2 ^ (widthBits f - 1) → ∀ m,
        RunIs (if p.testBit (widthBits f - 1) then 2 ^ widthBits f - p else p) (widthBits f - 2) m →
        positRat p f = some (regimeValue (widthBits f) (f % 4) p m)))
  ∧ (∀ x f, f < 12 → roundPosit x f = roundedTo f (rat x))
  ∧ (∀ x y, rat (vadd x y) = plus (rat x) (rat y) ∧ rat (vmul x y) = times (rat x) (rat y) ∧ rat (vneg x) = (rat x).map (fun v => -v))
  ∧ (∀ f a b x y, f < 12 → a < 2 ^ widthBits f → b < 2 ^ widthBits f → positRat a f = some x → positRat b f = some y →
      positRat (positNeg (widthBits f) a) f = some (-x) ∧ positRat (positAbs (widthBits f) a) f = some |x|
        ∧ positLt (widthBits f) a b = decide (x < y) ∧ positLt (widthBits f) (2 ^ (widthBits f - 1)) a = true)

/-- R258, R259: a quire holds every multiple of 2^-496 within its range, the images and sums of R259 are exact, NaR outside the range and
for NaR, and products of posits land on the grid. -/
def Sys2Proof.Claims.QuiresAreExact : Prop :=
  (∀ q : Quire, rat (qval q) = quireRat q.toNat ∧ quireOfBytes (quireBytes q) = q)
  ∧ (∀ x : Value, OnGrid (rat x) → rat (qval (quireOf x)) = inQuire (rat x))
  ∧ (∀ (q : Quire) (x : Value), OnGrid (rat x) → rat (qval (qadd q x)) = inQuire (plus (rat (qval q)) (rat x)))
  ∧ (∀ f g p r, f < 12 → g < 12 → OnGrid (positRat p f) ∧ OnGrid (times (positRat p f) (positRat r g)))

/-- R266 to R268: the values of integers and of IEEE and bfloat16 numbers, whose NaNs and infinities are NaR, and conversions into those
types. -/
def Sys2Proof.Claims.ConversionsAreExact : Prop :=
  (∀ t p, t < 8 → rat (decodeType p t)
      = some (if t < 4 then (signedOf (intBits t) (p % 2 ^ intBits t) : ℚ) else ((p % 2 ^ intBits t : Nat) : ℚ)))
  ∧ (∀ t p, 8 ≤ t → t < 11 →
      let s := floatShape t
      let m := p % 2 ^ (s.1 + s.2)
      p < 2 ^ (s.1 + s.2 + 1) → rat (decodeType p t)
        = if m / 2 ^ s.2 = 2 ^ s.1 - 1 then none
          else some (if p.testBit (s.1 + s.2) then -floatMagnitude s.1 s.2 m else floatMagnitude s.1 s.2 m))
  ∧ (∀ t x, t < 8 → IntOf t (rat x) (toType x t))
  ∧ (∀ t x, 8 ≤ t → t < 11 → (rat x = none → toType x t = floatNan t) ∧ (rat x = some 0 → toType x t = 0)
      ∧ ∀ v, rat x = some v → v ≠ 0 → FloatOf t v (toType x t))

/-- R269, R270: the scale of a set of values is the largest one that keeps the largest magnitude within the target, clamped, and 0 when
there is no such magnitude; quantise and dequantise scale exactly and round once. -/
def Sys2Proof.Claims.ScalesAreExact : Prop :=
  (∀ (vs : List Value) (t : Target), (∀ f, t = .posit f → f < 12) → (∀ k, t = .int k → k < 8) →
    ((∀ v ∈ vs, rat v = none ∨ rat v = some 0) → maxscale vs t = 0)
    ∧ ∀ (m : ℚ) (e : Int), 0 < m → (∃ v ∈ vs, (rat v).map (fun y => |y|) = some m) →
        (∀ v ∈ vs, ∀ y, rat v = some y → |y| ≤ m) → m * (2 : ℚ) ^ e ≤ targetTop t → targetTop t < m * (2 : ℚ) ^ (e + 1) →
        maxscale vs t = max (-32768) (min 32767 e))
  ∧ (∀ (x : Value) (e : Int), (∀ t, t < 8 → IntOf t ((rat x).map (fun v => v * (2 : ℚ) ^ e)) (quantise x e (.int t)))
      ∧ ∀ f, f < 12 → quantise x e (.posit f) = roundedTo f ((rat x).map (fun v => v * (2 : ℚ) ^ e))
          ∧ dequantise x e f = roundedTo f ((rat x).map (fun v => v * (2 : ℚ) ^ (-e))))

/-- R271, R272: the header of a function table, when a table is valid, and its evaluation: the segment of the operand, the end segments
beyond the domain, the polynomial's exact value, rounded once, and NaR for any NaR met. -/
def Sys2Proof.Claims.TablesEvaluate : Prop :=
  (∀ h, let t := tableHeader h
    t.x0 = bits h 127 96 ∧ t.nseg = bits h 79 64 ∧ t.w = signedOf 8 (bits h 63 56) ∧ t.deg = bits h 51 48 ∧ t.cfmt = bits h 47 44
      ∧ t.ofmt = bits h 43 40 ∧ t.ifmt = bits h 39 36 ∧ t.cbase = bits h 13 0
      ∧ (tableValid t = true ↔ bits h 95 80 = 0 ∧ bits h 55 52 = 0 ∧ bits h 35 14 = 0 ∧ bits h 39 36 < 12 ∧ bits h 43 40 < 12
          ∧ 8 ≤ bits h 47 44 ∧ bits h 47 44 < 12 ∧ bits h 51 48 ≤ 4 ∧ bits h 79 64 ≠ 0 ∧ bits h 79 64 ≤ 4095
          ∧ 4 * (bits h 13 0 + bits h 79 64 * (bits h 51 48 + 1)) ≤ 16384))
  ∧ (∀ (x h : Nat) (coeff : Memory),
      let t := tableHeader h
      tableValid t = true → feval x t coeff
        = roundedTo t.ofmt ((positRat x t.ifmt).bind (fun v => (positRat t.x0 t.cfmt).bind (fun x0 =>
            let step := (2 : ℚ) ^ t.w
            let i := (max 0 (min ⌊(v - x0) / step⌋ ((t.nseg : Int) - 1))).toNat
            let d := v - x0 - i * step
            (List.range (t.deg + 1)).foldl
              (fun a j => plus a (times (positRat (ofBytes (readBytes coeff (4 * (t.cbase + i * (t.deg + 1) + j)) 4)) t.cfmt) (some (d ^ j))))
              (some 0)))))

/-- R254 to R259, R266 to R272: the exact arithmetic that the results of the posit, quire, conversion, scaling and evaluation operations
rest on: decoding and rounding of posits, quires, conversions, scales and function tables, over the rational numbers. -/
def Obligations.ExactNumbersAgree : Prop :=
  PositsAreExact ∧ QuiresAreExact ∧ ConversionsAreExact ∧ ScalesAreExact ∧ TablesEvaluate
end

