-- ==== Sys2Proof/Laws/Tables.lean ====
section
/-! SUPPORT. Sparse tables and byte memories: what a key reads as after a write, and that every write keeps the canonical
form. -/

namespace Sys2Proof.Machine

variable {α : Type}

theorem mfind_mput (k j : Nat) (v : α) (m : SMap α) : mfind j (mput k v m) = if j = k then some v else mfind j m := by
  induction m with
  | nil =>
    by_cases h : j = k
    · subst h; simp [mput, mfind]
    · simp [mput, mfind, h, Ne.symm h]
  | cons e m ih =>
    obtain ⟨i, w⟩ := e
    unfold mput
    by_cases h : j = k
    · subst h
      split
      · simp [mfind]
      · split
        · simp [mfind]
        · rename_i hi; simp [mfind, ih, hi]
    · split
      · simp [mfind, Ne.symm h]
      · split
        · rename_i hi; subst hi; simp [mfind, Ne.symm h]
        · simp [mfind, ih, h]

theorem mfind_mdel (k j : Nat) (m : SMap α) : mfind j (mdel k m) = if j = k then none else mfind j m := by
  induction m with
  | nil => simp [mdel, mfind]
  | cons e m ih =>
    obtain ⟨i, w⟩ := e
    unfold mdel
    split
    · rename_i hi; subst hi
      by_cases h : j = i
      · simpa [h] using ih
      · simp [h, ih, mfind, Ne.symm h]
    · rename_i hi
      by_cases h : i = j
      · subst h; simp [mfind, hi]
      · simp [mfind, h, ih]

theorem mget_mset [DecidableEq α] (d : α) (m : SMap α) (k : Nat) (v : α) (j : Nat) :
    mget d (mset d m k v) j = if j = k then v else mget d m j := by
  unfold mget mset
  split
  · rename_i h; subst h
    rw [mfind_mdel]; split <;> simp
  · rw [mfind_mput, mfind_mdel]; split <;> simp

theorem mdel_mdel (k : Nat) (m : SMap α) : mdel k (mdel k m) = mdel k m := by
  induction m with
  | nil => rfl
  | cons e m ih =>
    obtain ⟨i, w⟩ := e
    by_cases h : i = k <;> simp [mdel, h, ih]

theorem mdel_mput_mdel (k : Nat) (v : α) (m : SMap α) : mdel k (mput k v (mdel k m)) = mdel k m := by
  induction m with
  | nil => simp [mdel, mput]
  | cons e m ih =>
    obtain ⟨i, w⟩ := e
    by_cases h : i = k
    · simpa [mdel, h] using ih
    · by_cases hk : k < i
      · simp [mdel, h, mput, hk, mdel_mdel]
      · simp [mdel, h, mput, hk, ih]

/-- A later write of the same key is all that counts. -/
@[simp] theorem mset_mset [DecidableEq α] (d : α) (m : SMap α) (k : Nat) (v w : α) :
    mset d (mset d m k v) k w = mset d m k w := by
  unfold mset
  split <;> split <;> simp [mdel_mdel, mdel_mput_mdel]

@[simp] theorem mget_mset_same [DecidableEq α] (d : α) (m : SMap α) (k : Nat) (v : α) : mget d (mset d m k v) k = v := by
  simp [mget_mset]

theorem mget_mset_other [DecidableEq α] (d : α) (m : SMap α) {j k : Nat} (h : j ≠ k) (v : α) :
    mget d (mset d m k v) j = mget d m j := by simp [mget_mset, h]

@[simp] theorem mget_nil (d : α) (k : Nat) : mget d ([] : SMap α) k = d := rfl

/-! ## The canonical form -/

theorem mput_keys (k : Nat) (v : α) (m : SMap α) : ∀ e ∈ mput k v m, e = (k, v) ∨ e ∈ m := by
  induction m with
  | nil => simp [mput]
  | cons x m ih =>
    intro e he
    unfold mput at he
    split at he
    · rcases List.mem_cons.1 he with h | h
      · exact .inl h
      · exact .inr h
    · split at he
      · rcases List.mem_cons.1 he with h | h
        · exact .inl h
        · exact .inr (List.mem_cons_of_mem _ h)
      · rcases List.mem_cons.1 he with h | h
        · exact .inr (h ▸ List.mem_cons_self ..)
        · rcases ih e h with h | h
          · exact .inl h
          · exact .inr (List.mem_cons_of_mem _ h)

theorem mdel_sub (k : Nat) (m : SMap α) : ∀ e ∈ mdel k m, e ∈ m := by
  induction m with
  | nil => simp [mdel]
  | cons x m ih =>
    intro e he
    unfold mdel at he
    split at he
    · exact List.mem_cons_of_mem _ (ih e he)
    · rcases List.mem_cons.1 he with h | h
      · exact h ▸ List.mem_cons_self ..
      · exact List.mem_cons_of_mem _ (ih e h)

variable [DecidableEq α]

theorem tableWf_cons (d : α) (k : Nat) (v : α) (m : SMap α) :
    tableWf d ((k, v) :: m) = true ↔ v ≠ d ∧ (∀ e ∈ m, k < e.1) ∧ tableWf d m = true := by
  simp [tableWf, Bool.and_eq_true, and_assoc]

theorem tableWf_mdel (d : α) (k : Nat) (m : SMap α) (h : tableWf d m = true) : tableWf d (mdel k m) = true := by
  induction m with
  | nil => rfl
  | cons x m ih =>
    obtain ⟨i, w⟩ := x
    obtain ⟨h1, h2, h3⟩ := (tableWf_cons ..).1 h
    unfold mdel
    split
    · exact ih h3
    · exact (tableWf_cons ..).2 ⟨h1, fun e he => h2 e (mdel_sub k m e he), ih h3⟩

theorem tableWf_mput (d : α) (k : Nat) (v : α) (m : SMap α) (hv : v ≠ d) (h : tableWf d m = true) :
    tableWf d (mput k v m) = true := by
  induction m with
  | nil => exact (tableWf_cons ..).2 ⟨hv, by simp, rfl⟩
  | cons x m ih =>
    obtain ⟨i, w⟩ := x
    obtain ⟨h1, h2, h3⟩ := (tableWf_cons ..).1 h
    unfold mput
    split
    · rename_i hk
      refine (tableWf_cons ..).2 ⟨hv, fun e he => ?_, h⟩
      rcases List.mem_cons.1 he with rfl | he
      · exact hk
      · exact Nat.lt_trans hk (h2 e he)
    · split
      · rename_i hi; subst hi
        exact (tableWf_cons ..).2 ⟨hv, h2, h3⟩
      · refine (tableWf_cons ..).2 ⟨h1, fun e he => ?_, ih h3⟩
        rcases mput_keys k v m e he with rfl | he
        · simp only; omega
        · exact h2 e he

/-- Every write of a table keeps its canonical form. -/
theorem tableWf_mset (d : α) (m : SMap α) (k : Nat) (v : α) (h : tableWf d m = true) : tableWf d (mset d m k v) = true := by
  unfold mset
  split
  · exact tableWf_mdel d k m h
  · exact tableWf_mput d k v _ ‹_› (tableWf_mdel d k m h)

/-! ## Byte memories -/

theorem readByte_writeByte (m : Memory) (a : Nat) (b : Byte) (j : Nat) :
    readByte (writeByte m a b) j = if j = a then b else readByte m j := mget_mset ..

theorem memoryWf_writeByte (m : Memory) (a : Nat) (b : Byte) (h : memoryWf m = true) : memoryWf (writeByte m a b) = true :=
  tableWf_mset _ m a b h

theorem memoryWf_writeBytes (bs : List Byte) : ∀ (m : Memory) (a : Nat), memoryWf m = true → memoryWf (writeBytes m a bs) = true := by
  induction bs with
  | nil => intro m a h; exact h
  | cons b bs ih => intro m a h; exact ih _ _ (memoryWf_writeByte m a b h)

/-- A byte outside the bytes written reads as before. -/
theorem readByte_writeBytes_outside (bs : List Byte) :
    ∀ (m : Memory) (a j : Nat), (j < a ∨ a + bs.length ≤ j) → readByte (writeBytes m a bs) j = readByte m j := by
  induction bs with
  | nil => intro m a j _; rfl
  | cons b bs ih =>
    intro m a j h
    simp only [List.length_cons] at h
    rw [writeBytes, ih _ _ _ (by omega), readByte_writeByte, if_neg (by omega)]

/-- A byte of those written reads as it was written. -/
theorem readByte_writeBytes_inside (bs : List Byte) :
    ∀ (m : Memory) (a i : Nat) (h : i < bs.length), readByte (writeBytes m a bs) (a + i) = bs[i] := by
  induction bs with
  | nil => intro m a i h; simp at h
  | cons b bs ih =>
    intro m a i h
    rw [writeBytes]
    cases i with
    | zero => rw [readByte_writeBytes_outside _ _ _ _ (by omega), readByte_writeByte]; simp
    | succ i =>
      have := ih (writeByte m a b) (a + 1) i (by simpa using h)
      rw [show a + (i + 1) = a + 1 + i by omega, this]; rfl

end Sys2Proof.Machine
end

