-- ==== Sys2Proof/Laws/State.lean ====
section
/-! SUPPORT. What each update of the state leaves alone, one lemma per field, and what the parts read as after it. -/

namespace Sys2Proof.Machine

/-! ## setTile -/

@[simp] theorem State.setTile_timeBase (s : State) (n : Nat) (x : Tile) : (s.setTile n x).timeBase = s.timeBase := rfl
@[simp] theorem State.setTile_stepping (s : State) (n : Nat) (x : Tile) : (s.setTile n x).stepping = s.stepping := rfl
@[simp] theorem State.setTile_serial (s : State) (n : Nat) (x : Tile) : (s.setTile n x).serial = s.serial := rfl
@[simp] theorem State.setTile_flash (s : State) (n : Nat) (x : Tile) : (s.setTile n x).flash = s.flash := rfl
@[simp] theorem State.setTile_startCount (s : State) (n : Nat) (x : Tile) : (s.setTile n x).startCount = s.startCount := rfl
@[simp] theorem State.setTile_health (s : State) (n : Nat) (x : Tile) : (s.setTile n x).health = s.health := rfl
@[simp] theorem State.setTile_bootSlot (s : State) (n : Nat) (x : Tile) : (s.setTile n x).bootSlot = s.bootSlot := rfl
@[simp] theorem State.setTile_primary (s : State) (n : Nat) (x : Tile) : (s.setTile n x).primary = s.primary := rfl
@[simp] theorem State.setTile_slots (s : State) (n : Nat) (x : Tile) : (s.setTile n x).slots = s.slots := rfl
@[simp] theorem State.setTile_powerCap (s : State) (n : Nat) (x : Tile) : (s.setTile n x).powerCap = s.powerCap := rfl
@[simp] theorem State.setTile_domain (s : State) (n : Nat) (x : Tile) : (s.setTile n x).domain = s.domain := rfl
@[simp] theorem State.setTile_keys (s : State) (n : Nat) (x : Tile) : (s.setTile n x).keys = s.keys := rfl
@[simp] theorem State.setTile_mf (s : State) (n : Nat) (x : Tile) : (s.setTile n x).mf = s.mf := rfl
@[simp] theorem State.setTile_errors (s : State) (n : Nat) (x : Tile) : (s.setTile n x).errors = s.errors := rfl
@[simp] theorem State.setTile_errorCount (s : State) (n : Nat) (x : Tile) : (s.setTile n x).errorCount = s.errorCount := rfl
@[simp] theorem State.setTile_overflow (s : State) (n : Nat) (x : Tile) : (s.setTile n x).overflow = s.overflow := rfl
@[simp] theorem State.setTile_snapshot (s : State) (n : Nat) (x : Tile) : (s.setTile n x).snapshot = s.snapshot := rfl
@[simp] theorem State.setTile_control (s : State) (n : Nat) (x : Tile) : (s.setTile n x).control = s.control := rfl
@[simp] theorem State.setTile_memory (s : State) (n : Nat) (x : Tile) : (s.setTile n x).memory = s.memory := rfl
@[simp] theorem State.setTile_glaze (s : State) (n : Nat) (x : Tile) : (s.setTile n x).glaze = s.glaze := rfl
@[simp] theorem State.setTile_badLines (s : State) (n : Nat) (x : Tile) : (s.setTile n x).badLines = s.badLines := rfl
@[simp] theorem State.setTile_grades (s : State) (n : Nat) (x : Tile) : (s.setTile n x).grades = s.grades := rfl
@[simp] theorem State.setTile_corrected (s : State) (n : Nat) (x : Tile) : (s.setTile n x).corrected = s.corrected := rfl
@[simp] theorem State.setTile_dies (s : State) (n : Nat) (x : Tile) : (s.setTile n x).dies = s.dies := rfl
@[simp] theorem State.setTile_ports (s : State) (n : Nat) (x : Tile) : (s.setTile n x).ports = s.ports := rfl
@[simp] theorem State.setTile_tags (s : State) (n : Nat) (x : Tile) : (s.setTile n x).tags = s.tags := rfl
@[simp] theorem State.setTile_answers (s : State) (n : Nat) (x : Tile) : (s.setTile n x).answers = s.answers := rfl
@[simp] theorem State.setTile_awaited (s : State) (n : Nat) (x : Tile) : (s.setTile n x).awaited = s.awaited := rfl
@[simp] theorem State.setTile_want (s : State) (n : Nat) (x : Tile) : (s.setTile n x).want = s.want := rfl
@[simp] theorem State.setTile_asker (s : State) (n : Nat) (x : Tile) : (s.setTile n x).asker = s.asker := rfl
@[simp] theorem State.setTile_turn (s : State) (n : Nat) (x : Tile) : (s.setTile n x).turn = s.turn := rfl
@[simp] theorem State.setTile_served (s : State) (n : Nat) (x : Tile) : (s.setTile n x).served = s.served := rfl
@[simp] theorem State.setTile_parts (s : State) (n : Nat) (x : Tile) : (s.setTile n x).parts = s.parts := rfl
@[simp] theorem State.setTile_causes (s : State) (n : Nat) (x : Tile) : (s.setTile n x).causes = s.causes := rfl
@[simp] theorem State.setTile_agenda (s : State) (n : Nat) (x : Tile) : (s.setTile n x).agenda = s.agenda := rfl
@[simp] theorem State.setTile_cur (s : State) (n : Nat) (x : Tile) : (s.setTile n x).cur = s.cur := rfl
@[simp] theorem State.setTile_fresh (s : State) (n : Nat) (x : Tile) : (s.setTile n x).fresh = s.fresh := rfl

/-! ## setDie -/

@[simp] theorem State.setDie_timeBase (s : State) (n : Nat) (x : Die) : (s.setDie n x).timeBase = s.timeBase := rfl
@[simp] theorem State.setDie_stepping (s : State) (n : Nat) (x : Die) : (s.setDie n x).stepping = s.stepping := rfl
@[simp] theorem State.setDie_serial (s : State) (n : Nat) (x : Die) : (s.setDie n x).serial = s.serial := rfl
@[simp] theorem State.setDie_flash (s : State) (n : Nat) (x : Die) : (s.setDie n x).flash = s.flash := rfl
@[simp] theorem State.setDie_startCount (s : State) (n : Nat) (x : Die) : (s.setDie n x).startCount = s.startCount := rfl
@[simp] theorem State.setDie_health (s : State) (n : Nat) (x : Die) : (s.setDie n x).health = s.health := rfl
@[simp] theorem State.setDie_bootSlot (s : State) (n : Nat) (x : Die) : (s.setDie n x).bootSlot = s.bootSlot := rfl
@[simp] theorem State.setDie_primary (s : State) (n : Nat) (x : Die) : (s.setDie n x).primary = s.primary := rfl
@[simp] theorem State.setDie_slots (s : State) (n : Nat) (x : Die) : (s.setDie n x).slots = s.slots := rfl
@[simp] theorem State.setDie_powerCap (s : State) (n : Nat) (x : Die) : (s.setDie n x).powerCap = s.powerCap := rfl
@[simp] theorem State.setDie_domain (s : State) (n : Nat) (x : Die) : (s.setDie n x).domain = s.domain := rfl
@[simp] theorem State.setDie_keys (s : State) (n : Nat) (x : Die) : (s.setDie n x).keys = s.keys := rfl
@[simp] theorem State.setDie_mf (s : State) (n : Nat) (x : Die) : (s.setDie n x).mf = s.mf := rfl
@[simp] theorem State.setDie_errors (s : State) (n : Nat) (x : Die) : (s.setDie n x).errors = s.errors := rfl
@[simp] theorem State.setDie_errorCount (s : State) (n : Nat) (x : Die) : (s.setDie n x).errorCount = s.errorCount := rfl
@[simp] theorem State.setDie_overflow (s : State) (n : Nat) (x : Die) : (s.setDie n x).overflow = s.overflow := rfl
@[simp] theorem State.setDie_snapshot (s : State) (n : Nat) (x : Die) : (s.setDie n x).snapshot = s.snapshot := rfl
@[simp] theorem State.setDie_control (s : State) (n : Nat) (x : Die) : (s.setDie n x).control = s.control := rfl
@[simp] theorem State.setDie_memory (s : State) (n : Nat) (x : Die) : (s.setDie n x).memory = s.memory := rfl
@[simp] theorem State.setDie_glaze (s : State) (n : Nat) (x : Die) : (s.setDie n x).glaze = s.glaze := rfl
@[simp] theorem State.setDie_badLines (s : State) (n : Nat) (x : Die) : (s.setDie n x).badLines = s.badLines := rfl
@[simp] theorem State.setDie_grades (s : State) (n : Nat) (x : Die) : (s.setDie n x).grades = s.grades := rfl
@[simp] theorem State.setDie_corrected (s : State) (n : Nat) (x : Die) : (s.setDie n x).corrected = s.corrected := rfl
@[simp] theorem State.setDie_ports (s : State) (n : Nat) (x : Die) : (s.setDie n x).ports = s.ports := rfl
@[simp] theorem State.setDie_tags (s : State) (n : Nat) (x : Die) : (s.setDie n x).tags = s.tags := rfl
@[simp] theorem State.setDie_answers (s : State) (n : Nat) (x : Die) : (s.setDie n x).answers = s.answers := rfl
@[simp] theorem State.setDie_awaited (s : State) (n : Nat) (x : Die) : (s.setDie n x).awaited = s.awaited := rfl
@[simp] theorem State.setDie_want (s : State) (n : Nat) (x : Die) : (s.setDie n x).want = s.want := rfl
@[simp] theorem State.setDie_asker (s : State) (n : Nat) (x : Die) : (s.setDie n x).asker = s.asker := rfl
@[simp] theorem State.setDie_turn (s : State) (n : Nat) (x : Die) : (s.setDie n x).turn = s.turn := rfl
@[simp] theorem State.setDie_served (s : State) (n : Nat) (x : Die) : (s.setDie n x).served = s.served := rfl
@[simp] theorem State.setDie_parts (s : State) (n : Nat) (x : Die) : (s.setDie n x).parts = s.parts := rfl
@[simp] theorem State.setDie_tiles (s : State) (n : Nat) (x : Die) : (s.setDie n x).tiles = s.tiles := rfl
@[simp] theorem State.setDie_causes (s : State) (n : Nat) (x : Die) : (s.setDie n x).causes = s.causes := rfl
@[simp] theorem State.setDie_agenda (s : State) (n : Nat) (x : Die) : (s.setDie n x).agenda = s.agenda := rfl
@[simp] theorem State.setDie_cur (s : State) (n : Nat) (x : Die) : (s.setDie n x).cur = s.cur := rfl
@[simp] theorem State.setDie_fresh (s : State) (n : Nat) (x : Die) : (s.setDie n x).fresh = s.fresh := rfl

/-! ## setPort -/

@[simp] theorem State.setPort_timeBase (s : State) (n : Nat) (x : Port) : (s.setPort n x).timeBase = s.timeBase := rfl
@[simp] theorem State.setPort_stepping (s : State) (n : Nat) (x : Port) : (s.setPort n x).stepping = s.stepping := rfl
@[simp] theorem State.setPort_serial (s : State) (n : Nat) (x : Port) : (s.setPort n x).serial = s.serial := rfl
@[simp] theorem State.setPort_flash (s : State) (n : Nat) (x : Port) : (s.setPort n x).flash = s.flash := rfl
@[simp] theorem State.setPort_startCount (s : State) (n : Nat) (x : Port) : (s.setPort n x).startCount = s.startCount := rfl
@[simp] theorem State.setPort_health (s : State) (n : Nat) (x : Port) : (s.setPort n x).health = s.health := rfl
@[simp] theorem State.setPort_bootSlot (s : State) (n : Nat) (x : Port) : (s.setPort n x).bootSlot = s.bootSlot := rfl
@[simp] theorem State.setPort_primary (s : State) (n : Nat) (x : Port) : (s.setPort n x).primary = s.primary := rfl
@[simp] theorem State.setPort_slots (s : State) (n : Nat) (x : Port) : (s.setPort n x).slots = s.slots := rfl
@[simp] theorem State.setPort_powerCap (s : State) (n : Nat) (x : Port) : (s.setPort n x).powerCap = s.powerCap := rfl
@[simp] theorem State.setPort_domain (s : State) (n : Nat) (x : Port) : (s.setPort n x).domain = s.domain := rfl
@[simp] theorem State.setPort_keys (s : State) (n : Nat) (x : Port) : (s.setPort n x).keys = s.keys := rfl
@[simp] theorem State.setPort_mf (s : State) (n : Nat) (x : Port) : (s.setPort n x).mf = s.mf := rfl
@[simp] theorem State.setPort_errors (s : State) (n : Nat) (x : Port) : (s.setPort n x).errors = s.errors := rfl
@[simp] theorem State.setPort_errorCount (s : State) (n : Nat) (x : Port) : (s.setPort n x).errorCount = s.errorCount := rfl
@[simp] theorem State.setPort_overflow (s : State) (n : Nat) (x : Port) : (s.setPort n x).overflow = s.overflow := rfl
@[simp] theorem State.setPort_snapshot (s : State) (n : Nat) (x : Port) : (s.setPort n x).snapshot = s.snapshot := rfl
@[simp] theorem State.setPort_control (s : State) (n : Nat) (x : Port) : (s.setPort n x).control = s.control := rfl
@[simp] theorem State.setPort_memory (s : State) (n : Nat) (x : Port) : (s.setPort n x).memory = s.memory := rfl
@[simp] theorem State.setPort_glaze (s : State) (n : Nat) (x : Port) : (s.setPort n x).glaze = s.glaze := rfl
@[simp] theorem State.setPort_badLines (s : State) (n : Nat) (x : Port) : (s.setPort n x).badLines = s.badLines := rfl
@[simp] theorem State.setPort_grades (s : State) (n : Nat) (x : Port) : (s.setPort n x).grades = s.grades := rfl
@[simp] theorem State.setPort_corrected (s : State) (n : Nat) (x : Port) : (s.setPort n x).corrected = s.corrected := rfl
@[simp] theorem State.setPort_dies (s : State) (n : Nat) (x : Port) : (s.setPort n x).dies = s.dies := rfl
@[simp] theorem State.setPort_tags (s : State) (n : Nat) (x : Port) : (s.setPort n x).tags = s.tags := rfl
@[simp] theorem State.setPort_answers (s : State) (n : Nat) (x : Port) : (s.setPort n x).answers = s.answers := rfl
@[simp] theorem State.setPort_awaited (s : State) (n : Nat) (x : Port) : (s.setPort n x).awaited = s.awaited := rfl
@[simp] theorem State.setPort_want (s : State) (n : Nat) (x : Port) : (s.setPort n x).want = s.want := rfl
@[simp] theorem State.setPort_asker (s : State) (n : Nat) (x : Port) : (s.setPort n x).asker = s.asker := rfl
@[simp] theorem State.setPort_turn (s : State) (n : Nat) (x : Port) : (s.setPort n x).turn = s.turn := rfl
@[simp] theorem State.setPort_served (s : State) (n : Nat) (x : Port) : (s.setPort n x).served = s.served := rfl
@[simp] theorem State.setPort_parts (s : State) (n : Nat) (x : Port) : (s.setPort n x).parts = s.parts := rfl
@[simp] theorem State.setPort_tiles (s : State) (n : Nat) (x : Port) : (s.setPort n x).tiles = s.tiles := rfl
@[simp] theorem State.setPort_causes (s : State) (n : Nat) (x : Port) : (s.setPort n x).causes = s.causes := rfl
@[simp] theorem State.setPort_agenda (s : State) (n : Nat) (x : Port) : (s.setPort n x).agenda = s.agenda := rfl
@[simp] theorem State.setPort_cur (s : State) (n : Nat) (x : Port) : (s.setPort n x).cur = s.cur := rfl
@[simp] theorem State.setPort_fresh (s : State) (n : Nat) (x : Port) : (s.setPort n x).fresh = s.fresh := rfl

/-! ## setPart -/

@[simp] theorem State.setPart_timeBase (s : State) (n : Nat) (x : Partition) : (s.setPart n x).timeBase = s.timeBase := rfl
@[simp] theorem State.setPart_stepping (s : State) (n : Nat) (x : Partition) : (s.setPart n x).stepping = s.stepping := rfl
@[simp] theorem State.setPart_serial (s : State) (n : Nat) (x : Partition) : (s.setPart n x).serial = s.serial := rfl
@[simp] theorem State.setPart_flash (s : State) (n : Nat) (x : Partition) : (s.setPart n x).flash = s.flash := rfl
@[simp] theorem State.setPart_startCount (s : State) (n : Nat) (x : Partition) : (s.setPart n x).startCount = s.startCount := rfl
@[simp] theorem State.setPart_health (s : State) (n : Nat) (x : Partition) : (s.setPart n x).health = s.health := rfl
@[simp] theorem State.setPart_bootSlot (s : State) (n : Nat) (x : Partition) : (s.setPart n x).bootSlot = s.bootSlot := rfl
@[simp] theorem State.setPart_primary (s : State) (n : Nat) (x : Partition) : (s.setPart n x).primary = s.primary := rfl
@[simp] theorem State.setPart_slots (s : State) (n : Nat) (x : Partition) : (s.setPart n x).slots = s.slots := rfl
@[simp] theorem State.setPart_powerCap (s : State) (n : Nat) (x : Partition) : (s.setPart n x).powerCap = s.powerCap := rfl
@[simp] theorem State.setPart_domain (s : State) (n : Nat) (x : Partition) : (s.setPart n x).domain = s.domain := rfl
@[simp] theorem State.setPart_keys (s : State) (n : Nat) (x : Partition) : (s.setPart n x).keys = s.keys := rfl
@[simp] theorem State.setPart_mf (s : State) (n : Nat) (x : Partition) : (s.setPart n x).mf = s.mf := rfl
@[simp] theorem State.setPart_errors (s : State) (n : Nat) (x : Partition) : (s.setPart n x).errors = s.errors := rfl
@[simp] theorem State.setPart_errorCount (s : State) (n : Nat) (x : Partition) : (s.setPart n x).errorCount = s.errorCount := rfl
@[simp] theorem State.setPart_overflow (s : State) (n : Nat) (x : Partition) : (s.setPart n x).overflow = s.overflow := rfl
@[simp] theorem State.setPart_snapshot (s : State) (n : Nat) (x : Partition) : (s.setPart n x).snapshot = s.snapshot := rfl
@[simp] theorem State.setPart_control (s : State) (n : Nat) (x : Partition) : (s.setPart n x).control = s.control := rfl
@[simp] theorem State.setPart_memory (s : State) (n : Nat) (x : Partition) : (s.setPart n x).memory = s.memory := rfl
@[simp] theorem State.setPart_glaze (s : State) (n : Nat) (x : Partition) : (s.setPart n x).glaze = s.glaze := rfl
@[simp] theorem State.setPart_badLines (s : State) (n : Nat) (x : Partition) : (s.setPart n x).badLines = s.badLines := rfl
@[simp] theorem State.setPart_grades (s : State) (n : Nat) (x : Partition) : (s.setPart n x).grades = s.grades := rfl
@[simp] theorem State.setPart_corrected (s : State) (n : Nat) (x : Partition) : (s.setPart n x).corrected = s.corrected := rfl
@[simp] theorem State.setPart_dies (s : State) (n : Nat) (x : Partition) : (s.setPart n x).dies = s.dies := rfl
@[simp] theorem State.setPart_ports (s : State) (n : Nat) (x : Partition) : (s.setPart n x).ports = s.ports := rfl
@[simp] theorem State.setPart_tags (s : State) (n : Nat) (x : Partition) : (s.setPart n x).tags = s.tags := rfl
@[simp] theorem State.setPart_answers (s : State) (n : Nat) (x : Partition) : (s.setPart n x).answers = s.answers := rfl
@[simp] theorem State.setPart_awaited (s : State) (n : Nat) (x : Partition) : (s.setPart n x).awaited = s.awaited := rfl
@[simp] theorem State.setPart_want (s : State) (n : Nat) (x : Partition) : (s.setPart n x).want = s.want := rfl
@[simp] theorem State.setPart_asker (s : State) (n : Nat) (x : Partition) : (s.setPart n x).asker = s.asker := rfl
@[simp] theorem State.setPart_turn (s : State) (n : Nat) (x : Partition) : (s.setPart n x).turn = s.turn := rfl
@[simp] theorem State.setPart_served (s : State) (n : Nat) (x : Partition) : (s.setPart n x).served = s.served := rfl
@[simp] theorem State.setPart_tiles (s : State) (n : Nat) (x : Partition) : (s.setPart n x).tiles = s.tiles := rfl
@[simp] theorem State.setPart_causes (s : State) (n : Nat) (x : Partition) : (s.setPart n x).causes = s.causes := rfl
@[simp] theorem State.setPart_agenda (s : State) (n : Nat) (x : Partition) : (s.setPart n x).agenda = s.agenda := rfl
@[simp] theorem State.setPart_cur (s : State) (n : Nat) (x : Partition) : (s.setPart n x).cur = s.cur := rfl
@[simp] theorem State.setPart_fresh (s : State) (n : Nat) (x : Partition) : (s.setPart n x).fresh = s.fresh := rfl

/-! ## setHere -/

@[simp] theorem State.setHere_timeBase (s : State) (x : Tile) : (s.setHere x).timeBase = s.timeBase := rfl
@[simp] theorem State.setHere_stepping (s : State) (x : Tile) : (s.setHere x).stepping = s.stepping := rfl
@[simp] theorem State.setHere_serial (s : State) (x : Tile) : (s.setHere x).serial = s.serial := rfl
@[simp] theorem State.setHere_flash (s : State) (x : Tile) : (s.setHere x).flash = s.flash := rfl
@[simp] theorem State.setHere_startCount (s : State) (x : Tile) : (s.setHere x).startCount = s.startCount := rfl
@[simp] theorem State.setHere_health (s : State) (x : Tile) : (s.setHere x).health = s.health := rfl
@[simp] theorem State.setHere_bootSlot (s : State) (x : Tile) : (s.setHere x).bootSlot = s.bootSlot := rfl
@[simp] theorem State.setHere_primary (s : State) (x : Tile) : (s.setHere x).primary = s.primary := rfl
@[simp] theorem State.setHere_slots (s : State) (x : Tile) : (s.setHere x).slots = s.slots := rfl
@[simp] theorem State.setHere_powerCap (s : State) (x : Tile) : (s.setHere x).powerCap = s.powerCap := rfl
@[simp] theorem State.setHere_domain (s : State) (x : Tile) : (s.setHere x).domain = s.domain := rfl
@[simp] theorem State.setHere_keys (s : State) (x : Tile) : (s.setHere x).keys = s.keys := rfl
@[simp] theorem State.setHere_mf (s : State) (x : Tile) : (s.setHere x).mf = s.mf := rfl
@[simp] theorem State.setHere_errors (s : State) (x : Tile) : (s.setHere x).errors = s.errors := rfl
@[simp] theorem State.setHere_errorCount (s : State) (x : Tile) : (s.setHere x).errorCount = s.errorCount := rfl
@[simp] theorem State.setHere_overflow (s : State) (x : Tile) : (s.setHere x).overflow = s.overflow := rfl
@[simp] theorem State.setHere_snapshot (s : State) (x : Tile) : (s.setHere x).snapshot = s.snapshot := rfl
@[simp] theorem State.setHere_control (s : State) (x : Tile) : (s.setHere x).control = s.control := rfl
@[simp] theorem State.setHere_memory (s : State) (x : Tile) : (s.setHere x).memory = s.memory := rfl
@[simp] theorem State.setHere_glaze (s : State) (x : Tile) : (s.setHere x).glaze = s.glaze := rfl
@[simp] theorem State.setHere_badLines (s : State) (x : Tile) : (s.setHere x).badLines = s.badLines := rfl
@[simp] theorem State.setHere_grades (s : State) (x : Tile) : (s.setHere x).grades = s.grades := rfl
@[simp] theorem State.setHere_corrected (s : State) (x : Tile) : (s.setHere x).corrected = s.corrected := rfl
@[simp] theorem State.setHere_dies (s : State) (x : Tile) : (s.setHere x).dies = s.dies := rfl
@[simp] theorem State.setHere_ports (s : State) (x : Tile) : (s.setHere x).ports = s.ports := rfl
@[simp] theorem State.setHere_tags (s : State) (x : Tile) : (s.setHere x).tags = s.tags := rfl
@[simp] theorem State.setHere_answers (s : State) (x : Tile) : (s.setHere x).answers = s.answers := rfl
@[simp] theorem State.setHere_awaited (s : State) (x : Tile) : (s.setHere x).awaited = s.awaited := rfl
@[simp] theorem State.setHere_want (s : State) (x : Tile) : (s.setHere x).want = s.want := rfl
@[simp] theorem State.setHere_asker (s : State) (x : Tile) : (s.setHere x).asker = s.asker := rfl
@[simp] theorem State.setHere_turn (s : State) (x : Tile) : (s.setHere x).turn = s.turn := rfl
@[simp] theorem State.setHere_served (s : State) (x : Tile) : (s.setHere x).served = s.served := rfl
@[simp] theorem State.setHere_parts (s : State) (x : Tile) : (s.setHere x).parts = s.parts := rfl
@[simp] theorem State.setHere_causes (s : State) (x : Tile) : (s.setHere x).causes = s.causes := rfl
@[simp] theorem State.setHere_agenda (s : State) (x : Tile) : (s.setHere x).agenda = s.agenda := rfl
@[simp] theorem State.setHere_cur (s : State) (x : Tile) : (s.setHere x).cur = s.cur := rfl
@[simp] theorem State.setHere_fresh (s : State) (x : Tile) : (s.setHere x).fresh = s.fresh := rfl

/-! ## addCause -/

@[simp] theorem State.addCause_timeBase (s : State) (c : Cause) : (s.addCause c).timeBase = s.timeBase := rfl
@[simp] theorem State.addCause_stepping (s : State) (c : Cause) : (s.addCause c).stepping = s.stepping := rfl
@[simp] theorem State.addCause_serial (s : State) (c : Cause) : (s.addCause c).serial = s.serial := rfl
@[simp] theorem State.addCause_flash (s : State) (c : Cause) : (s.addCause c).flash = s.flash := rfl
@[simp] theorem State.addCause_startCount (s : State) (c : Cause) : (s.addCause c).startCount = s.startCount := rfl
@[simp] theorem State.addCause_health (s : State) (c : Cause) : (s.addCause c).health = s.health := rfl
@[simp] theorem State.addCause_bootSlot (s : State) (c : Cause) : (s.addCause c).bootSlot = s.bootSlot := rfl
@[simp] theorem State.addCause_primary (s : State) (c : Cause) : (s.addCause c).primary = s.primary := rfl
@[simp] theorem State.addCause_slots (s : State) (c : Cause) : (s.addCause c).slots = s.slots := rfl
@[simp] theorem State.addCause_powerCap (s : State) (c : Cause) : (s.addCause c).powerCap = s.powerCap := rfl
@[simp] theorem State.addCause_domain (s : State) (c : Cause) : (s.addCause c).domain = s.domain := rfl
@[simp] theorem State.addCause_keys (s : State) (c : Cause) : (s.addCause c).keys = s.keys := rfl
@[simp] theorem State.addCause_mf (s : State) (c : Cause) : (s.addCause c).mf = s.mf := rfl
@[simp] theorem State.addCause_errors (s : State) (c : Cause) : (s.addCause c).errors = s.errors := rfl
@[simp] theorem State.addCause_errorCount (s : State) (c : Cause) : (s.addCause c).errorCount = s.errorCount := rfl
@[simp] theorem State.addCause_overflow (s : State) (c : Cause) : (s.addCause c).overflow = s.overflow := rfl
@[simp] theorem State.addCause_snapshot (s : State) (c : Cause) : (s.addCause c).snapshot = s.snapshot := rfl
@[simp] theorem State.addCause_control (s : State) (c : Cause) : (s.addCause c).control = s.control := rfl
@[simp] theorem State.addCause_memory (s : State) (c : Cause) : (s.addCause c).memory = s.memory := rfl
@[simp] theorem State.addCause_glaze (s : State) (c : Cause) : (s.addCause c).glaze = s.glaze := rfl
@[simp] theorem State.addCause_badLines (s : State) (c : Cause) : (s.addCause c).badLines = s.badLines := rfl
@[simp] theorem State.addCause_grades (s : State) (c : Cause) : (s.addCause c).grades = s.grades := rfl
@[simp] theorem State.addCause_corrected (s : State) (c : Cause) : (s.addCause c).corrected = s.corrected := rfl
@[simp] theorem State.addCause_dies (s : State) (c : Cause) : (s.addCause c).dies = s.dies := rfl
@[simp] theorem State.addCause_ports (s : State) (c : Cause) : (s.addCause c).ports = s.ports := rfl
@[simp] theorem State.addCause_tags (s : State) (c : Cause) : (s.addCause c).tags = s.tags := rfl
@[simp] theorem State.addCause_answers (s : State) (c : Cause) : (s.addCause c).answers = s.answers := rfl
@[simp] theorem State.addCause_awaited (s : State) (c : Cause) : (s.addCause c).awaited = s.awaited := rfl
@[simp] theorem State.addCause_want (s : State) (c : Cause) : (s.addCause c).want = s.want := rfl
@[simp] theorem State.addCause_asker (s : State) (c : Cause) : (s.addCause c).asker = s.asker := rfl
@[simp] theorem State.addCause_turn (s : State) (c : Cause) : (s.addCause c).turn = s.turn := rfl
@[simp] theorem State.addCause_served (s : State) (c : Cause) : (s.addCause c).served = s.served := rfl
@[simp] theorem State.addCause_parts (s : State) (c : Cause) : (s.addCause c).parts = s.parts := rfl
@[simp] theorem State.addCause_tiles (s : State) (c : Cause) : (s.addCause c).tiles = s.tiles := rfl
@[simp] theorem State.addCause_agenda (s : State) (c : Cause) : (s.addCause c).agenda = s.agenda := rfl
@[simp] theorem State.addCause_cur (s : State) (c : Cause) : (s.addCause c).cur = s.cur := rfl
@[simp] theorem State.addCause_fresh (s : State) (c : Cause) : (s.addCause c).fresh = s.fresh := rfl

/-! ## nextFree -/

@[simp] theorem State.nextFree_timeBase (s : State) : (s.nextFree ).timeBase = s.timeBase := rfl
@[simp] theorem State.nextFree_stepping (s : State) : (s.nextFree ).stepping = s.stepping := rfl
@[simp] theorem State.nextFree_serial (s : State) : (s.nextFree ).serial = s.serial := rfl
@[simp] theorem State.nextFree_flash (s : State) : (s.nextFree ).flash = s.flash := rfl
@[simp] theorem State.nextFree_startCount (s : State) : (s.nextFree ).startCount = s.startCount := rfl
@[simp] theorem State.nextFree_health (s : State) : (s.nextFree ).health = s.health := rfl
@[simp] theorem State.nextFree_bootSlot (s : State) : (s.nextFree ).bootSlot = s.bootSlot := rfl
@[simp] theorem State.nextFree_primary (s : State) : (s.nextFree ).primary = s.primary := rfl
@[simp] theorem State.nextFree_slots (s : State) : (s.nextFree ).slots = s.slots := rfl
@[simp] theorem State.nextFree_powerCap (s : State) : (s.nextFree ).powerCap = s.powerCap := rfl
@[simp] theorem State.nextFree_domain (s : State) : (s.nextFree ).domain = s.domain := rfl
@[simp] theorem State.nextFree_keys (s : State) : (s.nextFree ).keys = s.keys := rfl
@[simp] theorem State.nextFree_mf (s : State) : (s.nextFree ).mf = s.mf := rfl
@[simp] theorem State.nextFree_errors (s : State) : (s.nextFree ).errors = s.errors := rfl
@[simp] theorem State.nextFree_errorCount (s : State) : (s.nextFree ).errorCount = s.errorCount := rfl
@[simp] theorem State.nextFree_overflow (s : State) : (s.nextFree ).overflow = s.overflow := rfl
@[simp] theorem State.nextFree_snapshot (s : State) : (s.nextFree ).snapshot = s.snapshot := rfl
@[simp] theorem State.nextFree_control (s : State) : (s.nextFree ).control = s.control := rfl
@[simp] theorem State.nextFree_memory (s : State) : (s.nextFree ).memory = s.memory := rfl
@[simp] theorem State.nextFree_glaze (s : State) : (s.nextFree ).glaze = s.glaze := rfl
@[simp] theorem State.nextFree_badLines (s : State) : (s.nextFree ).badLines = s.badLines := rfl
@[simp] theorem State.nextFree_grades (s : State) : (s.nextFree ).grades = s.grades := rfl
@[simp] theorem State.nextFree_corrected (s : State) : (s.nextFree ).corrected = s.corrected := rfl
@[simp] theorem State.nextFree_dies (s : State) : (s.nextFree ).dies = s.dies := rfl
@[simp] theorem State.nextFree_ports (s : State) : (s.nextFree ).ports = s.ports := rfl
@[simp] theorem State.nextFree_tags (s : State) : (s.nextFree ).tags = s.tags := rfl
@[simp] theorem State.nextFree_answers (s : State) : (s.nextFree ).answers = s.answers := rfl
@[simp] theorem State.nextFree_awaited (s : State) : (s.nextFree ).awaited = s.awaited := rfl
@[simp] theorem State.nextFree_want (s : State) : (s.nextFree ).want = s.want := rfl
@[simp] theorem State.nextFree_asker (s : State) : (s.nextFree ).asker = s.asker := rfl
@[simp] theorem State.nextFree_turn (s : State) : (s.nextFree ).turn = s.turn := rfl
@[simp] theorem State.nextFree_served (s : State) : (s.nextFree ).served = s.served := rfl
@[simp] theorem State.nextFree_parts (s : State) : (s.nextFree ).parts = s.parts := rfl
@[simp] theorem State.nextFree_tiles (s : State) : (s.nextFree ).tiles = s.tiles := rfl
@[simp] theorem State.nextFree_causes (s : State) : (s.nextFree ).causes = s.causes := rfl
@[simp] theorem State.nextFree_agenda (s : State) : (s.nextFree ).agenda = s.agenda := rfl
@[simp] theorem State.nextFree_cur (s : State) : (s.nextFree ).cur = s.cur := rfl

@[simp] theorem State.addCause_causes (s : State) (c : Cause) : (s.addCause c).causes = s.causes ++ [c] := rfl
@[simp] theorem State.nextFree_fresh (s : State) : s.nextFree.fresh = s.fresh + 1 := rfl

/-! ## Parts read back -/

@[simp] theorem State.tile_setTile_same (s : State) (n : Nat) (x : Tile) : (s.setTile n x).tile n = x := mget_mset_same ..
theorem State.tile_setTile_other (s : State) (h : m ≠ n) (x : Tile) : (s.setTile n x).tile m = s.tile m := mget_mset_other _ _ h _
theorem State.tile_setTile (s : State) (n : Nat) (x : Tile) (m : Nat) : (s.setTile n x).tile m = if m = n then x else s.tile m := mget_mset ..
@[simp] theorem State.die_setTile (s : State) (n : Nat) (x : Tile) (m : Nat) : (s.setTile n x).die m = s.die m := rfl
@[simp] theorem State.port_setTile (s : State) (n : Nat) (x : Tile) (m : Nat) : (s.setTile n x).port m = s.port m := rfl
@[simp] theorem State.part_setTile (s : State) (n : Nat) (x : Tile) (m : Nat) : (s.setTile n x).part m = s.part m := rfl
@[simp] theorem State.die_setDie_same (s : State) (n : Nat) (x : Die) : (s.setDie n x).die n = x := mget_mset_same ..
theorem State.die_setDie_other (s : State) (h : m ≠ n) (x : Die) : (s.setDie n x).die m = s.die m := mget_mset_other _ _ h _
theorem State.die_setDie (s : State) (n : Nat) (x : Die) (m : Nat) : (s.setDie n x).die m = if m = n then x else s.die m := mget_mset ..
@[simp] theorem State.tile_setDie (s : State) (n : Nat) (x : Die) (m : Nat) : (s.setDie n x).tile m = s.tile m := rfl
@[simp] theorem State.port_setDie (s : State) (n : Nat) (x : Die) (m : Nat) : (s.setDie n x).port m = s.port m := rfl
@[simp] theorem State.part_setDie (s : State) (n : Nat) (x : Die) (m : Nat) : (s.setDie n x).part m = s.part m := rfl
@[simp] theorem State.port_setPort_same (s : State) (n : Nat) (x : Port) : (s.setPort n x).port n = x := mget_mset_same ..
theorem State.port_setPort_other (s : State) (h : m ≠ n) (x : Port) : (s.setPort n x).port m = s.port m := mget_mset_other _ _ h _
theorem State.port_setPort (s : State) (n : Nat) (x : Port) (m : Nat) : (s.setPort n x).port m = if m = n then x else s.port m := mget_mset ..
@[simp] theorem State.tile_setPort (s : State) (n : Nat) (x : Port) (m : Nat) : (s.setPort n x).tile m = s.tile m := rfl
@[simp] theorem State.die_setPort (s : State) (n : Nat) (x : Port) (m : Nat) : (s.setPort n x).die m = s.die m := rfl
@[simp] theorem State.part_setPort (s : State) (n : Nat) (x : Port) (m : Nat) : (s.setPort n x).part m = s.part m := rfl
@[simp] theorem State.part_setPart_same (s : State) (n : Nat) (x : Partition) : (s.setPart n x).part n = x := mget_mset_same ..
theorem State.part_setPart_other (s : State) (h : m ≠ n) (x : Partition) : (s.setPart n x).part m = s.part m := mget_mset_other _ _ h _
theorem State.part_setPart (s : State) (n : Nat) (x : Partition) (m : Nat) : (s.setPart n x).part m = if m = n then x else s.part m := mget_mset ..
@[simp] theorem State.tile_setPart (s : State) (n : Nat) (x : Partition) (m : Nat) : (s.setPart n x).tile m = s.tile m := rfl
@[simp] theorem State.die_setPart (s : State) (n : Nat) (x : Partition) (m : Nat) : (s.setPart n x).die m = s.die m := rfl
@[simp] theorem State.port_setPart (s : State) (n : Nat) (x : Partition) (m : Nat) : (s.setPart n x).port m = s.port m := rfl
@[simp] theorem State.tile_addCause (s : State) (c : Cause) (m : Nat) : (s.addCause c).tile m = s.tile m := rfl
@[simp] theorem State.die_addCause (s : State) (c : Cause) (m : Nat) : (s.addCause c).die m = s.die m := rfl
@[simp] theorem State.port_addCause (s : State) (c : Cause) (m : Nat) : (s.addCause c).port m = s.port m := rfl
@[simp] theorem State.part_addCause (s : State) (c : Cause) (m : Nat) : (s.addCause c).part m = s.part m := rfl
@[simp] theorem State.tile_nextFree (s : State) (m : Nat) : (s.nextFree ).tile m = s.tile m := rfl
@[simp] theorem State.die_nextFree (s : State) (m : Nat) : (s.nextFree ).die m = s.die m := rfl
@[simp] theorem State.port_nextFree (s : State) (m : Nat) : (s.nextFree ).port m = s.port m := rfl
@[simp] theorem State.part_nextFree (s : State) (m : Nat) : (s.nextFree ).part m = s.part m := rfl
@[simp] theorem State.die_setHere (s : State) (x : Tile) (m : Nat) : (s.setHere x).die m = s.die m := rfl
@[simp] theorem State.port_setHere (s : State) (x : Tile) (m : Nat) : (s.setHere x).port m = s.port m := rfl
@[simp] theorem State.part_setHere (s : State) (x : Tile) (m : Nat) : (s.setHere x).part m = s.part m := rfl
@[simp] theorem State.here_setHere (s : State) (x : Tile) : (s.setHere x).here = x := mget_mset_same ..
theorem State.tile_setHere_other (s : State) (h : m ≠ s.cur) (x : Tile) : (s.setHere x).tile m = s.tile m := mget_mset_other _ _ h _
@[simp] theorem State.tile_setHere_cur (s : State) (x : Tile) : (s.setHere x).tile s.cur = x := mget_mset_same ..
@[simp] theorem State.tile_cur (s : State) : s.tile s.cur = s.here := rfl
@[simp] theorem State.here_setDie (s : State) (n : Nat) (x : Die) : (s.setDie n x).here = s.here := rfl
@[simp] theorem State.here_setPart (s : State) (n : Nat) (x : Partition) : (s.setPart n x).here = s.here := rfl
@[simp] theorem State.here_setPort (s : State) (n : Nat) (x : Port) : (s.setPort n x).here = s.here := rfl
@[simp] theorem State.here_addCause (s : State) (c : Cause) : (s.addCause c).here = s.here := rfl
@[simp] theorem State.here_nextFree (s : State) : s.nextFree.here = s.here := rfl
theorem State.mapHere_eq (s : State) (f : Tile → Tile) : s.mapHere f = s.setHere (f s.here) := rfl
theorem State.mapTile_eq (s : State) (n : Nat) (f : Tile → Tile) : s.mapTile n f = s.setTile n (f (s.tile n)) := rfl

/-! ## Parts of a tile -/

@[simp] theorem Tile.setCluster_phase (t : Tile) (c : Nat) (x : Cluster) : (t.setCluster c x).phase = t.phase := rfl
@[simp] theorem Tile.setCluster_task (t : Tile) (c : Nat) (x : Cluster) : (t.setCluster c x).task = t.task := rfl
@[simp] theorem Tile.setCluster_pc (t : Tile) (c : Nat) (x : Cluster) : (t.setCluster c x).pc = t.pc := rfl
@[simp] theorem Tile.setCluster_level (t : Tile) (c : Nat) (x : Cluster) : (t.setCluster c x).level = t.level := rfl
@[simp] theorem Tile.setCluster_sGlobal (t : Tile) (c : Nat) (x : Cluster) : (t.setCluster c x).sGlobal = t.sGlobal := rfl
@[simp] theorem Tile.setCluster_sWindow (t : Tile) (c : Nat) (x : Cluster) : (t.setCluster c x).sWindow = t.sWindow := rfl
@[simp] theorem Tile.setCluster_wb (t : Tile) (c : Nat) (x : Cluster) : (t.setCluster c x).wb = t.wb := rfl
@[simp] theorem Tile.setCluster_frames (t : Tile) (c : Nat) (x : Cluster) : (t.setCluster c x).frames = t.frames := rfl
@[simp] theorem Tile.setCluster_spillMap (t : Tile) (c : Nat) (x : Cluster) : (t.setCluster c x).spillMap = t.spillMap := rfl
@[simp] theorem Tile.setCluster_p (t : Tile) (c : Nat) (x : Cluster) : (t.setCluster c x).p = t.p := rfl
@[simp] theorem Tile.setCluster_units (t : Tile) (c : Nat) (x : Cluster) : (t.setCluster c x).units = t.units := rfl
@[simp] theorem Tile.setCluster_user (t : Tile) (c : Nat) (x : Cluster) : (t.setCluster c x).user = t.user := rfl
@[simp] theorem Tile.setCluster_monitor (t : Tile) (c : Nat) (x : Cluster) : (t.setCluster c x).monitor = t.monitor := rfl
@[simp] theorem Tile.setCluster_quires (t : Tile) (c : Nat) (x : Cluster) : (t.setCluster c x).quires = t.quires := rfl
@[simp] theorem Tile.setCluster_store (t : Tile) (c : Nat) (x : Cluster) : (t.setCluster c x).store = t.store := rfl
@[simp] theorem Tile.setCluster_badWords (t : Tile) (c : Nat) (x : Cluster) : (t.setCluster c x).badWords = t.badWords := rfl
@[simp] theorem Tile.setCluster_buffers (t : Tile) (c : Nat) (x : Cluster) : (t.setCluster c x).buffers = t.buffers := rfl
@[simp] theorem Tile.setCluster_acc (t : Tile) (c : Nat) (x : Cluster) : (t.setCluster c x).acc = t.acc := rfl
@[simp] theorem Tile.setCluster_reserved (t : Tile) (c : Nat) (x : Cluster) : (t.setCluster c x).reserved = t.reserved := rfl
@[simp] theorem Tile.setCluster_shapes (t : Tile) (c : Nat) (x : Cluster) : (t.setCluster c x).shapes = t.shapes := rfl
@[simp] theorem Tile.setCluster_defined (t : Tile) (c : Nat) (x : Cluster) : (t.setCluster c x).defined = t.defined := rfl
@[simp] theorem Tile.setCluster_copies (t : Tile) (c : Nat) (x : Cluster) : (t.setCluster c x).copies = t.copies := rfl
@[simp] theorem Tile.setCluster_newest (t : Tile) (c : Nat) (x : Cluster) : (t.setCluster c x).newest = t.newest := rfl
@[simp] theorem Tile.setCluster_copyCache (t : Tile) (c : Nat) (x : Cluster) : (t.setCluster c x).copyCache = t.copyCache := rfl
@[simp] theorem Tile.setCluster_tokens (t : Tile) (c : Nat) (x : Cluster) : (t.setCluster c x).tokens = t.tokens := rfl
@[simp] theorem Tile.setCluster_producers (t : Tile) (c : Nat) (x : Cluster) : (t.setCluster c x).producers = t.producers := rfl
@[simp] theorem Tile.setCluster_semas (t : Tile) (c : Nat) (x : Cluster) : (t.setCluster c x).semas = t.semas := rfl
@[simp] theorem Tile.setCluster_matrix (t : Tile) (c : Nat) (x : Cluster) : (t.setCluster c x).matrix = t.matrix := rfl
@[simp] theorem Tile.setCluster_kiln (t : Tile) (c : Nat) (x : Cluster) : (t.setCluster c x).kiln = t.kiln := rfl
@[simp] theorem Tile.setCluster_rputs (t : Tile) (c : Nat) (x : Cluster) : (t.setCluster c x).rputs = t.rputs := rfl
@[simp] theorem Tile.setCluster_sends (t : Tile) (c : Nat) (x : Cluster) : (t.setCluster c x).sends = t.sends := rfl
@[simp] theorem Tile.setCluster_postings (t : Tile) (c : Nat) (x : Cluster) : (t.setCluster c x).postings = t.postings := rfl
@[simp] theorem Tile.setCluster_queues (t : Tile) (c : Nat) (x : Cluster) : (t.setCluster c x).queues = t.queues := rfl
@[simp] theorem Tile.setCluster_code (t : Tile) (c : Nat) (x : Cluster) : (t.setCluster c x).code = t.code := rfl
@[simp] theorem Tile.setCluster_fills (t : Tile) (c : Nat) (x : Cluster) : (t.setCluster c x).fills = t.fills := rfl
@[simp] theorem Tile.setCluster_fillFault (t : Tile) (c : Nat) (x : Cluster) : (t.setCluster c x).fillFault = t.fillFault := rfl
@[simp] theorem Tile.setCluster_icyc (t : Tile) (c : Nat) (x : Cluster) : (t.setCluster c x).icyc = t.icyc := rfl
@[simp] theorem Tile.setCluster_hcyc (t : Tile) (c : Nat) (x : Cluster) : (t.setCluster c x).hcyc = t.hcyc := rfl
@[simp] theorem Tile.setCluster_fcyc (t : Tile) (c : Nat) (x : Cluster) : (t.setCluster c x).fcyc = t.fcyc := rfl
@[simp] theorem Tile.setCluster_detRead (t : Tile) (c : Nat) (x : Cluster) : (t.setCluster c x).detRead = t.detRead := rfl
@[simp] theorem Tile.setCluster_karm (t : Tile) (c : Nat) (x : Cluster) : (t.setCluster c x).karm = t.karm := rfl
@[simp] theorem Tile.setCluster_semarm (t : Tile) (c : Nat) (x : Cluster) : (t.setCluster c x).semarm = t.semarm := rfl
@[simp] theorem Tile.setCluster_done (t : Tile) (c : Nat) (x : Cluster) : (t.setCluster c x).done = t.done := rfl
@[simp] theorem Tile.setCluster_doneWait (t : Tile) (c : Nat) (x : Cluster) : (t.setCluster c x).doneWait = t.doneWait := rfl
@[simp] theorem Tile.setCluster_alarms (t : Tile) (c : Nat) (x : Cluster) : (t.setCluster c x).alarms = t.alarms := rfl
@[simp] theorem Tile.setCluster_held (t : Tile) (c : Nat) (x : Cluster) : (t.setCluster c x).held = t.held := rfl
@[simp] theorem Tile.setCluster_holds (t : Tile) (c : Nat) (x : Cluster) : (t.setCluster c x).holds = t.holds := rfl
@[simp] theorem Tile.setCluster_stall (t : Tile) (c : Nat) (x : Cluster) : (t.setCluster c x).stall = t.stall := rfl
@[simp] theorem Tile.setCluster_digest (t : Tile) (c : Nat) (x : Cluster) : (t.setCluster c x).digest = t.digest := rfl
@[simp] theorem Tile.setCluster_frsel (t : Tile) (c : Nat) (x : Cluster) : (t.setCluster c x).frsel = t.frsel := rfl
@[simp] theorem Tile.setCluster_ctxsel (t : Tile) (c : Nat) (x : Cluster) : (t.setCluster c x).ctxsel = t.ctxsel := rfl
@[simp] theorem Tile.setCluster_jobsel (t : Tile) (c : Nat) (x : Cluster) : (t.setCluster c x).jobsel = t.jobsel := rfl
@[simp] theorem Tile.setCluster_ranksel (t : Tile) (c : Nat) (x : Cluster) : (t.setCluster c x).ranksel = t.ranksel := rfl
@[simp] theorem Tile.setCluster_stretch (t : Tile) (c : Nat) (x : Cluster) : (t.setCluster c x).stretch = t.stretch := rfl
@[simp] theorem Tile.setCluster_lastEvent (t : Tile) (c : Nat) (x : Cluster) : (t.setCluster c x).lastEvent = t.lastEvent := rfl
@[simp] theorem Tile.setCluster_issues (t : Tile) (c : Nat) (x : Cluster) : (t.setCluster c x).issues = t.issues := rfl
@[simp] theorem Tile.setCluster_nextId (t : Tile) (c : Nat) (x : Cluster) : (t.setCluster c x).nextId = t.nextId := rfl
@[simp] theorem Tile.setUnitsAt_phase (t : Tile) (l : Level) (u : UnitSet) : (t.setUnitsAt l u).phase = t.phase := by cases l <;> rfl
@[simp] theorem Tile.setUnitsAt_task (t : Tile) (l : Level) (u : UnitSet) : (t.setUnitsAt l u).task = t.task := by cases l <;> rfl
@[simp] theorem Tile.setUnitsAt_pc (t : Tile) (l : Level) (u : UnitSet) : (t.setUnitsAt l u).pc = t.pc := by cases l <;> rfl
@[simp] theorem Tile.setUnitsAt_level (t : Tile) (l : Level) (u : UnitSet) : (t.setUnitsAt l u).level = t.level := by cases l <;> rfl
@[simp] theorem Tile.setUnitsAt_sGlobal (t : Tile) (l : Level) (u : UnitSet) : (t.setUnitsAt l u).sGlobal = t.sGlobal := by cases l <;> rfl
@[simp] theorem Tile.setUnitsAt_sWindow (t : Tile) (l : Level) (u : UnitSet) : (t.setUnitsAt l u).sWindow = t.sWindow := by cases l <;> rfl
@[simp] theorem Tile.setUnitsAt_wb (t : Tile) (l : Level) (u : UnitSet) : (t.setUnitsAt l u).wb = t.wb := by cases l <;> rfl
@[simp] theorem Tile.setUnitsAt_frames (t : Tile) (l : Level) (u : UnitSet) : (t.setUnitsAt l u).frames = t.frames := by cases l <;> rfl
@[simp] theorem Tile.setUnitsAt_spillMap (t : Tile) (l : Level) (u : UnitSet) : (t.setUnitsAt l u).spillMap = t.spillMap := by cases l <;> rfl
@[simp] theorem Tile.setUnitsAt_p (t : Tile) (l : Level) (u : UnitSet) : (t.setUnitsAt l u).p = t.p := by cases l <;> rfl
@[simp] theorem Tile.setUnitsAt_quires (t : Tile) (l : Level) (u : UnitSet) : (t.setUnitsAt l u).quires = t.quires := by cases l <;> rfl
@[simp] theorem Tile.setUnitsAt_clusters (t : Tile) (l : Level) (u : UnitSet) : (t.setUnitsAt l u).clusters = t.clusters := by cases l <;> rfl
@[simp] theorem Tile.setUnitsAt_store (t : Tile) (l : Level) (u : UnitSet) : (t.setUnitsAt l u).store = t.store := by cases l <;> rfl
@[simp] theorem Tile.setUnitsAt_badWords (t : Tile) (l : Level) (u : UnitSet) : (t.setUnitsAt l u).badWords = t.badWords := by cases l <;> rfl
@[simp] theorem Tile.setUnitsAt_buffers (t : Tile) (l : Level) (u : UnitSet) : (t.setUnitsAt l u).buffers = t.buffers := by cases l <;> rfl
@[simp] theorem Tile.setUnitsAt_acc (t : Tile) (l : Level) (u : UnitSet) : (t.setUnitsAt l u).acc = t.acc := by cases l <;> rfl
@[simp] theorem Tile.setUnitsAt_reserved (t : Tile) (l : Level) (u : UnitSet) : (t.setUnitsAt l u).reserved = t.reserved := by cases l <;> rfl
@[simp] theorem Tile.setUnitsAt_shapes (t : Tile) (l : Level) (u : UnitSet) : (t.setUnitsAt l u).shapes = t.shapes := by cases l <;> rfl
@[simp] theorem Tile.setUnitsAt_defined (t : Tile) (l : Level) (u : UnitSet) : (t.setUnitsAt l u).defined = t.defined := by cases l <;> rfl
@[simp] theorem Tile.setUnitsAt_copies (t : Tile) (l : Level) (u : UnitSet) : (t.setUnitsAt l u).copies = t.copies := by cases l <;> rfl
@[simp] theorem Tile.setUnitsAt_newest (t : Tile) (l : Level) (u : UnitSet) : (t.setUnitsAt l u).newest = t.newest := by cases l <;> rfl
@[simp] theorem Tile.setUnitsAt_copyCache (t : Tile) (l : Level) (u : UnitSet) : (t.setUnitsAt l u).copyCache = t.copyCache := by cases l <;> rfl
@[simp] theorem Tile.setUnitsAt_tokens (t : Tile) (l : Level) (u : UnitSet) : (t.setUnitsAt l u).tokens = t.tokens := by cases l <;> rfl
@[simp] theorem Tile.setUnitsAt_producers (t : Tile) (l : Level) (u : UnitSet) : (t.setUnitsAt l u).producers = t.producers := by cases l <;> rfl
@[simp] theorem Tile.setUnitsAt_semas (t : Tile) (l : Level) (u : UnitSet) : (t.setUnitsAt l u).semas = t.semas := by cases l <;> rfl
@[simp] theorem Tile.setUnitsAt_matrix (t : Tile) (l : Level) (u : UnitSet) : (t.setUnitsAt l u).matrix = t.matrix := by cases l <;> rfl
@[simp] theorem Tile.setUnitsAt_kiln (t : Tile) (l : Level) (u : UnitSet) : (t.setUnitsAt l u).kiln = t.kiln := by cases l <;> rfl
@[simp] theorem Tile.setUnitsAt_rputs (t : Tile) (l : Level) (u : UnitSet) : (t.setUnitsAt l u).rputs = t.rputs := by cases l <;> rfl
@[simp] theorem Tile.setUnitsAt_sends (t : Tile) (l : Level) (u : UnitSet) : (t.setUnitsAt l u).sends = t.sends := by cases l <;> rfl
@[simp] theorem Tile.setUnitsAt_postings (t : Tile) (l : Level) (u : UnitSet) : (t.setUnitsAt l u).postings = t.postings := by cases l <;> rfl
@[simp] theorem Tile.setUnitsAt_queues (t : Tile) (l : Level) (u : UnitSet) : (t.setUnitsAt l u).queues = t.queues := by cases l <;> rfl
@[simp] theorem Tile.setUnitsAt_code (t : Tile) (l : Level) (u : UnitSet) : (t.setUnitsAt l u).code = t.code := by cases l <;> rfl
@[simp] theorem Tile.setUnitsAt_fills (t : Tile) (l : Level) (u : UnitSet) : (t.setUnitsAt l u).fills = t.fills := by cases l <;> rfl
@[simp] theorem Tile.setUnitsAt_fillFault (t : Tile) (l : Level) (u : UnitSet) : (t.setUnitsAt l u).fillFault = t.fillFault := by cases l <;> rfl
@[simp] theorem Tile.setUnitsAt_icyc (t : Tile) (l : Level) (u : UnitSet) : (t.setUnitsAt l u).icyc = t.icyc := by cases l <;> rfl
@[simp] theorem Tile.setUnitsAt_hcyc (t : Tile) (l : Level) (u : UnitSet) : (t.setUnitsAt l u).hcyc = t.hcyc := by cases l <;> rfl
@[simp] theorem Tile.setUnitsAt_fcyc (t : Tile) (l : Level) (u : UnitSet) : (t.setUnitsAt l u).fcyc = t.fcyc := by cases l <;> rfl
@[simp] theorem Tile.setUnitsAt_detRead (t : Tile) (l : Level) (u : UnitSet) : (t.setUnitsAt l u).detRead = t.detRead := by cases l <;> rfl
@[simp] theorem Tile.setUnitsAt_karm (t : Tile) (l : Level) (u : UnitSet) : (t.setUnitsAt l u).karm = t.karm := by cases l <;> rfl
@[simp] theorem Tile.setUnitsAt_semarm (t : Tile) (l : Level) (u : UnitSet) : (t.setUnitsAt l u).semarm = t.semarm := by cases l <;> rfl
@[simp] theorem Tile.setUnitsAt_done (t : Tile) (l : Level) (u : UnitSet) : (t.setUnitsAt l u).done = t.done := by cases l <;> rfl
@[simp] theorem Tile.setUnitsAt_doneWait (t : Tile) (l : Level) (u : UnitSet) : (t.setUnitsAt l u).doneWait = t.doneWait := by cases l <;> rfl
@[simp] theorem Tile.setUnitsAt_alarms (t : Tile) (l : Level) (u : UnitSet) : (t.setUnitsAt l u).alarms = t.alarms := by cases l <;> rfl
@[simp] theorem Tile.setUnitsAt_held (t : Tile) (l : Level) (u : UnitSet) : (t.setUnitsAt l u).held = t.held := by cases l <;> rfl
@[simp] theorem Tile.setUnitsAt_holds (t : Tile) (l : Level) (u : UnitSet) : (t.setUnitsAt l u).holds = t.holds := by cases l <;> rfl
@[simp] theorem Tile.setUnitsAt_stall (t : Tile) (l : Level) (u : UnitSet) : (t.setUnitsAt l u).stall = t.stall := by cases l <;> rfl
@[simp] theorem Tile.setUnitsAt_digest (t : Tile) (l : Level) (u : UnitSet) : (t.setUnitsAt l u).digest = t.digest := by cases l <;> rfl
@[simp] theorem Tile.setUnitsAt_frsel (t : Tile) (l : Level) (u : UnitSet) : (t.setUnitsAt l u).frsel = t.frsel := by cases l <;> rfl
@[simp] theorem Tile.setUnitsAt_ctxsel (t : Tile) (l : Level) (u : UnitSet) : (t.setUnitsAt l u).ctxsel = t.ctxsel := by cases l <;> rfl
@[simp] theorem Tile.setUnitsAt_jobsel (t : Tile) (l : Level) (u : UnitSet) : (t.setUnitsAt l u).jobsel = t.jobsel := by cases l <;> rfl
@[simp] theorem Tile.setUnitsAt_ranksel (t : Tile) (l : Level) (u : UnitSet) : (t.setUnitsAt l u).ranksel = t.ranksel := by cases l <;> rfl
@[simp] theorem Tile.setUnitsAt_stretch (t : Tile) (l : Level) (u : UnitSet) : (t.setUnitsAt l u).stretch = t.stretch := by cases l <;> rfl
@[simp] theorem Tile.setUnitsAt_lastEvent (t : Tile) (l : Level) (u : UnitSet) : (t.setUnitsAt l u).lastEvent = t.lastEvent := by cases l <;> rfl
@[simp] theorem Tile.setUnitsAt_issues (t : Tile) (l : Level) (u : UnitSet) : (t.setUnitsAt l u).issues = t.issues := by cases l <;> rfl
@[simp] theorem Tile.setUnitsAt_nextId (t : Tile) (l : Level) (u : UnitSet) : (t.setUnitsAt l u).nextId = t.nextId := by cases l <;> rfl
@[simp] theorem Tile.setHandler_phase (t : Tile) (h : Handler) : (t.setHandler h).phase = t.phase := by unfold Tile.setHandler; split <;> rfl
@[simp] theorem Tile.setHandler_task (t : Tile) (h : Handler) : (t.setHandler h).task = t.task := by unfold Tile.setHandler; split <;> rfl
@[simp] theorem Tile.setHandler_pc (t : Tile) (h : Handler) : (t.setHandler h).pc = t.pc := by unfold Tile.setHandler; split <;> rfl
@[simp] theorem Tile.setHandler_level (t : Tile) (h : Handler) : (t.setHandler h).level = t.level := by unfold Tile.setHandler; split <;> rfl
@[simp] theorem Tile.setHandler_sGlobal (t : Tile) (h : Handler) : (t.setHandler h).sGlobal = t.sGlobal := by unfold Tile.setHandler; split <;> rfl
@[simp] theorem Tile.setHandler_sWindow (t : Tile) (h : Handler) : (t.setHandler h).sWindow = t.sWindow := by unfold Tile.setHandler; split <;> rfl
@[simp] theorem Tile.setHandler_wb (t : Tile) (h : Handler) : (t.setHandler h).wb = t.wb := by unfold Tile.setHandler; split <;> rfl
@[simp] theorem Tile.setHandler_frames (t : Tile) (h : Handler) : (t.setHandler h).frames = t.frames := by unfold Tile.setHandler; split <;> rfl
@[simp] theorem Tile.setHandler_spillMap (t : Tile) (h : Handler) : (t.setHandler h).spillMap = t.spillMap := by unfold Tile.setHandler; split <;> rfl
@[simp] theorem Tile.setHandler_p (t : Tile) (h : Handler) : (t.setHandler h).p = t.p := by unfold Tile.setHandler; split <;> rfl
@[simp] theorem Tile.setHandler_units (t : Tile) (h : Handler) : (t.setHandler h).units = t.units := by unfold Tile.setHandler; split <;> rfl
@[simp] theorem Tile.setHandler_quires (t : Tile) (h : Handler) : (t.setHandler h).quires = t.quires := by unfold Tile.setHandler; split <;> rfl
@[simp] theorem Tile.setHandler_clusters (t : Tile) (h : Handler) : (t.setHandler h).clusters = t.clusters := by unfold Tile.setHandler; split <;> rfl
@[simp] theorem Tile.setHandler_store (t : Tile) (h : Handler) : (t.setHandler h).store = t.store := by unfold Tile.setHandler; split <;> rfl
@[simp] theorem Tile.setHandler_badWords (t : Tile) (h : Handler) : (t.setHandler h).badWords = t.badWords := by unfold Tile.setHandler; split <;> rfl
@[simp] theorem Tile.setHandler_buffers (t : Tile) (h : Handler) : (t.setHandler h).buffers = t.buffers := by unfold Tile.setHandler; split <;> rfl
@[simp] theorem Tile.setHandler_acc (t : Tile) (h : Handler) : (t.setHandler h).acc = t.acc := by unfold Tile.setHandler; split <;> rfl
@[simp] theorem Tile.setHandler_reserved (t : Tile) (h : Handler) : (t.setHandler h).reserved = t.reserved := by unfold Tile.setHandler; split <;> rfl
@[simp] theorem Tile.setHandler_shapes (t : Tile) (h : Handler) : (t.setHandler h).shapes = t.shapes := by unfold Tile.setHandler; split <;> rfl
@[simp] theorem Tile.setHandler_defined (t : Tile) (h : Handler) : (t.setHandler h).defined = t.defined := by unfold Tile.setHandler; split <;> rfl
@[simp] theorem Tile.setHandler_copies (t : Tile) (h : Handler) : (t.setHandler h).copies = t.copies := by unfold Tile.setHandler; split <;> rfl
@[simp] theorem Tile.setHandler_newest (t : Tile) (h : Handler) : (t.setHandler h).newest = t.newest := by unfold Tile.setHandler; split <;> rfl
@[simp] theorem Tile.setHandler_copyCache (t : Tile) (h : Handler) : (t.setHandler h).copyCache = t.copyCache := by unfold Tile.setHandler; split <;> rfl
@[simp] theorem Tile.setHandler_tokens (t : Tile) (h : Handler) : (t.setHandler h).tokens = t.tokens := by unfold Tile.setHandler; split <;> rfl
@[simp] theorem Tile.setHandler_producers (t : Tile) (h : Handler) : (t.setHandler h).producers = t.producers := by unfold Tile.setHandler; split <;> rfl
@[simp] theorem Tile.setHandler_semas (t : Tile) (h : Handler) : (t.setHandler h).semas = t.semas := by unfold Tile.setHandler; split <;> rfl
@[simp] theorem Tile.setHandler_matrix (t : Tile) (h : Handler) : (t.setHandler h).matrix = t.matrix := by unfold Tile.setHandler; split <;> rfl
@[simp] theorem Tile.setHandler_kiln (t : Tile) (h : Handler) : (t.setHandler h).kiln = t.kiln := by unfold Tile.setHandler; split <;> rfl
@[simp] theorem Tile.setHandler_rputs (t : Tile) (h : Handler) : (t.setHandler h).rputs = t.rputs := by unfold Tile.setHandler; split <;> rfl
@[simp] theorem Tile.setHandler_sends (t : Tile) (h : Handler) : (t.setHandler h).sends = t.sends := by unfold Tile.setHandler; split <;> rfl
@[simp] theorem Tile.setHandler_postings (t : Tile) (h : Handler) : (t.setHandler h).postings = t.postings := by unfold Tile.setHandler; split <;> rfl
@[simp] theorem Tile.setHandler_queues (t : Tile) (h : Handler) : (t.setHandler h).queues = t.queues := by unfold Tile.setHandler; split <;> rfl
@[simp] theorem Tile.setHandler_code (t : Tile) (h : Handler) : (t.setHandler h).code = t.code := by unfold Tile.setHandler; split <;> rfl
@[simp] theorem Tile.setHandler_fills (t : Tile) (h : Handler) : (t.setHandler h).fills = t.fills := by unfold Tile.setHandler; split <;> rfl
@[simp] theorem Tile.setHandler_fillFault (t : Tile) (h : Handler) : (t.setHandler h).fillFault = t.fillFault := by unfold Tile.setHandler; split <;> rfl
@[simp] theorem Tile.setHandler_icyc (t : Tile) (h : Handler) : (t.setHandler h).icyc = t.icyc := by unfold Tile.setHandler; split <;> rfl
@[simp] theorem Tile.setHandler_hcyc (t : Tile) (h : Handler) : (t.setHandler h).hcyc = t.hcyc := by unfold Tile.setHandler; split <;> rfl
@[simp] theorem Tile.setHandler_fcyc (t : Tile) (h : Handler) : (t.setHandler h).fcyc = t.fcyc := by unfold Tile.setHandler; split <;> rfl
@[simp] theorem Tile.setHandler_detRead (t : Tile) (h : Handler) : (t.setHandler h).detRead = t.detRead := by unfold Tile.setHandler; split <;> rfl
@[simp] theorem Tile.setHandler_karm (t : Tile) (h : Handler) : (t.setHandler h).karm = t.karm := by unfold Tile.setHandler; split <;> rfl
@[simp] theorem Tile.setHandler_semarm (t : Tile) (h : Handler) : (t.setHandler h).semarm = t.semarm := by unfold Tile.setHandler; split <;> rfl
@[simp] theorem Tile.setHandler_done (t : Tile) (h : Handler) : (t.setHandler h).done = t.done := by unfold Tile.setHandler; split <;> rfl
@[simp] theorem Tile.setHandler_doneWait (t : Tile) (h : Handler) : (t.setHandler h).doneWait = t.doneWait := by unfold Tile.setHandler; split <;> rfl
@[simp] theorem Tile.setHandler_alarms (t : Tile) (h : Handler) : (t.setHandler h).alarms = t.alarms := by unfold Tile.setHandler; split <;> rfl
@[simp] theorem Tile.setHandler_held (t : Tile) (h : Handler) : (t.setHandler h).held = t.held := by unfold Tile.setHandler; split <;> rfl
@[simp] theorem Tile.setHandler_holds (t : Tile) (h : Handler) : (t.setHandler h).holds = t.holds := by unfold Tile.setHandler; split <;> rfl
@[simp] theorem Tile.setHandler_stall (t : Tile) (h : Handler) : (t.setHandler h).stall = t.stall := by unfold Tile.setHandler; split <;> rfl
@[simp] theorem Tile.setHandler_digest (t : Tile) (h : Handler) : (t.setHandler h).digest = t.digest := by unfold Tile.setHandler; split <;> rfl
@[simp] theorem Tile.setHandler_frsel (t : Tile) (h : Handler) : (t.setHandler h).frsel = t.frsel := by unfold Tile.setHandler; split <;> rfl
@[simp] theorem Tile.setHandler_ctxsel (t : Tile) (h : Handler) : (t.setHandler h).ctxsel = t.ctxsel := by unfold Tile.setHandler; split <;> rfl
@[simp] theorem Tile.setHandler_jobsel (t : Tile) (h : Handler) : (t.setHandler h).jobsel = t.jobsel := by unfold Tile.setHandler; split <;> rfl
@[simp] theorem Tile.setHandler_ranksel (t : Tile) (h : Handler) : (t.setHandler h).ranksel = t.ranksel := by unfold Tile.setHandler; split <;> rfl
@[simp] theorem Tile.setHandler_stretch (t : Tile) (h : Handler) : (t.setHandler h).stretch = t.stretch := by unfold Tile.setHandler; split <;> rfl
@[simp] theorem Tile.setHandler_lastEvent (t : Tile) (h : Handler) : (t.setHandler h).lastEvent = t.lastEvent := by unfold Tile.setHandler; split <;> rfl
@[simp] theorem Tile.setHandler_issues (t : Tile) (h : Handler) : (t.setHandler h).issues = t.issues := by unfold Tile.setHandler; split <;> rfl
@[simp] theorem Tile.setHandler_nextId (t : Tile) (h : Handler) : (t.setHandler h).nextId = t.nextId := by unfold Tile.setHandler; split <;> rfl
@[simp] theorem Tile.cluster_setCluster_same (t : Tile) (c : Nat) (x : Cluster) : (t.setCluster c x).cluster c = x := mget_mset_same ..
theorem Tile.cluster_setCluster (t : Tile) (c : Nat) (x : Cluster) (d : Nat) :
    (t.setCluster c x).cluster d = if d = c then x else t.cluster d := mget_mset ..
@[simp] theorem Tile.unitsAt_setUnitsAt_same (t : Tile) (l : Level) (u : UnitSet) : (t.setUnitsAt l u).unitsAt l = u := by
  cases l <;> rfl
@[simp] theorem Tile.setUnitsAt_setUnitsAt (t : Tile) (l : Level) (u v : UnitSet) :
    (t.setUnitsAt l u).setUnitsAt l v = t.setUnitsAt l v := by cases l <;> rfl
@[simp] theorem Tile.setUnitsAt_unitsAt (t : Tile) (l : Level) : t.setUnitsAt l (t.unitsAt l) = t := by cases l <;> rfl
@[simp] theorem Tile.unitsAt_setCluster (t : Tile) (c : Nat) (x : Cluster) (l : Level) :
    (t.setCluster c x).unitsAt l = t.unitsAt l := by cases l <;> rfl

end Sys2Proof.Machine
end

