-- ==== Sys2Proof/Laws/Issue.lean ====
section
/-! SUPPORT. The issue cycle of a tile at rest: what the start of the cycle, the engines and the bookkeeping do then, and what a
one-move bundle leaves. -/

namespace Sys2Proof.Machine

open Host (Outcome)

@[simp] theorem State.setTile_setTile (s : State) (n : Nat) (x y : Tile) : (s.setTile n x).setTile n y = s.setTile n y := by
  simp [State.setTile]
@[simp] theorem State.setHere_setHere (s : State) (x y : Tile) : (s.setHere x).setHere y = s.setHere y := by
  simp [State.setHere, State.setTile]
@[simp] theorem State.setTile_cur' (s : State) (x : Tile) : s.setTile s.cur x = s.setHere x := rfl
@[simp] theorem State.tile_setHere_cur' (s : State) (x : Tile) : (s.setHere x).tile s.cur = x := mget_mset_same ..
@[simp] theorem State.setHere_setTile (s : State) (x y : Tile) : (s.setHere x).setTile s.cur y = s.setHere y :=
  State.setTile_setTile ..
@[simp] theorem State.mapHere_setHere (s : State) (x : Tile) (f : Tile → Tile) : (s.setHere x).mapHere f = s.setHere (f x) := by
  simp [State.mapHere_eq]

theorem OnlyHere.setHere (s : State) (x : Tile) : OnlyHere s (s.setHere x) :=
  ⟨fun _ h => State.tile_setHere_other s h x, rfl⟩

/-! ## The start of a cycle -/

theorem UnitSet.noFlights {u : UnitSet} (h : u.flights = []) : { u with flights := [] } = u := by cases u; simp_all

theorem Tile.noQuires {t : Tile} (h : t.quires = []) : { t with quires := [] } = t := by cases t; simp_all

@[simp] theorem prevailing_nil : prevailing [] = [] := rfl
@[simp] theorem prevailing_one (f : Flight) : prevailing [f] = [f] := by simp [prevailing]

theorem Tile.perform_quiet {t : Tile} {l : Level} (hf : (t.unitsAt l).flights = []) (hq : t.quires = []) : t.perform l = t := by
  have h1 : { (t.setUnitsAt l (t.unitsAt l)) with quires := ([] : List QuireStep) } = t := by
    rw [Tile.setUnitsAt_unitsAt]; exact Tile.noQuires hq
  unfold Tile.perform
  simp only [hf, hq, List.filter_nil, List.filterMap_nil, List.length_nil, List.range_zero, List.map_nil, ite_self,
    List.append_nil, List.foldl_nil, UnitSet.noFlights hf]
  exact h1

theorem Tile.commit_quiet {t : Tile} (hq : t.quires = []) : t.commitQuires = t := by
  unfold Tile.commitQuires
  simp only [hq, List.filter_nil, List.map_nil, List.head?_nil, List.isEmpty_nil, if_true]
  exact Tile.noQuires hq

theorem Tile.arrive_quiet {t : Tile} {l : Level} (hf : (t.unitsAt l).flights = []) (hq : t.quires = []) : t.arrive l = t := by
  unfold Tile.arrive
  simp only [Tile.perform_quiet hf hq, hf, hq, prevailing_nil, List.filter_nil, List.foldl_nil, UnitSet.noFlights hf,
    Tile.setUnitsAt_unitsAt, List.length_nil, upFrom, Tile.commit_quiet hq, ite_self]

theorem Tile.dueRedirects_quiet {t : Tile} (hf : (t.unitsAt t.level).flights = []) : t.dueRedirects = [] := by
  simp [Tile.dueRedirects, hf]

theorem Tile.start_quiet {t : Tile} (hf : (t.unitsAt t.level).flights = []) (hq : t.quires = []) : t.start = t := by
  unfold Tile.start
  simp only [Tile.arrive_quiet hf hq, Tile.dueRedirects_quiet hf, hf, List.filter_nil, List.foldl_nil, UnitSet.noFlights hf,
    Tile.setUnitsAt_unitsAt]

theorem Tile.deferred_quiet {t : Tile} (hf : (t.unitsAt t.level).flights = []) (hq : t.quires = []) : t.deferred = none := by
  simp [Tile.deferred, Tile.deferredFlights, Tile.deferredQuires, hf, hq, leastDeferred]

theorem Tile.endingDue_quiet {t : Tile} (hf : (t.unitsAt t.level).flights = []) : t.endingDue = false := by
  unfold Tile.endingDue
  cases h : t.level <;> simp [h, Tile.unitsAt] at hf ⊢
  simp [hf]

theorem Tile.spillRow_quiet {t : Tile} (hf : (t.unitsAt t.level).flights = []) : t.spillRow = [] := by
  simp [Tile.spillRow, Tile.spillHold, Tile.dueRedirects_quiet hf]

theorem asynchronous_calm {s : State} (ha : s.here.alarms = []) (hd : s.here.done = []) (hm : s.here.matrix = {}) (e : Word) :
    asynchronous s e = none := by
  simp [asynchronous, ha, hd, hm]

/-! ## The engines of a tile without commands -/

theorem State.copyTick_quiet {s : State} {n : Nat} (h : (s.tile n).newest = []) : s.copyTick n = s := by
  simp [State.copyTick, h]

theorem Tile.releaseBanks_quiet {t : Tile} (h : t.matrix = {}) : t.releaseBanks = t := by
  unfold Tile.releaseBanks
  cases t; simp_all

theorem State.matrixTick_quiet {s : State} {x b : Tile} (h : x.matrix = {}) :
    (s.setHere x).matrixTick s.cur b = s.setHere x := by
  have h2 : x.advanceShadow = x := by unfold Tile.advanceShadow; simp [h]
  have h3 : x.dropDoomed 4 = x := by unfold Tile.dropDoomed; simp [h]
  unfold State.matrixTick
  simp only [State.tile_setHere_cur', State.setHere_setTile]
  simp [h, h2, h3]

theorem Tile.settleFaults_quiet {t : Tile} (hc : t.copies = []) (h : t.matrix = {}) : t.settleFaults = t := by
  have hd : t.hasDoomed = false := by simp [Tile.hasDoomed, hc, h]
  simp [Tile.settleFaults, Tile.dropFaulted, hd]

theorem State.engineTick_quiet {s : State} {x : Tile} (hn : x.newest = []) (hc : x.copies = []) (h : x.matrix = {}) :
    (s.setHere x).engineTick s.cur = s.setHere x := by
  unfold State.engineTick
  simp only [State.tile_setHere_cur', Tile.releaseBanks_quiet h, State.setHere_setTile]
  rw [State.copyTick_quiet (by simpa using hn), State.matrixTick_quiet h, State.mapTile_eq]
  simp [Tile.settleFaults_quiet hc h]

theorem State.transferTick_quiet {s : State} {n : Nat} (hk : (s.tile n).kiln = []) (hs : (s.tile n).sends = []) :
    s.transferTick n = s := by
  simp [State.transferTick, hk, hs]

theorem State.transferTicks_quiet {s : State} {n : Nat} (hk : (s.tile n).kiln = []) (hs : (s.tile n).sends = []) (k : Nat) :
    s.transferTicks n k = s := by
  induction k with
  | zero => rfl
  | succ k ih => rw [State.transferTicks, State.transferTick_quiet hk hs, ih]

/-! ## The issue of a one-move bundle -/

/-- The slot of a trigger that stands alone in its bundle. -/
def soleSlot (m : Move) (d : Nat) (op : Operation) : Slot := { move := m, code := d, op := some op }

/-- That slot with what its move carries on a tile. -/
def soleActive (t : Tile) (m : Move) (d : Nat) (op : Operation) (v : Moved) : Active :=
  { slot := soleSlot m d op, value := v, window := if d = 0x1E1 then (upFrom 8 8).map t.readS else [] }

/-- The trigger as it issues. -/
def soleTrigger (t : Tile) (m : Move) (d : Nat) (op : Operation) (v : Moved) : Trigger :=
  (soleActive t m d op v).trigger t.pc (vxValues [soleActive t m d op v])

/-- A tile at rest whose trigger raises no event and meets no hold issues it. -/
theorem issueOne_calm {name : String} {i : Instr} {m : Move} {op : Operation} {s : State} {v : Moved} {x : Tile}
    (hc : s.here.calm) (hv : s.here.moved m = some v) (hx : s.here.writeMove m i.code v = x)
    (hr : handlerRestricted x m i.code = false) (hi : idleCluster x.inUse m i.code = false)
    (hk : op.check (soleTrigger s.here m i.code op v) (s.setHere x) = [])
    (hf : op.fault (soleTrigger s.here m i.code op v) (s.setHere x) = none)
    (hh : op.hold (soleTrigger s.here m i.code op v) (s.setHere x) = [])
    (hb : x.reserved = []) :
    issueOne name i m op s
      = .next ((issueBundle [soleActive s.here m i.code op v] (wordCount m) s.here.pc (s.setHere x)).transferTicks s.cur
          (min 16 ((issueBundle [soleActive s.here m i.code op v] (wordCount m) s.here.pc (s.setHere x)).here.cycles
            - s.here.cycles).toNat)) := by
  obtain ⟨h1, h2, h3, h4, h5, h6, h7, h8, h9, h10, h11⟩ := hc
  have hplan : planCycle (fun _ => .ready [soleSlot m i.code op] (wordCount m)) s
      = .issue [soleActive s.here m i.code op v] (wordCount m) s.here.pc (s.setHere x) := by
    unfold planCycle
    simp only [Tile.deferred_quiet h2 h3, Tile.endingDue_quiet h2, State.mapHere_eq, Tile.start_quiet h2 h3,
      State.here_setHere, Bool.false_eq_true, if_false]
    have has : activeSlots s.here [soleSlot m i.code op] = [soleActive s.here m i.code op v] := by
      simp [activeSlots, soleSlot, hv, soleActive]
    simp only [has, List.foldl_cons, List.foldl_nil, State.here_setHere, State.setHere_setHere]
    have hw : s.here.writeMove (soleActive s.here m i.code op v).slot.move (soleActive s.here m i.code op v).slot.code
        (soleActive s.here m i.code op v).value = x := hx
    have hk' : op.check ((soleActive s.here m i.code op v).trigger s.here.pc (vxValues [soleActive s.here m i.code op v]))
        (s.setHere x) = [] := hk
    have hf' : op.fault ((soleActive s.here m i.code op v).trigger s.here.pc (vxValues [soleActive s.here m i.code op v]))
        (s.setHere x) = none := hf
    have hh' : op.hold ((soleActive s.here m i.code op v).trigger s.here.pc (vxValues [soleActive s.here m i.code op v]))
        (s.setHere x) = [] := hh
    have hop : (soleActive s.here m i.code op v).slot.op = some op := rfl
    have hevents : (soleActive s.here m i.code op v).events (s.setHere x) s.here.pc
        (vxValues [soleActive s.here m i.code op v]) [] = [] := by
      have e1 : handlerRestricted x (soleActive s.here m i.code op v).slot.move (soleActive s.here m i.code op v).slot.code
          = false := hr
      have e2 : idleCluster x.inUse (soleActive s.here m i.code op v).slot.move (soleActive s.here m i.code op v).slot.code
          = false := hi
      unfold Active.events
      simp only [State.here_setHere, hop, hk', eventsOf, duplicate, e1, e2]
      simp
    have hpre : preIssue (bundleEvents (s.setHere x) s.here.pc (vxValues [soleActive s.here m i.code op v]) []
        [soleActive s.here m i.code op v]) = none := by
      simp only [bundleEvents, hevents]
      simp [preIssue, illegalOf, leastCause, firstCause]
    have hhold : bundleHolds (s.setHere x) s.here.pc (vxValues [soleActive s.here m i.code op v])
        [soleActive s.here m i.code op v] = [] := by
      simp only [bundleHolds, List.find?_cons, List.find?_nil, hop, List.flatMap_cons, List.flatMap_nil, hh',
        State.here_setHere, Tile.reservedBanks, hb, List.foldl_nil]
      have hany : ∀ l : List (Nat × Nat), (l.any fun _ => false) = false := fun l => by simp
      simp [hany]
    simp only [hw, hpre, List.findSome?_cons, List.findSome?_nil, hop, Option.bind_some, hf', Tile.spillRow_quiet h2, hhold,
      List.nil_append]
    rw [asynchronous_calm h10 h11 h6]
    rfl
  show cycle name (fun _ => .ready [soleSlot m i.code op] (wordCount m)) s = _
  unfold cycle
  simp only [h1, if_true, hplan, runPlan, enactPlan]

/-! ## The tile's own part of an issue cycle -/

theorem Tile.touchLine_eq (t : Tile) (p l : Nat) : t.touchLine p l = { t with code := (t.touchLine p l).code } := by
  unfold Tile.touchLine
  dsimp only
  split <;> rfl

theorem Tile.touchLine_code_congr {a b : Tile} (h : a.code = b.code) (p l : Nat) :
    (a.touchLine p l).code = (b.touchLine p l).code := by
  unfold Tile.touchLine
  dsimp only
  rw [h]
  split
  · rfl
  · exact h

/-- What an issue cycle makes of a tile without vq operations in flight, field by field. -/
theorem Tile.issued_eq {t : Tile} (hq : t.quires = []) (b : Word) (w : Nat) :
    t.issued b w =
      { (t.setUnitsAt t.level { t.unitsAt t.level with
            flights := (t.unitsAt t.level).flights.map (fun f => f.counted.linked (b + BitVec.ofNat 64 (4 * w))) }) with
        pc := b + BitVec.ofNat 64 (4 * w), held := none, holds := 0, issues := t.issues + 1
        stall := if t.level = .task then none else t.stall
        icyc := if t.level = .task then t.icyc + 1 else t.icyc
        fcyc := if t.level = .task then t.fcyc else t.fcyc + 1
        code := ((t.touchLine t.part (b.toNat / 256)).touchLine t.part ((b.toNat + 4 * w - 1) / 256)).code } := by
  rw [Tile.issued, Tile.touchLine_eq (t.touchLine _ _), Tile.touchLine_eq t]
  cases h : t.level <;>
    simp only [Tile.countDown, Tile.linkCalls, Tile.setUnitsAt, Tile.unitsAt, h, List.map_map, Function.comp_def, hq,
      List.map_nil, if_true, reduceCtorEq, if_false]

end Sys2Proof.Machine
end

