-- ==== Sys2Proof/Laws/Bundle.lean ====
section
/-! SUPPORT. What a one-move bundle of a tile at rest leaves: its trigger's effect on the tile, then one issue cycle. -/

namespace Sys2Proof.Machine

open Host (Outcome)

/-! ## An issue cycle, part by part -/

variable {t : Tile} (hq : t.quires = []) (b : Word) (w : Nat)
include hq

theorem Tile.issued_level : (t.issued b w).level = t.level := by rw [Tile.issued_eq hq]; simp
theorem Tile.issued_newest : (t.issued b w).newest = t.newest := by rw [Tile.issued_eq hq]; simp
theorem Tile.issued_copies : (t.issued b w).copies = t.copies := by rw [Tile.issued_eq hq]; simp
theorem Tile.issued_matrix : (t.issued b w).matrix = t.matrix := by rw [Tile.issued_eq hq]; simp
theorem Tile.issued_kiln : (t.issued b w).kiln = t.kiln := by rw [Tile.issued_eq hq]; simp
theorem Tile.issued_sends : (t.issued b w).sends = t.sends := by rw [Tile.issued_eq hq]; simp

theorem Tile.issued_flying :
    (t.issued b w).flying = t.flying.map (fun f => f.counted.linked (b + BitVec.ofNat 64 (4 * w))) := by
  rw [Tile.issued_eq hq]
  cases h : t.level <;> simp [Tile.flying, Tile.unitsAt, Tile.setUnitsAt, h]

theorem Tile.issued_bare : (t.issued b w).bare = t.bare := by
  rw [Tile.issued_eq hq]
  cases h : t.level <;> simp [Tile.bare, Tile.unitsAt, Tile.setUnitsAt, h]

/-- The bookkeeping of a cycle, when what the trigger did left the tile's own bookkeeping as it was. -/
theorem Tile.issued_advanced {a : Tile} (h1 : t.level = a.level) (h2 : t.task = a.task) (h3 : t.code = a.code)
    (h4 : t.issues = a.issues) (h5 : t.icyc = a.icyc) (h6 : t.hcyc = a.hcyc) (h7 : t.fcyc = a.fcyc) (h8 : t.stall = a.stall) :
    a.advanced (t.issued a.pc w) w := by
  have hp : t.part = a.part := by unfold Tile.part; rw [h2]
  have hc : ∀ p l q m, ((t.touchLine p l).touchLine q m).code = ((a.touchLine p l).touchLine q m).code := fun p l q m =>
    Tile.touchLine_code_congr (Tile.touchLine_code_congr h3 p l) q m
  rw [Tile.issued_eq hq]
  refine ⟨rfl, rfl, rfl, by simp [h4], by simp [h6], ?_, by simp [hp, hc]⟩
  by_cases h : a.level = .task <;> simp [h1, h, h5, h7, h8]

theorem Tile.issued_cycles {a : Tile} (h1 : t.icyc = a.icyc) (h2 : t.hcyc = a.hcyc) (h3 : t.fcyc = a.fcyc) :
    (t.issued b w).cycles - a.cycles = 1 := by
  rw [Tile.issued_eq hq]
  by_cases h : t.level = .task <;> simp only [Tile.cycles, h, if_true, if_false, h1, h2, h3, Tile.setUnitsAt_hcyc] <;> bv_omega

omit hq

/-! ## The whole bundle -/

/-- A trigger that acts on its own tile alone, starts no command and no access, and raises nothing. -/
theorem issueOne_here {name : String} {i : Instr} {m : Move} {op : Operation} {s : State} {v : Moved} {x y : Tile}
    (hc : s.here.calm) (hv : s.here.moved m = some v) (hx : s.here.writeMove m i.code v = x)
    (hr : handlerRestricted x m i.code = false) (hi : idleCluster x.inUse m i.code = false)
    (hb : x.reserved = [])
    (hk : op.check (soleTrigger s.here m i.code op v) (s.setHere x) = [])
    (hf : op.fault (soleTrigger s.here m i.code op v) (s.setHere x) = none)
    (hh : op.hold (soleTrigger s.here m i.code op v) (s.setHere x) = [])
    (ha : op.act (soleTrigger s.here m i.code op v) (s.setHere x) = s.setHere y)
    (hl : ∀ u, op.late (soleTrigger s.here m i.code op v) u = u)
    (ht : op.after (soleTrigger s.here m i.code op v) = .nothing)
    (h1 : y.quires = []) (h2 : y.newest = []) (h3 : y.matrix = {}) (h4 : y.kiln = []) (h5 : y.sends = []) (h6 : y.copies = []) :
    issueOne name i m op s = .next (s.setHere (y.issued s.here.pc (wordCount m))) := by
  have key : issueBundle [soleActive s.here m i.code op v] (wordCount m) s.here.pc (s.setHere x)
      = s.setHere (y.issued s.here.pc (wordCount m)) := by
    have hop : (soleActive s.here m i.code op v).slot.op = some op := rfl
    have ha' : op.act ((soleActive s.here m i.code op v).trigger s.here.pc (vxValues [soleActive s.here m i.code op v]))
      (s.setHere x) = s.setHere y := ha
    have hl' : ∀ u, op.late ((soleActive s.here m i.code op v).trigger s.here.pc
      (vxValues [soleActive s.here m i.code op v])) u = u := hl
    have ht' : op.after ((soleActive s.here m i.code op v).trigger s.here.pc (vxValues [soleActive s.here m i.code op v]))
      = .nothing := ht
    unfold issueBundle
    simp only [List.filterMap_cons, List.filterMap_nil, hop, Option.map_some, List.foldl_cons, List.foldl_nil, ha', hl', ht',
      List.map_cons, List.map_nil, State.mapHere_setHere, State.setHere_cur]
    rw [State.engineTick_quiet (by rw [Tile.issued_newest h1, h2]) (by rw [Tile.issued_copies h1, h6]) (by rw [Tile.issued_matrix h1, h3]), ite_self]
    simp [afterBundle]
  rw [issueOne_calm hc hv hx hr hi hk hf hh hb, key, State.transferTicks_quiet]
  · rw [State.tile_setHere_cur', Tile.issued_kiln h1, h4]
  · rw [State.tile_setHere_cur', Tile.issued_sends h1, h5]

/-! ## Changes of a tile that leave its bookkeeping and engines alone -/

/-- Two tiles that agree on the level, the task, the bookkeeping of the sequencer and the engines. -/
structure Tile.Keeps (a b : Tile) : Prop where
  level    : b.level = a.level
  task     : b.task = a.task
  code     : b.code = a.code
  issues   : b.issues = a.issues
  icyc     : b.icyc = a.icyc
  hcyc     : b.hcyc = a.hcyc
  fcyc     : b.fcyc = a.fcyc
  stall    : b.stall = a.stall
  reserved : b.reserved = a.reserved
  quires   : b.quires = a.quires
  newest   : b.newest = a.newest
  copies   : b.copies = a.copies
  matrix   : b.matrix = a.matrix
  kiln     : b.kiln = a.kiln
  sends    : b.sends = a.sends

theorem Tile.Keeps.refl (a : Tile) : a.Keeps a := by constructor <;> rfl

theorem Tile.Keeps.trans {a b c : Tile} (h : a.Keeps b) (k : b.Keeps c) : a.Keeps c := by
  constructor
  · rw [k.level, h.level]
  · rw [k.task, h.task]
  · rw [k.code, h.code]
  · rw [k.issues, h.issues]
  · rw [k.icyc, h.icyc]
  · rw [k.hcyc, h.hcyc]
  · rw [k.fcyc, h.fcyc]
  · rw [k.stall, h.stall]
  · rw [k.reserved, h.reserved]
  · rw [k.quires, h.quires]
  · rw [k.newest, h.newest]
  · rw [k.copies, h.copies]
  · rw [k.matrix, h.matrix]
  · rw [k.kiln, h.kiln]
  · rw [k.sends, h.sends]

theorem Tile.Keeps.setUnitsAt (t : Tile) (l : Level) (u : UnitSet) : t.Keeps (t.setUnitsAt l u) := by constructor <;> simp
theorem Tile.Keeps.setPort (t : Tile) (c : Nat) (v : Word) : t.Keeps (t.setPort c v) := Tile.Keeps.setUnitsAt ..
theorem Tile.Keeps.setCluster (t : Tile) (c : Nat) (x : Cluster) : t.Keeps (t.setCluster c x) := by constructor <;> simp
theorem Tile.Keeps.setVport (t : Tile) (c p : Nat) (l : BitVec 16) (v : Vec) : t.Keeps (t.setVport c p l v) :=
  Tile.Keeps.setCluster ..
theorem Tile.Keeps.launchFlight (t : Tile) (f : Flight) : t.Keeps (t.launchFlight f) := Tile.Keeps.setUnitsAt ..
theorem Tile.Keeps.setHandler (t : Tile) (h : Handler) : t.Keeps (t.setHandler h) := by constructor <;> simp
theorem Tile.Keeps.writeS (t : Tile) (r : Nat) (v : Word) : t.Keeps (t.writeS r v) := by
  unfold Tile.writeS
  split
  · constructor <;> rfl
  · split
    · exact Tile.Keeps.setHandler ..
    · constructor <;> rfl
theorem Tile.Keeps.writeP (t : Tile) (k : Nat) (b : Bool) : t.Keeps (t.writeP k b) := by
  unfold Tile.writeP
  split
  · exact Tile.Keeps.setHandler ..
  · split
    · exact Tile.Keeps.setHandler ..
    · constructor <;> rfl

theorem Tile.Keeps.inUse {a b : Tile} (h : a.Keeps b) : b.inUse = a.inUse := by unfold Tile.inUse; rw [h.task]
theorem Tile.Keeps.restricted {a b : Tile} (h : a.Keeps b) (m : Move) (d : Nat) :
    handlerRestricted b m d = handlerRestricted a m d := by unfold handlerRestricted Tile.inHandler; rw [h.level]

/-- A trigger that acts on its own tile alone and leaves the bookkeeping and the engines to the cycle: the step completes, the
bookkeeping advances, and the rest of the tile is as the trigger left it. -/
theorem issueOne_ran {name : String} {i : Instr} {m : Move} {op : Operation} {s : State} {v : Moved} {x y : Tile}
    (hc : s.here.calm) (hv : s.here.moved m = some v) (hx : s.here.writeMove m i.code v = x)
    (hr : handlerRestricted s.here m i.code = false) (hi : idleCluster s.here.inUse m i.code = false)
    (kx : s.here.Keeps x) (ky : s.here.Keeps y)
    (hk : op.check (soleTrigger s.here m i.code op v) (s.setHere x) = [])
    (hf : op.fault (soleTrigger s.here m i.code op v) (s.setHere x) = none)
    (hh : op.hold (soleTrigger s.here m i.code op v) (s.setHere x) = [])
    (ha : op.act (soleTrigger s.here m i.code op v) (s.setHere x) = s.setHere y)
    (hl : ∀ u, op.late (soleTrigger s.here m i.code op v) u = u)
    (ht : op.after (soleTrigger s.here m i.code op v) = .nothing) :
    ∃ t, issueOne name i m op s = .next t ∧ Ran s t m
      ∧ t.here.flying = y.flying.map (fun f => f.counted.linked (s.here.pc + BitVec.ofNat 64 (4 * wordCount m)))
      ∧ t.here.bare = y.bare := by
  have hc' := hc
  obtain ⟨-, -, h3, h4, h5, h6, h7, h8, h9, -, -⟩ := hc'
  have q : y.quires = [] := by rw [ky.quires, h3]
  refine ⟨_, issueOne_here hc hv hx (by rw [kx.restricted, hr]) (by rw [kx.inUse, hi]) (by rw [kx.reserved, h7]) hk hf hh ha hl ht
    q (by rw [ky.newest, h5]) (by rw [ky.matrix, h6]) (by rw [ky.kiln, h8]) (by rw [ky.sends, h9])
    (by rw [ky.copies, h4]), ?_, ?_, ?_⟩
  · refine ⟨OnlyHere.setHere .., ?_⟩
    rw [State.here_setHere]
    exact Tile.issued_advanced q _ ky.level ky.task ky.code ky.issues ky.icyc ky.hcyc ky.fcyc ky.stall
  · rw [State.here_setHere, Tile.issued_flying q]
  · rw [State.here_setHere, Tile.issued_bare q]

/-! ## Triggers of the tile domain -/

theorem Tile.moved_tile {t : Tile} {m : Move} {d : Nat} (h : t.mayMove m d) :
    t.moved m = some { word := t.source m.src, parts := [] } := by
  simp [Tile.moved, h.1, h.2.1]

/-- A trigger writes port a of its unit (R200). -/
theorem Tile.writeMove_trigger {t : Tile} {m : Move} {d p : Nat} {v : Moved} (hm : m.bus.isTile = true) (hd : 0x180 ≤ d)
    (hp : (unitOf true d).bind portA = some p) : t.writeMove m d v = t.setPort p v.word := by
  have : ¬ d < 0x180 := by omega
  simp [Tile.writeMove, this, Tile.writePortA, hm, hp]

theorem Tile.writeMove_none {t : Tile} {m : Move} {d : Nat} {v : Moved} (hm : m.bus.isTile = true) (hd : 0x180 ≤ d)
    (hp : (unitOf true d).bind portA = none) : t.writeMove m d v = t := by
  have : ¬ d < 0x180 := by omega
  simp [Tile.writeMove, this, Tile.writePortA, hm, hp]

@[simp] theorem Tile.flying_setPort (t : Tile) (c : Nat) (v : Word) : (t.setPort c v).flying = t.flying := by
  cases h : t.level <;> simp [Tile.flying, Tile.setPort, Tile.setUnitsAt, Tile.unitsAt, h]

@[simp] theorem Tile.level_setPort (t : Tile) (c : Nat) (v : Word) : (t.setPort c v).level = t.level := by
  simp [Tile.setPort]

@[simp] theorem Tile.flying_launchFlight (t : Tile) (f : Flight) : (t.launchFlight f).flying = t.flying ++ [f] := by
  cases h : t.level <;> simp [Tile.flying, Tile.launchFlight, Tile.setUnitsAt, Tile.unitsAt, h]

@[simp] theorem Tile.bare_launchFlight (t : Tile) (f : Flight) : (t.launchFlight f).bare = t.bare := by
  cases h : t.level <;> simp [Tile.bare, Tile.launchFlight, Tile.setUnitsAt, Tile.unitsAt, h]

/-- The value of a trigger's port a and of the unit's other ports, as the trigger reads them. -/
theorem Tile.port_setPort (t : Tile) (c : Nat) (v : Word) (d : Nat) :
    (t.setPort c v).port d = if d = c then v else t.port d := by
  cases h : t.level <;> simp [Tile.port, Tile.setPort, Tile.setUnitsAt, Tile.unitsAt, h, mget_mset]

/-- A trigger that sends one result to a tile latch. -/
theorem issueOne_result {name : String} {i : Instr} {m : Move} {op : Operation} {s : State} {p L port : Nat} {r : Word}
    (hc : s.here.calm) (hm : s.here.mayMove m i.code) (hd : 0x180 ≤ i.code) (hp : (unitOf true i.code).bind portA = some p)
    (hk : ∀ tr : Trigger, tr.move = m → op.check tr (s.setHere (s.here.setPort p (s.here.source m.src))) = [])
    (hf : ∀ tr u, op.fault tr u = none) (hh : ∀ tr u, op.hold tr u = [])
    (ha : ∀ tr : Trigger, tr.move = m → tr.value.word = s.here.source m.src →
      op.act tr (s.setHere (s.here.setPort p (s.here.source m.src)))
        = sendResult tr (L + 1) port r (s.setHere (s.here.setPort p (s.here.source m.src))))
    (hl : ∀ tr u, op.late tr u = u) (ht : ∀ tr, op.after tr = .nothing) :
    ∃ t f, issueOne name i m op s = .next t ∧ Ran s t m ∧ t.here.flying = [f] ∧ Brings f (L + 1) port r
      ∧ t.here.bare = (s.here.setPort p (s.here.source m.src)).bare := by
  have hv := Tile.moved_tile hm
  have kx := Tile.Keeps.setPort s.here p (s.here.source m.src)
  have hact := ha (soleTrigger s.here m i.code op { word := s.here.source m.src, parts := [] }) rfl rfl
  unfold sendResult at hact
  rw [State.mapHere_setHere] at hact
  obtain ⟨t, h1, h2, h3, h4⟩ := issueOne_ran (name := name) hc hv (Tile.writeMove_trigger hm.1 hd hp) hm.2.2.2 hm.2.2.1 kx
    (kx.trans (Tile.Keeps.launchFlight ..)) (hk _ rfl) (hf ..) (hh ..) hact (hl _) (ht _)
  have hfl : s.here.flying = [] := hc.2.1
  rw [Tile.flying_launchFlight, Tile.flying_setPort, hfl, List.nil_append, List.map_cons, List.map_nil] at h3
  refine ⟨t, _, h1, h2, h3, ?_, by rw [h4, Tile.bare_launchFlight]⟩
  simp [Brings, Flight.counted, Flight.linked, Trigger.flight]

end Sys2Proof.Machine
end

