-- ==== Sys2Proof/Laws/Filler.lean ====
section
/-! SUPPORT. Bundles without triggers: the filler and the plain move, on a tile at rest and on a tile with one record in
flight. -/

namespace Sys2Proof.Machine

open Host (Outcome)

/-- The cycle of a bundle whose moves trigger nothing: the start of the cycle leaves x, the moves make it y. -/
theorem cycle_plain {name : String} {fetch : State → Fetched} {slots : List Slot} {words : Nat} {s : State} {x y : Tile}
    (h1 : s.here.canIssue = true) (h2 : s.here.deferred = none) (h3 : s.here.endingDue = false) (h4 : s.here.spillRow = [])
    (h5 : s.here.alarms = []) (h6 : s.here.done = []) (h7 : s.here.matrix = {}) (hx : s.here.start = x)
    (hfetch : fetch (s.setHere x) = .ready slots words)
    (hw : (activeSlots x slots).foldl
      (fun s a => s.mapHere (fun t => t.writeMove a.slot.move a.slot.code a.value)) (s.setHere x) = s.setHere y)
    (he : preIssue (bundleEvents (s.setHere y) x.pc (vxValues (activeSlots x slots)) [] (activeSlots x slots)) = none)
    (ho : ∀ a ∈ activeSlots x slots, a.slot.op = none)
    (k1 : y.quires = []) (k2 : y.newest = []) (k3 : y.matrix = {}) (k4 : y.kiln = []) (k5 : y.sends = [])
    (k6 : y.copies = []) :
    cycle name fetch s = .next (s.setHere (y.issued x.pc words)) := by
  have hf : (activeSlots x slots).findSome?
      (fun a => a.slot.op.bind (fun o => o.fault (a.trigger x.pc (vxValues (activeSlots x slots))) (s.setHere y))) = none := by
    rw [List.findSome?_eq_none_iff]
    intro a ha
    simp [ho a ha]
  have hb : bundleHolds (s.setHere y) x.pc (vxValues (activeSlots x slots)) (activeSlots x slots) = [] := by
    unfold bundleHolds
    rw [List.append_eq_nil_iff]
    constructor
    · split
      · rename_i a h
        have hm := List.mem_of_find?_eq_some h
        have hp := List.find?_some h
        simp [ho a hm] at hp
      · rfl
    · rw [List.flatMap_eq_nil_iff]
      intro a ha
      simp [ho a ha]
  have hacts : (activeSlots x slots).filterMap
      (fun a => a.slot.op.map (fun o => (o, a.trigger x.pc (vxValues (activeSlots x slots))))) = [] := by
    rw [List.filterMap_eq_nil_iff]
    intro a ha
    simp [ho a ha]
  have hplan : planCycle fetch s = .issue (activeSlots x slots) words x.pc (s.setHere y) := by
    unfold planCycle
    simp only [h2, h3, State.mapHere_eq, hx, State.here_setHere, Bool.false_eq_true, if_false, hfetch]
    simp only [State.mapHere_eq] at hw
    simp only [hw, he, hf, h4, hb, List.nil_append]
    rw [asynchronous_calm h5 h6 h7]
    rfl
  have key : issueBundle (activeSlots x slots) words x.pc (s.setHere y) = s.setHere (y.issued x.pc words) := by
    unfold issueBundle
    simp only [hacts, List.foldl_nil, List.map_nil, State.mapHere_setHere, State.setHere_cur]
    rw [State.engineTick_quiet (by rw [Tile.issued_newest k1, k2]) (by rw [Tile.issued_copies k1, k6]) (by rw [Tile.issued_matrix k1, k3]), ite_self]
    simp [afterBundle]
  unfold cycle
  simp only [h1, if_true, hplan, runPlan, enactPlan, key]
  rw [State.transferTicks_quiet]
  · rw [State.tile_setHere_cur', Tile.issued_kiln k1, k4]
  · rw [State.tile_setHere_cur', Tile.issued_sends k1, k5]

/-- The filler on a tile whose records only pass a cycle, arrive or perform. -/
theorem filler_cycle {s : State} {x : Tile}
    (h1 : s.here.canIssue = true) (h2 : s.here.deferred = none) (h3 : s.here.endingDue = false) (h4 : s.here.spillRow = [])
    (h5 : s.here.alarms = []) (h6 : s.here.done = []) (h7 : s.here.matrix = {}) (hx : s.here.start = x)
    (k1 : x.quires = []) (k2 : x.newest = []) (k3 : x.matrix = {}) (k4 : x.kiln = []) (k5 : x.sends = [])
    (k6 : x.copies = []) :
    exec .filler s = .next (s.setHere (x.issued x.pc 1)) :=
  cycle_plain (slots := []) h1 h2 h3 h4 h5 h6 h7 hx rfl rfl (by simp [activeSlots, bundleEvents, preIssue])
    (by simp [activeSlots]) k1 k2 k3 k4 k5 k6

/-- What is left of a tile at rest after a bundle that only wrote. -/
theorem ran_plain {s : State} {y : Tile} {m : Move} (hc : s.here.calm) (ky : s.here.Keeps y) (w : Nat) (hw : w = wordCount m) :
    Ran s (s.setHere (y.issued s.here.pc w)) m
      ∧ (s.setHere (y.issued s.here.pc w)).here.flying
        = y.flying.map (fun f => f.counted.linked (s.here.pc + BitVec.ofNat 64 (4 * w)))
      ∧ (s.setHere (y.issued s.here.pc w)).here.bare = y.bare := by
  have q : y.quires = [] := by rw [ky.quires, hc.2.2.1]
  subst hw
  refine ⟨⟨OnlyHere.setHere .., ?_⟩, ?_, ?_⟩
  · rw [State.here_setHere]
    exact Tile.issued_advanced q _ ky.level ky.task ky.code ky.issues ky.icyc ky.hcyc ky.fcyc ky.stall
  · rw [State.here_setHere, Tile.issued_flying q]
  · rw [State.here_setHere, Tile.issued_bare q]

end Sys2Proof.Machine
end

