-- ==== Sys2Proof/Laws/Records.lean ====
section
/-! SUPPORT. A tile with one record in flight: what the start of a cycle makes of it by what the record holds, and what the
filler leaves. -/

namespace Sys2Proof.Machine

open Host (Outcome)

variable {t : Tile} {f : Flight}

theorem Tile.unitsAt_flights (hf : t.flying = [f]) : (t.unitsAt t.level).flights = [f] := hf

theorem Tile.unitsAt_same (hf : t.flying = [f]) : { t.unitsAt t.level with flights := [f] } = t.unitsAt t.level := by
  rw [← Tile.unitsAt_flights hf]

/-- A start whose arrivals leave no record. -/
theorem Tile.start_of_arrive {x : Tile} (h : t.arrive t.level = x) (hx : x.flying = []) : t.start = x := by
  unfold Tile.start
  rw [h]
  have hx' : (x.unitsAt x.level).flights = [] := hx
  simp only [Tile.dueRedirects_quiet hx', List.foldl_nil, hx', List.filter_nil, UnitSet.noFlights hx', Tile.setUnitsAt_unitsAt]

/-- Nothing performs: no vq operation, and a record that is not at its perform point. -/
theorem Tile.perform_wait (hf : t.flying = [f]) (hq : t.quires = []) (hd : f.due = false) : t.perform t.level = t := by
  have h1 : { (t.setUnitsAt t.level (t.unitsAt t.level)) with quires := ([] : List QuireStep) } = t := by
    rw [Tile.setUnitsAt_unitsAt]; exact Tile.noQuires hq
  unfold Tile.perform
  simp only [Tile.unitsAt_flights hf, hq, hd, List.filter_cons, List.filter_nil, List.length_nil, List.range_zero,
    List.filterMap_nil, List.map_nil, ite_self, Bool.false_eq_true, if_false, List.append_nil, List.foldl_nil, Bool.false_and,
    Bool.not_false, if_true, List.map_cons, Tile.unitsAt_same hf]
  exact h1

theorem Tile.arrive_wait (hf : t.flying = [f]) (hq : t.quires = []) (hp : t.perform t.level = t)
    (hr : f.remain ≠ 0 ∨ f.perf.isSome = true ∨ f.isSequence = true) : t.arrive t.level = t := by
  have hi : (f.remain == 0 && f.perf.isNone && !f.isSequence) = false := by
    rcases hr with hr | hr | hr
    · simp [hr]
    · cases h : f.perf <;> simp_all
    · simp [hr]
  unfold Tile.arrive
  simp only [hp, Tile.unitsAt_flights hf, hi, List.filter_cons, List.filter_nil, Bool.false_eq_true, if_false, Bool.not_false,
    if_true, prevailing_nil, List.foldl_nil, Tile.unitsAt_same hf, Tile.setUnitsAt_unitsAt, hq, List.length_nil, upFrom,
    Tile.commit_quiet hq, ite_self]

/-- A record that has cycles to go waits. -/
theorem Tile.start_wait (hf : t.flying = [f]) (hq : t.quires = []) (hd : f.due = false) (hr : f.remain ≠ 0) : t.start = t := by
  have hr' : (f.remain == 0) = false := by simpa using hr
  have hdue : t.dueRedirects = [] := by simp [Tile.dueRedirects, Tile.unitsAt_flights hf, hr']
  unfold Tile.start
  simp only [Tile.arrive_wait hf hq (Tile.perform_wait hf hq hd) (.inl hr), hdue, List.foldl_nil, Tile.unitsAt_flights hf,
    List.filter_cons, List.filter_nil, hr', Bool.false_and, Bool.not_false, if_true, Tile.unitsAt_same hf,
    Tile.setUnitsAt_unitsAt]

/-- A tile without the record. -/
def Tile.cleared (t : Tile) : Tile := t.setUnitsAt t.level { t.unitsAt t.level with flights := [] }

@[simp] theorem Tile.cleared_level : t.cleared.level = t.level := by simp [Tile.cleared]
@[simp] theorem Tile.cleared_quires : t.cleared.quires = t.quires := by simp [Tile.cleared]
@[simp] theorem Tile.cleared_flying : t.cleared.flying = [] := by
  cases h : t.level <;> simp [Tile.cleared, Tile.flying, Tile.unitsAt, Tile.setUnitsAt, h]
@[simp] theorem Tile.cleared_bare : t.cleared.bare = t.bare := by
  cases h : t.level <;> simp [Tile.cleared, Tile.bare, Tile.unitsAt, Tile.setUnitsAt, h]
theorem Tile.cleared_keeps : t.Keeps t.cleared := Tile.Keeps.setUnitsAt ..

@[simp] theorem Tile.flying_setResult (c : Nat) (v : Word) : (t.setResult t.level c v).flying = t.flying := by
  cases h : t.level <;> simp [Tile.flying, Tile.setResult, Tile.setUnitsAt, Tile.unitsAt, h]

/-- A result that is due reaches its latch. -/
theorem Tile.start_arrive {port : Nat} {v : Word} (hf : t.flying = [f]) (hq : t.quires = []) (hp : f.perf = none)
    (hr : f.remain = 0) (hb : f.body = .result port v) : t.start = t.cleared.setResult t.level port v := by
  have hd : f.due = false := by simp [Flight.due, hp]
  have hs : f.isSequence = false := by simp [Flight.isSequence, hb]
  have hq2 : (t.cleared.setResult t.level port v).quires = [] := by simp [Tile.setResult, hq]
  apply Tile.start_of_arrive
  · unfold Tile.arrive
    simp only [Tile.perform_wait hf hq hd, Tile.unitsAt_flights hf, hr, hp, hs, List.filter_cons, List.filter_nil,
      prevailing_one, List.foldl_cons, List.foldl_nil, beq_self_eq_true, Option.isNone_none, Bool.not_false, Bool.and_self, if_true,
      Bool.not_true, Bool.false_eq_true, if_false, Tile.deliver, hb]
    change (if t.level = .task then
      ((upFrom 0 (t.cleared.setResult t.level port v).quires.length).foldl (fun t i => t.arriveQuire i)
        (t.cleared.setResult t.level port v)).commitQuires else t.cleared.setResult t.level port v) = _
    rw [hq2]
    simp only [List.length_nil, upFrom, List.foldl_nil, Tile.commit_quiet hq2, ite_self]
  · have := Tile.flying_setResult (t := t.cleared) port v
    rw [Tile.cleared_level] at this
    rw [this, Tile.cleared_flying]

/-! ## No event and no hold -/

theorem Tile.deferred_none (hf : t.flying = [f]) (hq : t.quires = []) (hb : ∀ i, f.body ≠ .poisoned i) : t.deferred = none := by
  unfold Tile.deferred Tile.deferredFlights Tile.deferredQuires
  simp only [Tile.unitsAt_flights hf, hq, List.length_cons, List.length_nil, List.range_zero, List.filterMap_nil, ite_self,
    List.append_nil]
  cases h : f.body <;> simp_all [List.range_succ, leastDeferred]

theorem Tile.endingDue_none (hf : t.flying = [f]) (hb : f.body ≠ .ending) : t.endingDue = false := by
  unfold Tile.endingDue
  by_cases h : t.level = .task
  · have hf' := Tile.unitsAt_flights hf
    rw [h] at hf'
    simp only [Tile.unitsAt] at hf'
    simp only [h, hf', List.any_cons, List.any_nil]
    cases h2 : f.body <;> simp_all
  · simp [h]

theorem Tile.spillRow_none (hf : t.flying = [f]) (hb : f.remain ≠ 0 ∨ ∀ a b, f.body ≠ .redirect a b) : t.spillRow = [] := by
  have hd : t.dueRedirects = [] := by
    simp only [Tile.dueRedirects, Tile.unitsAt_flights hf, List.filter_cons, List.filter_nil]
    rcases hb with hb | hb
    · simp [hb]
    · cases h : f.body <;> simp_all
  simp [Tile.spillRow, Tile.spillHold, hd]

/-! ## The filler -/

/-- What every tile at rest but for its records has. -/
structure Tile.Idles (t : Tile) : Prop where
  issues : t.canIssue = true
  quires : t.quires = []
  newest : t.newest = []
  copies : t.copies = []
  matrix : t.matrix = {}
  kiln   : t.kiln = []
  sends  : t.sends = []
  alarms : t.alarms = []
  done   : t.done = []

theorem Tile.calm_idles (h : t.calm) : t.Idles := by
  obtain ⟨h1, h2, h3, h4, h5, h6, h7, h8, h9, h10, h11⟩ := h
  exact ⟨h1, h3, h5, h4, h6, h8, h9, h10, h11⟩

theorem Tile.idles_bare {b : Tile} (h : b.Idles) (hb : t.bare = b.bare) (hp : t.phase = b.phase) (hl : t.level = b.level) : t.Idles := by
  have g : ∀ {α : Type} (p : Tile → α), p t.bare = p b.bare := fun p => by rw [hb]
  refine ⟨?_, ?_, ?_, ?_, ?_, ?_, ?_, ?_, ?_⟩
  · have := h.issues; unfold Tile.canIssue at *; rw [hp, hl]; exact this
  · have := g Tile.quires; simpa [Tile.bare, h.quires] using this
  · have := g Tile.newest; simpa [Tile.bare, h.newest] using this
  · have := g Tile.copies; simpa [Tile.bare, h.copies] using this
  · have := g Tile.matrix; simpa [Tile.bare, h.matrix] using this
  · have := g Tile.kiln; simpa [Tile.bare, h.kiln] using this
  · have := g Tile.sends; simpa [Tile.bare, h.sends] using this
  · have := g Tile.alarms; simpa [Tile.bare, h.alarms] using this
  · have := g Tile.done; simpa [Tile.bare, h.done] using this

@[simp] theorem Tile.bare_phase : t.bare.phase = t.phase := by simp [Tile.bare]
@[simp] theorem Tile.bare_level : t.bare.level = t.level := by simp [Tile.bare]

/-- A tile that another has the bare state of idles like it. -/
theorem Tile.Idles.of_bare {b : Tile} (h : b.Idles) (hb : t.bare = b.bare) : t.Idles :=
  Tile.idles_bare h hb (by rw [← Tile.bare_phase, hb, Tile.bare_phase]) (by rw [← Tile.bare_level, hb, Tile.bare_level])

/-- A filler while the only record has no event to bring: the start of the cycle makes the tile x, and one cycle passes. -/
theorem filler_one {s : State} {x : Tile} (hi : s.here.Idles) (hf : s.here.flying = [f]) (hb : ∀ i, f.body ≠ .poisoned i)
    (he : f.body ≠ .ending) (hs : s.here.spillRow = []) (hx : s.here.start = x) (kx : x.Idles) :
    exec .filler s = .next (s.setHere (x.issued x.pc 1)) :=
  filler_cycle hi.issues (Tile.deferred_none hf hi.quires hb) (Tile.endingDue_none hf he) hs hi.alarms hi.done hi.matrix hx
    kx.quires kx.newest kx.matrix kx.kiln kx.sends kx.copies

/-- A filler while the record waits. -/
theorem filler_wait {s : State} (hi : s.here.Idles) (hf : s.here.flying = [f]) (hb : ∀ i, f.body ≠ .poisoned i)
    (he : f.body ≠ .ending) (hd : f.due = false) (hr : f.remain ≠ 0) :
    ∃ t, exec .filler s = .next t ∧ OnlyHere s t ∧ t.here.pc = s.here.pc + 4
      ∧ t.here.flying = [f.counted.linked (s.here.pc + 4)] ∧ t.here.bare = s.here.bare := by
  refine ⟨_, filler_one hi hf hb he (Tile.spillRow_none hf (.inl hr)) (Tile.start_wait hf hi.quires hd hr) hi,
    OnlyHere.setHere .., ?_, ?_, ?_⟩
  · rw [State.here_setHere, Tile.issued_eq hi.quires]; rfl
  · rw [State.here_setHere, Tile.issued_flying hi.quires, hf]; rfl
  · rw [State.here_setHere, Tile.issued_bare hi.quires]

/-- A filler in whose cycle the record's result arrives. -/
theorem filler_arrive {s : State} {port : Nat} {v : Word} (hi : s.here.Idles) (hf : s.here.flying = [f]) (hp : f.perf = none)
    (hr : f.remain = 0) (hb : f.body = .result port v) :
    ∃ t, exec .filler s = .next t ∧ OnlyHere s t ∧ t.here.pc = s.here.pc + 4 ∧ t.here.flying = []
      ∧ t.here.bare = (s.here.setResult s.here.level port v).bare := by
  have hx := Tile.start_arrive hf hi.quires hp hr hb
  have hbare : (s.here.cleared.setResult s.here.level port v).bare = (s.here.setResult s.here.level port v).bare := by
    cases h : s.here.level <;> simp [Tile.cleared, Tile.setResult, Tile.bare, Tile.unitsAt, Tile.setUnitsAt, h]
  have hfl : (s.here.cleared.setResult s.here.level port v).flying = [] := by
    have := Tile.flying_setResult (t := s.here.cleared) port v
    rw [Tile.cleared_level] at this
    rw [this, Tile.cleared_flying]
  have kx : (s.here.cleared.setResult s.here.level port v).Idles := by
    refine ⟨?_, ?_, ?_, ?_, ?_, ?_, ?_, ?_, ?_⟩
    · have := hi.issues; simpa [Tile.canIssue, Tile.setResult, Tile.cleared] using this
    · simp [Tile.setResult, hi.quires]
    · simp [Tile.setResult, Tile.cleared, hi.newest]
    · simp [Tile.setResult, Tile.cleared, hi.copies]
    · simp [Tile.setResult, Tile.cleared, hi.matrix]
    · simp [Tile.setResult, Tile.cleared, hi.kiln]
    · simp [Tile.setResult, Tile.cleared, hi.sends]
    · simp [Tile.setResult, Tile.cleared, hi.alarms]
    · simp [Tile.setResult, Tile.cleared, hi.done]
  have hpc : (s.here.cleared.setResult s.here.level port v).pc = s.here.pc := by simp [Tile.setResult, Tile.cleared]
  refine ⟨_, filler_one hi hf (by simp [hb]) (by simp [hb]) (Tile.spillRow_none hf (.inr (by simp [hb]))) hx kx,
    OnlyHere.setHere .., ?_, ?_, ?_⟩
  · rw [State.here_setHere, Tile.issued_eq kx.quires, hpc]; rfl
  · rw [State.here_setHere, Tile.issued_flying kx.quires, hfl]; rfl
  · rw [State.here_setHere, Tile.issued_bare kx.quires, hbare]

end Sys2Proof.Machine
end

