-- ==== Sys2Proof/Laws/Accesses.lean ====
section
/-! SUPPORT. A load, a store and a redirect alone in flight: what the cycle in which each falls due makes of the tile. -/

namespace Sys2Proof.Machine

open Host (Outcome)

variable {t : Tile} {f : Flight}

/-- A tile with one record in place of another. -/
def Tile.withRecord (t : Tile) (f : Flight) : Tile := t.setUnitsAt t.level { t.unitsAt t.level with flights := [f] }

@[simp] theorem Tile.withRecord_level : (t.withRecord f).level = t.level := by simp [Tile.withRecord]
@[simp] theorem Tile.withRecord_flying : (t.withRecord f).flying = [f] := by
  cases h : t.level <;> simp [Tile.withRecord, Tile.flying, Tile.unitsAt, Tile.setUnitsAt, h]
@[simp] theorem Tile.withRecord_bare : (t.withRecord f).bare = t.bare := by
  cases h : t.level <;> simp [Tile.withRecord, Tile.bare, Tile.unitsAt, Tile.setUnitsAt, h]
@[simp] theorem Tile.withRecord_pc : (t.withRecord f).pc = t.pc := by simp [Tile.withRecord]
@[simp] theorem Tile.withRecord_quires : (t.withRecord f).quires = t.quires := by simp [Tile.withRecord]

/-- A start whose arrivals leave one record with cycles to go. -/
theorem Tile.start_of_arrive_one {x : Tile} {g : Flight} (h : t.arrive t.level = x) (hx : x.flying = [g]) (hg : g.remain ≠ 0) :
    t.start = x := by
  have hg' : (g.remain == 0) = false := by simpa using hg
  have hdue : x.dueRedirects = [] := by simp [Tile.dueRedirects, Tile.unitsAt_flights hx, hg']
  unfold Tile.start
  rw [h]
  simp only [hdue, List.foldl_nil, Tile.unitsAt_flights hx, List.filter_cons, List.filter_nil, hg', Bool.false_and,
    Bool.not_false, if_true, Tile.unitsAt_same hx, Tile.setUnitsAt_unitsAt]

/-- A load at its perform point reads the store. -/
theorem Tile.perform_load (hf : t.flying = [f]) (hq : t.quires = []) (hd : f.perf = some 0) {o n : Nat} {sg : Bool}
    (hb : f.body = .load o n sg) : t.perform t.level = t.withRecord (f.loaded t) := by
  have hdue : f.due = true := by simp [Flight.due, hd]
  have hrun : f.run = none := by simp [Flight.run, hb]
  unfold Tile.perform
  simp only [Tile.unitsAt_flights hf, hq, hdue, hrun, List.filter_cons, List.filter_nil, List.length_nil, List.range_zero,
    List.filterMap_cons, List.filterMap_nil, List.map_nil, ite_self, if_true, List.append_nil, List.foldl_nil,
    Option.isSome_none, Bool.and_false, Bool.not_false, List.map_cons]
  exact Tile.noQuires (t := t.withRecord (f.loaded t)) (by simp [hq])

/-- The cycle in which an unpoisoned load performs: the record becomes the result on its way. -/
theorem Tile.start_load (hf : t.flying = [f]) (hq : t.quires = []) (hd : f.perf = some 0) (hr : f.remain ≠ 0) {o n : Nat}
    {sg : Bool} (hb : f.body = .load o n sg) : t.start = t.withRecord (f.loaded t) := by
  have hg : (f.loaded t).remain = f.remain := by simp [Flight.loaded, hb]
  refine Tile.start_of_arrive_one ?_ Tile.withRecord_flying (by rw [hg]; exact hr)
  have hr' : (f.remain == 0) = false := by simpa using hr
  have hq2 : (t.withRecord (f.loaded t)).quires = [] := by simp [hq]
  have hu : ((t.withRecord (f.loaded t)).unitsAt t.level).flights = [f.loaded t] := by
    have := Tile.unitsAt_flights (t := t.withRecord (f.loaded t)) Tile.withRecord_flying
    rwa [Tile.withRecord_level] at this
  have hs : { (t.withRecord (f.loaded t)).unitsAt t.level with flights := [f.loaded t] }
      = (t.withRecord (f.loaded t)).unitsAt t.level := by rw [← hu]
  unfold Tile.arrive
  simp only [Tile.perform_load hf hq hd hb, hu, hg, hr', List.filter_cons, List.filter_nil, Bool.false_and, Bool.false_eq_true,
    if_false, Bool.not_false, if_true, prevailing_nil, List.foldl_nil, hs, Tile.setUnitsAt_unitsAt, hq2, List.length_nil, upFrom,
    Tile.commit_quiet hq2, ite_self]

/-- A store at its perform point writes the store and its record goes. -/
theorem Tile.start_store (hf : t.flying = [f]) (hq : t.quires = []) (hd : f.perf = some 0) {o n : Nat} {v : Word}
    (hb : f.body = .store o n v) :
    t.start = t.cleared.performRun { rank := storeRank f.bus.toNat f.clus, runs := [(o, toBytes n v.toNat)] } := by
  have hdue : f.due = true := by simp [Flight.due, hd]
  have hrun : f.run = some { rank := storeRank f.bus.toNat f.clus, runs := [(o, toBytes n v.toNat)] } := by
    simp [Flight.run, hb]
  have hp : t.perform t.level
      = t.cleared.performRun { rank := storeRank f.bus.toNat f.clus, runs := [(o, toBytes n v.toNat)] } := by
    unfold Tile.perform
    simp only [Tile.unitsAt_flights hf, hq, hdue, hrun, List.filter_cons, List.filter_nil, List.length_nil, List.range_zero,
      List.filterMap_cons, List.filterMap_nil, List.map_nil, ite_self, if_true, List.append_nil, List.foldl_cons,
      List.foldl_nil, insertRun, Option.isSome_some, Bool.and_true, Bool.not_true, Bool.false_eq_true, if_false]
    exact congrArg (fun x => Tile.performRun x _) (Tile.noQuires (t := t.cleared) (by simp [hq]))
  have hl : (t.cleared.performRun { rank := storeRank f.bus.toNat f.clus, runs := [(o, toBytes n v.toNat)] }).level = t.level := by
    simp [Tile.performRun, Tile.storeBytes]
  have hfl : ((t.cleared.performRun { rank := storeRank f.bus.toNat f.clus, runs := [(o, toBytes n v.toNat)] }).unitsAt t.level).flights
      = [] := by
    have h0 : (t.cleared.unitsAt t.level).flights = [] := by
      have := t.cleared_flying; rwa [Tile.flying, Tile.cleared_level] at this
    cases h : t.level <;> simpa [Tile.performRun, Tile.storeBytes, Tile.unitsAt, h] using h0
  have hq2 : (t.cleared.performRun { rank := storeRank f.bus.toNat f.clus, runs := [(o, toBytes n v.toNat)] }).quires = [] := by
    simp [Tile.performRun, Tile.storeBytes, hq]
  apply Tile.start_of_arrive
  · unfold Tile.arrive
    simp only [hp, hfl, hq2, List.filter_nil, prevailing_nil, List.foldl_nil, UnitSet.noFlights hfl, Tile.setUnitsAt_unitsAt, List.length_nil,
      upFrom, Tile.commit_quiet hq2, ite_self]
  · rw [Tile.flying, hl, hfl]

/-- A redirect that is due applies. -/
theorem Tile.start_redirect (hf : t.flying = [f]) (hq : t.quires = []) (hp : f.perf = none) (hr : f.remain = 0) {target : Word}
    {turn : Turn} (hb : f.body = .redirect target turn) : t.start = t.cleared.applyRedirect f := by
  have hd : f.due = false := by simp [Flight.due, hp]
  have hs : f.isSequence = true := by simp [Flight.isSequence, hb]
  have hdue : t.dueRedirects = [f] := by simp [Tile.dueRedirects, Tile.unitsAt_flights hf, hr, hb]
  unfold Tile.start
  simp only [Tile.arrive_wait hf hq (Tile.perform_wait hf hq hd) (.inr (.inr hs)), hdue, Tile.unitsAt_flights hf,
    List.filter_cons, List.filter_nil, hr, hb, beq_self_eq_true, Bool.and_self, Bool.not_true, Bool.false_eq_true, if_false,
    List.foldl_cons, List.foldl_nil, Tile.cleared]

end Sys2Proof.Machine
end

