-- ==== Sys2Proof/Laws/Memory.lean ====
section
/-! SUPPORT. The module's memory under the operations that read and write it: what only reads leaves it as it is, and every
operation that writes it keeps its canonical form. -/

namespace Sys2Proof.Machine

@[simp] theorem State.mapTile_memory (s : State) (n : Nat) (f : Tile → Tile) : (s.mapTile n f).memory = s.memory := rfl
@[simp] theorem State.mapDie_memory (s : State) (n : Nat) (f : Die → Die) : (s.mapDie n f).memory = s.memory := rfl
@[simp] theorem State.mapPart_memory (s : State) (n : Nat) (f : Partition → Partition) : (s.mapPart n f).memory = s.memory := rfl
@[simp] theorem State.mapHere_memory (s : State) (f : Tile → Tile) : (s.mapHere f).memory = s.memory := rfl

/-! ## Reads -/

@[simp] theorem State.keepEntry_memory (s : State) (w : Who) (va : Nat) (k : Walked) : (s.keepEntry w va k).memory = s.memory := by
  unfold State.keepEntry
  split <;> rfl

@[simp] theorem State.entryFor_memory (s : State) (w : Who) (va : Nat) : (s.entryFor w va).2.memory = s.memory := by
  unfold State.entryFor
  dsimp only
  repeat' split
  all_goals simp

@[simp] theorem translate_memory (s : State) (w : Who) (r : Right) (va : Nat) : (translate s w r va).2.memory = s.memory := by
  have h := s.entryFor_memory w va
  unfold translate
  repeat' split
  all_goals simp_all

@[simp] theorem State.readLine_memory (s : State) (l : Leaf) (va : Nat) : (s.readLine l va).2.memory = s.memory := by
  unfold State.readLine
  dsimp only
  split <;> rfl

@[simp] theorem logLeaf_memory (s : State) (w : Who) (va : Nat) : (logLeaf s w va).2.memory = s.memory := by
  have h := translate_memory s { w with user := false } .write va
  unfold logLeaf
  repeat' split
  all_goals simp_all

/-! ## Requests to other modules -/

theorem State.sendFlit_memory {s t : State} {f : Flit} (h : s.sendFlit f = some t) : t.memory = s.memory := by
  unfold State.sendFlit at h
  split at h
  · exact absurd h (by simp)
  · split at h <;> (cases h; rfl)

theorem State.request_memory {s t : State} {f : Flit} {n : Nat} (h : s.request f = some (n, t)) : t.memory = s.memory := by
  simp only [State.request, Option.map_eq_some_iff, Prod.mk.injEq] at h
  obtain ⟨a, ha, -, rfl⟩ := h
  have h1 := State.sendFlit_memory ha
  exact h1

theorem State.askHome_memory {s t : State} {w : Who} {l : Leaf} {c : Cargo} {n : Nat} (h : s.askHome w l c = some (n, t)) :
    t.memory = s.memory := by
  unfold State.askHome at h
  split at h
  · exact State.request_memory h
  · exact absurd h (by simp)

@[simp] theorem State.notifyEach_memory (part job va : Nat) (ds : List Nat) :
    ∀ s : State, (s.notifyEach part job va ds).2.memory = s.memory := by
  induction ds with
  | nil => intro s; rfl
  | cons d ds ih =>
    intro s
    unfold State.notifyEach
    split
    · next e => exact (ih _).trans (State.request_memory e)
    · exact ih s

@[simp] theorem State.notifyPoison_memory (s : State) (part job va : Nat) : (s.notifyPoison part job va).2.memory = s.memory :=
  State.notifyEach_memory ..

@[simp] theorem State.ask_memory (s : State) (q : Awaited) : (s.ask q).2.memory = s.memory := by
  unfold State.ask
  split
  · exact State.notifyPoison_memory ..
  · split
    · rfl
    · next e => exact State.request_memory e

@[simp] theorem State.await_memory (s : State) (q : Awaited) : (s.await q).2.memory = s.memory := by
  unfold State.await
  dsimp only
  repeat' split
  all_goals rfl

@[simp] theorem State.awaitHome_memory (s : State) (w : Who) (l : Leaf) (c : Cargo) : (s.awaitHome w l c).2.memory = s.memory := by
  unfold State.awaitHome
  split <;> simp

@[simp] theorem State.readPiece_memory (s : State) (w : Who) (r : Right) (l : Leaf) (a n : Nat) :
    (s.readPiece w r l a n).2.memory = s.memory := by
  unfold State.readPiece
  split
  · have h := s.awaitHome_memory w l (.read (BitVec.ofNat 64 a) n w.user false (r == .execute))
    split
    · next e => rw [e] at h; split <;> exact h
    · next e => rw [e] at h; exact h
  · exact s.readLine_memory l a

@[simp] theorem State.readPieces_memory (w : Who) (r : Right) (ps : List (Nat × Nat)) :
    ∀ s : State, (s.readPieces w r ps).2.memory = s.memory := by
  induction ps with
  | nil => intro s; rfl
  | cons p ps ih =>
    intro s
    have h := translate_memory s w r p.1
    unfold State.readPieces
    split
    · next e => simpa [e] using h
    · next l s1 e =>
      rw [e] at h
      have hf := s1.readPiece_memory w r l p.1 p.2
      split
      · next e2 => rw [e2] at hf; exact hf.trans h
      · next s2 e2 =>
        rw [e2] at hf
        have hr := ih s2
        split
        · next e3 => rw [e3] at hr; exact hr.trans (hf.trans h)
        · next e3 => rw [e3] at hr; exact hr.trans (hf.trans h)

@[simp] theorem State.readRange_memory (s : State) (w : Who) (r : Right) (va n : Nat) :
    (s.readRange w r va n).2.memory = s.memory := by
  have h := State.readPieces_memory w r (linePieces va n) s
  unfold State.readRange
  split <;> next e => rw [e] at h; exact h

@[simp] theorem State.awaitNotifies_memory (w : Who) (as : List Nat) : ∀ s : State, (s.awaitNotifies w as).memory = s.memory := by
  induction as with
  | nil => intro s; rfl
  | cons a as ih => intro s; exact (ih _).trans (s.await_memory _)

@[simp] theorem State.readVirtual_memory (s : State) (w : Who) (r : Right) (va n : Nat) :
    (s.readVirtual w r va n).2.memory = s.memory := by
  have h := s.readRange_memory w r va n
  unfold State.readVirtual
  split <;> next e => rw [e] at h; simpa using h

@[simp] theorem State.mapPages_memory (w : Who) (r : Right) (as : List (Nat × Nat)) :
    ∀ s : State, (s.mapPages w r as).2.memory = s.memory := by
  induction as with
  | nil => intro s; rfl
  | cons a as ih =>
    intro s
    have h := translate_memory s w r a.1
    unfold State.mapPages
    split
    · next e => simpa [e] using h
    · next l s1 e =>
      rw [e] at h
      have hr := ih s1
      dsimp only
      split
      · exact h
      · split <;> next e3 => rw [e3] at hr; exact hr.trans h

@[simp] theorem State.checkPages_memory (s : State) (w : Who) (r : Right) (as : List (Nat × Nat)) :
    (s.checkPages w r as).2.memory = s.memory := by
  have h := State.mapPages_memory w r as s
  unfold State.checkPages
  split <;> next e => rw [e] at h; exact h

/-! ## Writes -/

theorem memoryWf_setDirty (s : State) (w : Who) (va : Nat) (l : Leaf) (h : memoryWf s.memory = true) :
    memoryWf (s.setDirty w va l).memory = true := by
  unfold State.setDirty
  split
  · exact h
  · exact memoryWf_writeByte _ _ _ h

theorem memoryWf_storeLine (s : State) (l : Leaf) (va : Nat) (mask : List Bool) (bs : List Byte) (poison : Bool) (glaze : Option Nat)
    (h : memoryWf s.memory = true) : memoryWf (s.storeLine l va mask bs poison glaze).memory = true :=
  memoryWf_writeBytes _ _ _ h

theorem memoryWf_writeLog (w : Who) (ps : List (Nat × Nat)) : ∀ (s t : State) (bs : List Byte),
    memoryWf s.memory = true → writeLog s w ps bs = .ok t → memoryWf t.memory = true := by
  induction ps with
  | nil => intro s t bs h e; simp only [writeLog, Except.ok.injEq] at e; exact e ▸ h
  | cons p ps ih =>
    intro s t bs h e
    have hl := logLeaf_memory s w p.1
    unfold writeLog at e
    split at e
    · exact absurd e (by simp)
    · next l s1 el =>
      rw [el] at hl
      exact ih _ _ _ (memoryWf_storeLine _ _ _ _ _ _ _ (memoryWf_setDirty _ _ _ _ (by rw [hl]; exact h))) e

theorem memoryWf_appendLog (s : State) (w : Who) (job : Nat) (rec_ : List Byte) (h : memoryWf s.memory = true) :
    memoryWf (s.appendLog w job rec_).memory = true := by
  unfold State.appendLog
  dsimp only
  split
  · exact h
  · split
    · exact h
    · split
      · exact h
      · next e => simpa using memoryWf_writeLog _ _ _ _ _ h e

theorem memoryWf_logLine (s : State) (w : Who) (key home : Nat) (rec_ : List Byte) (h : memoryWf s.memory = true) :
    memoryWf (s.logLine w key home rec_).memory = true := by
  unfold State.logLine
  dsimp only
  split
  · exact h
  · split
    · exact h
    · exact memoryWf_appendLog _ _ _ _ (by simpa using h)

theorem memoryWf_writePiece (s : State) (w : Who) (l : Leaf) (a : Nat) (mask : List Bool) (bs : List Byte) (poison : Bool)
    (glaze : Option Nat) (h : memoryWf s.memory = true) : memoryWf (s.writePiece w l a mask bs poison glaze).memory = true :=
  memoryWf_storeLine _ _ _ _ _ _ _ (memoryWf_logLine _ _ _ _ _ (memoryWf_setDirty _ _ _ _ h))

theorem memoryWf_writePieces (w : Who) (poison : Bool) (ps : List (Nat × Nat)) : ∀ (s : State) (bs : List Byte),
    memoryWf s.memory = true → memoryWf (s.writePieces w poison ps bs).2.memory = true := by
  induction ps with
  | nil => intro s bs h; exact h
  | cons p ps ih =>
    intro s bs h
    have ht := translate_memory s w .write p.1
    unfold State.writePieces
    split
    · next e => rw [e] at ht; rw [ht]; exact h
    · next l s1 e =>
      rw [e] at ht
      have h1 : memoryWf s1.memory = true := by rw [ht]; exact h
      split
      · have hw := s1.awaitHome_memory w l (.write (BitVec.ofNat 64 p.1) [(0, bs.take p.2)] w.user none false poison none)
        split
        · next x s2 e2 =>
          rw [e2] at hw
          have h2 : memoryWf s2.memory = true := by rw [hw]; exact h1
          split
          · exact h2
          · exact ih _ _ h2
        · next s2 e2 => rw [e2] at hw; rw [hw]; exact h1
      · exact ih _ _ (memoryWf_writePiece _ _ _ _ _ _ _ _ h1)

theorem memoryWf_writeVirtual (s : State) (w : Who) (va : Nat) (bs : List Byte) (poison : Bool) (h : memoryWf s.memory = true) :
    memoryWf (s.writeVirtual w va bs poison).2.memory = true := memoryWf_writePieces _ _ _ _ _ h

theorem memoryWf_writeMapped (w : Who) (poison : Bool) (ls : List PageLeaf) : ∀ (s : State) (bs : List Byte),
    memoryWf s.memory = true → memoryWf (s.writeMapped w poison ls bs).memory = true := by
  induction ls with
  | nil => intro s bs h; exact h
  | cons x xs ih => intro s bs h; exact ih _ _ (memoryWf_writePiece _ _ _ _ _ _ _ _ h)

theorem memoryWf_restoreLine (s : State) (p : Partition) (own addr glaze : Nat) (poison : Bool) (bs : List Byte)
    (h : memoryWf s.memory = true) : memoryWf (s.restoreLine p own addr glaze poison bs).memory = true := by
  unfold State.restoreLine
  split
  · exact h
  · exact memoryWf_writeBytes _ _ _ h

theorem memoryWf_clearDirty (s : State) (place : Nat) (h : memoryWf s.memory = true) :
    memoryWf (s.clearDirty place).memory = true := memoryWf_writeByte _ _ _ h

/-- A part of a canonical table is canonical. -/
theorem tableWf_filter {α : Type} [DecidableEq α] (d : α) (p : Nat × α → Bool) (m : SMap α) (h : tableWf d m = true) :
    tableWf d (m.filter p) = true := by
  induction m with
  | nil => rfl
  | cons e m ih =>
    obtain ⟨k, v⟩ := e
    simp only [tableWf, Bool.and_eq_true, decide_eq_true_eq, List.all_eq_true] at h
    by_cases hp : p (k, v) = true
    · rw [List.filter_cons_of_pos hp]
      simp only [tableWf, Bool.and_eq_true, decide_eq_true_eq, List.all_eq_true]
      exact ⟨⟨h.1.1, fun x hx => h.1.2 x (List.mem_of_mem_filter hx)⟩, ih h.2⟩
    · rw [List.filter_cons_of_neg hp]
      exact ih h.2

theorem memoryWf_zeroDies (s : State) (dies : BitVec 16) (h : memoryWf s.memory = true) :
    memoryWf (s.zeroDies dies).memory = true := tableWf_filter _ _ _ h

/-! ## What a store leaves alone -/

/-- A store into a line changes no byte of any other. -/
theorem readByte_storeLine_outside (s : State) (l : Leaf) (va : Nat) (mask : List Bool) (bs : List Byte) (poison : Bool)
    (glaze : Option Nat) (hl : mask.length ≤ 64) (hk : l.key = 0) (a : Nat) (h : a < l.phys / 64 * 64 ∨ l.phys / 64 * 64 + 64 ≤ a) :
    readByte (s.storeLine l va mask bs poison glaze).memory a = readByte s.memory a := by
  have hm : ∀ (ks : List Bool) (xs ys : List Byte), (mixBytes ks xs ys).length ≤ ks.length := by
    intro ks
    induction ks with
    | nil => intro xs ys; simp [mixBytes]
    | cons k ks ih =>
      intro xs ys
      cases xs <;> cases ys <;> simp [mixBytes]
      exact ih _ _
  have hb := hm mask bs (s.rawLine (l.phys / 64))
  unfold State.storeLine
  simp only [hk, decide_true, Bool.or_true, if_true]
  exact readByte_writeBytes_outside _ _ _ _ (by omega)

end Sys2Proof.Machine
end

