-- ==== Sys2Proof/Laws/Moves.lean ====
section
/-! SUPPORT. A plain move alone in its bundle on a tile at rest: where it writes, what the write keeps, and the cycle it makes. -/

namespace Sys2Proof.Machine

open Host (Outcome)

/-- A destination's code lies below the trigger codes. -/
theorem Dest.code_lt (d : Dest) : d.code < 0x180 := by
  cases d with
  | reg r => have := r.isLt; simp [Dest.code]; omega
  | port p => have := p.isLt; simp [Dest.code]; omega

/-! ## A write starts nothing -/

@[simp] theorem Tile.flying_writeS (t : Tile) (r : Nat) (v : Word) : (t.writeS r v).flying = t.flying := by
  unfold Tile.writeS
  split
  · cases h : t.level <;> simp [Tile.flying, Tile.unitsAt, h]
  · split
    · cases h : t.level <;> simp [Tile.flying, Tile.unitsAt, Tile.setHandler, Tile.handler, h]
    · cases h : t.level <;> simp [Tile.flying, Tile.unitsAt, h]

@[simp] theorem Tile.flying_writeP (t : Tile) (r : Nat) (v : Bool) : (t.writeP r v).flying = t.flying := by
  unfold Tile.writeP
  split
  · cases h : t.level <;> simp [Tile.flying, Tile.unitsAt, Tile.setHandler, Tile.handler, h]
  · split
    · cases h : t.level <;> simp [Tile.flying, Tile.unitsAt, Tile.setHandler, Tile.handler, h]
    · cases h : t.level <;> simp [Tile.flying, Tile.unitsAt, h]

@[simp] theorem Tile.flying_setCluster (t : Tile) (c : Nat) (x : Cluster) : (t.setCluster c x).flying = t.flying := by
  simp [Tile.flying]

theorem Tile.flying_writeCode (t : Tile) (d : Nat) (v : Word) : (t.writeCode d v).flying = t.flying := by
  unfold Tile.writeCode
  repeat' split
  · exact t.flying_writeS ..
  · exact t.flying_writeP ..
  · exact t.flying_setPort ..
  · rw [Tile.setVport, Tile.flying_setCluster]

theorem Tile.keeps_writeCode (t : Tile) (d : Nat) (v : Word) : t.Keeps (t.writeCode d v) := by
  unfold Tile.writeCode
  repeat' split
  · exact Tile.Keeps.writeS ..
  · exact Tile.Keeps.writeP ..
  · exact Tile.Keeps.setPort ..
  · exact Tile.Keeps.setVport ..

theorem Tile.keeps_writeCluster (t : Tile) (c d : Nat) (v : Vec) (l : BitVec 16) : t.Keeps (t.writeCluster c d v l) := by
  unfold Tile.writeCluster
  dsimp only
  repeat' split
  · exact Tile.Keeps.setCluster ..
  · exact Tile.Keeps.setCluster ..
  · exact Tile.Keeps.setVport ..

theorem Tile.flying_writeCluster (t : Tile) (c d : Nat) (v : Vec) (l : BitVec 16) : (t.writeCluster c d v l).flying = t.flying := by
  unfold Tile.writeCluster
  dsimp only
  repeat' split
  · exact t.flying_setCluster ..
  · exact t.flying_setCluster ..
  · exact t.flying_setCluster ..

/-- A write into the same code of several clusters. -/
theorem Tile.writeClusters_keeps (d : Nat) (v : Nat → Vec) (l : Nat → BitVec 16) (cs : List Nat) :
    ∀ t : Tile, t.Keeps (cs.foldl (fun t c => t.writeCluster c d (v c) (l c)) t)
      ∧ (cs.foldl (fun t c => t.writeCluster c d (v c) (l c)) t).flying = t.flying := by
  induction cs with
  | nil => intro t; exact ⟨Tile.Keeps.refl _, rfl⟩
  | cons c cs ih =>
    intro t
    exact ⟨(t.keeps_writeCluster ..).trans (ih _).1, by rw [List.foldl_cons, (ih _).2, Tile.flying_writeCluster]⟩

/-! ## The cycle of one move -/

/-- A move that carries a value leaves what its write makes of the tile, after one issue cycle. -/
theorem move_cycle {s : State} {m : Move} {d : Dest} {v : Moved} {y : Tile} (hc : s.here.calm) (hv : s.here.moved m = some v)
    (hy : s.here.writeMove m d.code v = y) (ky : s.here.Keeps y) (hr : handlerRestricted s.here m d.code = false)
    (hi : idleCluster s.here.inUse m d.code = false) :
    exec (.move m d) s = .next (s.setHere (y.issued s.here.pc (wordCount m))) := by
  have hd := Dest.code_lt d
  obtain ⟨h1, h2, h3, h4, h5, h6, h7, h8, h9, h10, h11⟩ := hc
  have has : activeSlots s.here [{ move := m, code := d.code, op := none }]
      = [{ slot := { move := m, code := d.code, op := none }, value := v
           window := if d.code = 0x1E1 then (upFrom 8 8).map s.here.readS else [] }] := by
    simp [activeSlots, hv]
  exact cycle_plain (name := "MOVE") (fetch := fun _ => .ready [{ move := m, code := d.code, op := none }] (wordCount m)) (y := y)
    h1 (Tile.deferred_quiet h2 h3) (Tile.endingDue_quiet h2) (Tile.spillRow_quiet h2) h10 h11 h6
    (Tile.start_quiet h2 h3) rfl (by rw [has]; simp [hy]) (by
      rw [has]
      have e1 : handlerRestricted y m d.code = false := by rw [ky.restricted, hr]
      have e2 : idleCluster y.inUse m d.code = false := by rw [ky.inUse, hi]
      have hnt : ({ move := m, code := d.code, op := none } : Slot).triggers = false := by simp [Slot.triggers]; omega
      simp only [bundleEvents, Active.events, State.here_setHere, e1, e2, hnt, duplicate]
      simp [eventsOf, preIssue, illegalOf, leastCause, firstCause]) (by rw [has]; simp)
      (by rw [ky.quires, h3]) (by rw [ky.newest, h5]) (by rw [ky.matrix, h6]) (by rw [ky.kiln, h8]) (by rw [ky.sends, h9])
      (by rw [ky.copies, h4])

/-- A word whose guard is off makes a cycle of its own that changes nothing else. -/
theorem guarded_off_cycle {s : State} {m : Move} {name : String} {d : Nat} {op : Option Operation} (hc : s.here.calm)
    (hb : m.bus.isTile = true) (hg : s.here.guard m.guard = false) :
    cycle name (fun _ => .ready [{ move := m, code := d, op := op }] (wordCount m)) s
      = .next (s.setHere (s.here.issued s.here.pc (wordCount m))) := by
  obtain ⟨h1, h2, h3, h4, h5, h6, h7, h8, h9, h10, h11⟩ := hc
  have has : activeSlots s.here [{ move := m, code := d, op := op }] = [] := by
    simp [activeSlots, Tile.moved, hb, hg]
  exact cycle_plain (name := name) (fetch := fun _ => .ready [{ move := m, code := d, op := op }] (wordCount m)) (y := s.here)
    h1 (Tile.deferred_quiet h2 h3) (Tile.endingDue_quiet h2) (Tile.spillRow_quiet h2) h10 h11 h6
    (Tile.start_quiet h2 h3) rfl (by rw [has]; rfl) (by rw [has]; simp [bundleEvents, preIssue]) (by rw [has]; simp)
    h3 h5 h6 h8 h9 h4

/-! ## Results of a tile at rest -/

@[simp] theorem Tile.bare_result (t : Tile) (p : Nat) : t.bare.result p = t.result p := by
  cases h : t.level <;> simp [Tile.bare, Tile.result, Tile.unitsAt, Tile.setUnitsAt, h]

end Sys2Proof.Machine
end

