-- ==== Sys2Proof/Laws/PerInstr.lean ====
section
/-! SUPPORT. The opcode table, instruction by instruction: a trigger's code is looked up as that trigger in its own domain,
and lies among the trigger codes (R284, R308). -/

namespace Sys2Proof.Laws.Lookup

/-- Looking up an instruction's own code in the table of its domain gives that instruction with its move. -/
def Statement (i : Instr) : Prop :=
  match i.kind with
  | .tile m => opOf true i.code m = some i ∧ 0x180 ≤ i.code ∧ i.code < 0x400
  | .cluster m => opOf false i.code m = some i ∧ 0x180 ≤ i.code ∧ i.code < 0x400
  | _ => True

theorem moduleStart (b : BringUp) : Statement (.moduleStart b) := trivial
theorem coldPowerCycle (b : BringUp) : Statement (.coldPowerCycle b) := trivial
theorem edgeDown (edge : Nat) : Statement (.edgeDown edge) := trivial
theorem flitReceive (port : Nat) (flit : BitVec 2048) : Statement (.flitReceive port flit) := trivial
theorem ackOnlyFlit (port : Nat) : Statement (.ackOnlyFlit port) := trivial
theorem portRetrain (port : Nat) (trained : Bool) : Statement (.portRetrain port trained) := trivial
theorem routeSwitch (part dst cls : Nat) : Statement (.routeSwitch part dst cls) := trivial
theorem thermalCeilingLower (die : Nat) : Statement (.thermalCeilingLower die) := trivial
theorem thermalDispatchStop (heat : DieHeat) : Statement (.thermalDispatchStop heat) := trivial
theorem thermalForceStop (heat : DieHeat) : Statement (.thermalForceStop heat) := trivial
theorem droopStretch (tile sixteenths : Nat) : Statement (.droopStretch tile sixteenths) := trivial
theorem emergencyDroopStretch (die cycles : Nat) : Statement (.emergencyDroopStretch die cycles) := trivial
theorem memoryScrub (unit : Store) (line : Nat) (found : Finding) : Statement (.memoryScrub unit line found) := trivial
theorem stopTimeout (part : Nat) : Statement (.stopTimeout part) := trivial
theorem snapshotLatch : Statement .snapshotLatch := trivial
theorem launchReady (part addr : Nat) : Statement (.launchReady part addr) := trivial
theorem taskDispatch (part addr : Nat) : Statement (.taskDispatch part addr) := trivial
theorem fabricClockUnpin (die : Nat) : Statement (.fabricClockUnpin die) := trivial
theorem gangStart (part addr : Nat) : Statement (.gangStart part addr) := trivial
theorem taskRetire (tile : Nat) : Statement (.taskRetire tile) := trivial
theorem checkpointTakeEffect (part job : Nat) : Statement (.checkpointTakeEffect part job) := trivial
theorem logReplay (part job : Nat) : Statement (.logReplay part job) := trivial
theorem copyStart (tile cmd : Nat) : Statement (.copyStart tile cmd) := trivial
theorem chunkLanded (tile cmd : Nat) (step : ChunkStep) : Statement (.chunkLanded tile cmd step) := trivial
theorem remoteWritePerform (tile k : Nat) : Statement (.remoteWritePerform tile k) := trivial
theorem linkMessageArrive (tile k : Nat) : Statement (.linkMessageArrive tile k) := trivial
theorem linkResend (tile k : Nat) : Statement (.linkResend tile k) := trivial
theorem kilnOperationPerform (tile k : Nat) : Statement (.kilnOperationPerform tile k) := trivial
theorem knResultReturn (tile : Nat) : Statement (.knResultReturn tile) := trivial
theorem mxCommandStart (tile : Nat) : Statement (.mxCommandStart tile) := trivial
theorem mxCommandRetire (tile : Nat) : Statement (.mxCommandRetire tile) := trivial
theorem bundleIssue (tile : Nat) : Statement (.bundleIssue tile) := trivial
theorem codeFillComplete (tile line : Nat) : Statement (.codeFillComplete tile line) := trivial
theorem resultArrival (tile : Nat) : Statement (.resultArrival tile) := trivial
theorem tileStorePerform (tile : Nat) : Statement (.tileStorePerform tile) := trivial
theorem copyFault (tile : Nat) : Statement (.copyFault tile) := trivial
theorem poisonConsumed (tile : Nat) : Statement (.poisonConsumed tile) := trivial
theorem waitTimeout (tile : Nat) : Statement (.waitTimeout tile) := trivial
theorem userCompletion (tile : Nat) : Statement (.userCompletion tile) := trivial
theorem preemption (tile : Nat) : Statement (.preemption tile) := trivial
theorem taskResume (part addr index tile : Nat) : Statement (.taskResume part addr index tile) := trivial
theorem sysregWrite (number : BitVec 12) (value : Word) : Statement (.sysregWrite number value) := trivial
theorem tlbiPage (value : Word) : Statement (.tlbiPage value) := trivial
theorem tlbiPartition (value : Word) : Statement (.tlbiPartition value) := trivial
theorem tlbiComplete (part : Nat) : Statement (.tlbiComplete part) := trivial
theorem jobctlSelect (value : Word) : Statement (.jobctlSelect value) := trivial
theorem jobctlRollback (value : Word) : Statement (.jobctlRollback value) := trivial
theorem jobctlFail (value : Word) : Statement (.jobctlFail value) := trivial
theorem karmWrite (value : Word) : Statement (.karmWrite value) := trivial
theorem semarmWrite (value : Word) : Statement (.semarmWrite value) := trivial
theorem ctxdatWrite (value : Word) : Statement (.ctxdatWrite value) := trivial
theorem rankdatWrite (value : Word) : Statement (.rankdatWrite value) := trivial
theorem xwinWrite (value : Word) : Statement (.xwinWrite value) := trivial
theorem move (m : Move) (d : Dest) : Statement (.move m d) := trivial
theorem filler : Statement .filler := trivial
theorem saAdd (m : Move) (u : Bool) : Statement (.saAdd m u) := by
  cases u <;> exact ⟨rfl, Nat.le_of_ble_eq_true rfl, Nat.le_of_ble_eq_true rfl⟩
theorem saSub (m : Move) (u : Bool) : Statement (.saSub m u) := by
  cases u <;> exact ⟨rfl, Nat.le_of_ble_eq_true rfl, Nat.le_of_ble_eq_true rfl⟩
theorem saAnd (m : Move) (u : Bool) : Statement (.saAnd m u) := by
  cases u <;> exact ⟨rfl, Nat.le_of_ble_eq_true rfl, Nat.le_of_ble_eq_true rfl⟩
theorem saOr (m : Move) (u : Bool) : Statement (.saOr m u) := by
  cases u <;> exact ⟨rfl, Nat.le_of_ble_eq_true rfl, Nat.le_of_ble_eq_true rfl⟩
theorem saXor (m : Move) (u : Bool) : Statement (.saXor m u) := by
  cases u <;> exact ⟨rfl, Nat.le_of_ble_eq_true rfl, Nat.le_of_ble_eq_true rfl⟩
theorem saAndn (m : Move) (u : Bool) : Statement (.saAndn m u) := by
  cases u <;> exact ⟨rfl, Nat.le_of_ble_eq_true rfl, Nat.le_of_ble_eq_true rfl⟩
theorem saOrn (m : Move) (u : Bool) : Statement (.saOrn m u) := by
  cases u <;> exact ⟨rfl, Nat.le_of_ble_eq_true rfl, Nat.le_of_ble_eq_true rfl⟩
theorem saXnor (m : Move) (u : Bool) : Statement (.saXnor m u) := by
  cases u <;> exact ⟨rfl, Nat.le_of_ble_eq_true rfl, Nat.le_of_ble_eq_true rfl⟩
theorem saSll (m : Move) (u : Bool) : Statement (.saSll m u) := by
  cases u <;> exact ⟨rfl, Nat.le_of_ble_eq_true rfl, Nat.le_of_ble_eq_true rfl⟩
theorem saSrl (m : Move) (u : Bool) : Statement (.saSrl m u) := by
  cases u <;> exact ⟨rfl, Nat.le_of_ble_eq_true rfl, Nat.le_of_ble_eq_true rfl⟩
theorem saSra (m : Move) (u : Bool) : Statement (.saSra m u) := by
  cases u <;> exact ⟨rfl, Nat.le_of_ble_eq_true rfl, Nat.le_of_ble_eq_true rfl⟩
theorem saRor (m : Move) (u : Bool) : Statement (.saRor m u) := by
  cases u <;> exact ⟨rfl, Nat.le_of_ble_eq_true rfl, Nat.le_of_ble_eq_true rfl⟩
theorem saMin (m : Move) (u : Bool) : Statement (.saMin m u) := by
  cases u <;> exact ⟨rfl, Nat.le_of_ble_eq_true rfl, Nat.le_of_ble_eq_true rfl⟩
theorem saMax (m : Move) (u : Bool) : Statement (.saMax m u) := by
  cases u <;> exact ⟨rfl, Nat.le_of_ble_eq_true rfl, Nat.le_of_ble_eq_true rfl⟩
theorem saMinu (m : Move) (u : Bool) : Statement (.saMinu m u) := by
  cases u <;> exact ⟨rfl, Nat.le_of_ble_eq_true rfl, Nat.le_of_ble_eq_true rfl⟩
theorem saMaxu (m : Move) (u : Bool) : Statement (.saMaxu m u) := by
  cases u <;> exact ⟨rfl, Nat.le_of_ble_eq_true rfl, Nat.le_of_ble_eq_true rfl⟩
theorem saCeq (m : Move) (u : Bool) : Statement (.saCeq m u) := by
  cases u <;> exact ⟨rfl, Nat.le_of_ble_eq_true rfl, Nat.le_of_ble_eq_true rfl⟩
theorem saCne (m : Move) (u : Bool) : Statement (.saCne m u) := by
  cases u <;> exact ⟨rfl, Nat.le_of_ble_eq_true rfl, Nat.le_of_ble_eq_true rfl⟩
theorem saClt (m : Move) (u : Bool) : Statement (.saClt m u) := by
  cases u <;> exact ⟨rfl, Nat.le_of_ble_eq_true rfl, Nat.le_of_ble_eq_true rfl⟩
theorem saCle (m : Move) (u : Bool) : Statement (.saCle m u) := by
  cases u <;> exact ⟨rfl, Nat.le_of_ble_eq_true rfl, Nat.le_of_ble_eq_true rfl⟩
theorem saCltu (m : Move) (u : Bool) : Statement (.saCltu m u) := by
  cases u <;> exact ⟨rfl, Nat.le_of_ble_eq_true rfl, Nat.le_of_ble_eq_true rfl⟩
theorem saCleu (m : Move) (u : Bool) : Statement (.saCleu m u) := by
  cases u <;> exact ⟨rfl, Nat.le_of_ble_eq_true rfl, Nat.le_of_ble_eq_true rfl⟩
theorem saCtst (m : Move) (u : Bool) : Statement (.saCtst m u) := by
  cases u <;> exact ⟨rfl, Nat.le_of_ble_eq_true rfl, Nat.le_of_ble_eq_true rfl⟩
theorem saSel (m : Move) (u : Bool) : Statement (.saSel m u) := by
  cases u <;> exact ⟨rfl, Nat.le_of_ble_eq_true rfl, Nat.le_of_ble_eq_true rfl⟩
theorem saBext (m : Move) (u : Bool) : Statement (.saBext m u) := by
  cases u <;> exact ⟨rfl, Nat.le_of_ble_eq_true rfl, Nat.le_of_ble_eq_true rfl⟩
theorem saBexts (m : Move) (u : Bool) : Statement (.saBexts m u) := by
  cases u <;> exact ⟨rfl, Nat.le_of_ble_eq_true rfl, Nat.le_of_ble_eq_true rfl⟩
theorem saBins (m : Move) (u : Bool) : Statement (.saBins m u) := by
  cases u <;> exact ⟨rfl, Nat.le_of_ble_eq_true rfl, Nat.le_of_ble_eq_true rfl⟩
theorem saPopc (m : Move) (u : Bool) : Statement (.saPopc m u) := by
  cases u <;> exact ⟨rfl, Nat.le_of_ble_eq_true rfl, Nat.le_of_ble_eq_true rfl⟩
theorem saClz (m : Move) (u : Bool) : Statement (.saClz m u) := by
  cases u <;> exact ⟨rfl, Nat.le_of_ble_eq_true rfl, Nat.le_of_ble_eq_true rfl⟩
theorem saCtz (m : Move) (u : Bool) : Statement (.saCtz m u) := by
  cases u <;> exact ⟨rfl, Nat.le_of_ble_eq_true rfl, Nat.le_of_ble_eq_true rfl⟩
theorem saAddsh (m : Move) (u : Bool) : Statement (.saAddsh m u) := by
  cases u <;> exact ⟨rfl, Nat.le_of_ble_eq_true rfl, Nat.le_of_ble_eq_true rfl⟩
theorem saMov (m : Move) (u : Bool) : Statement (.saMov m u) := by
  cases u <;> exact ⟨rfl, Nat.le_of_ble_eq_true rfl, Nat.le_of_ble_eq_true rfl⟩
theorem smMul (m : Move) : Statement (.smMul m) := ⟨rfl, Nat.le_of_ble_eq_true rfl, Nat.le_of_ble_eq_true rfl⟩
theorem smMulh (m : Move) : Statement (.smMulh m) := ⟨rfl, Nat.le_of_ble_eq_true rfl, Nat.le_of_ble_eq_true rfl⟩
theorem smMulhu (m : Move) : Statement (.smMulhu m) := ⟨rfl, Nat.le_of_ble_eq_true rfl, Nat.le_of_ble_eq_true rfl⟩
theorem smMulw (m : Move) : Statement (.smMulw m) := ⟨rfl, Nat.le_of_ble_eq_true rfl, Nat.le_of_ble_eq_true rfl⟩
theorem smDiv (m : Move) : Statement (.smDiv m) := ⟨rfl, Nat.le_of_ble_eq_true rfl, Nat.le_of_ble_eq_true rfl⟩
theorem smDivu (m : Move) : Statement (.smDivu m) := ⟨rfl, Nat.le_of_ble_eq_true rfl, Nat.le_of_ble_eq_true rfl⟩
theorem smRem (m : Move) : Statement (.smRem m) := ⟨rfl, Nat.le_of_ble_eq_true rfl, Nat.le_of_ble_eq_true rfl⟩
theorem smRemu (m : Move) : Statement (.smRemu m) := ⟨rfl, Nat.le_of_ble_eq_true rfl, Nat.le_of_ble_eq_true rfl⟩
theorem lsLd8 (m : Move) : Statement (.lsLd8 m) := ⟨rfl, Nat.le_of_ble_eq_true rfl, Nat.le_of_ble_eq_true rfl⟩
theorem lsLd8s (m : Move) : Statement (.lsLd8s m) := ⟨rfl, Nat.le_of_ble_eq_true rfl, Nat.le_of_ble_eq_true rfl⟩
theorem lsLd16 (m : Move) : Statement (.lsLd16 m) := ⟨rfl, Nat.le_of_ble_eq_true rfl, Nat.le_of_ble_eq_true rfl⟩
theorem lsLd16s (m : Move) : Statement (.lsLd16s m) := ⟨rfl, Nat.le_of_ble_eq_true rfl, Nat.le_of_ble_eq_true rfl⟩
theorem lsLd32 (m : Move) : Statement (.lsLd32 m) := ⟨rfl, Nat.le_of_ble_eq_true rfl, Nat.le_of_ble_eq_true rfl⟩
theorem lsLd32s (m : Move) : Statement (.lsLd32s m) := ⟨rfl, Nat.le_of_ble_eq_true rfl, Nat.le_of_ble_eq_true rfl⟩
theorem lsLd64 (m : Move) : Statement (.lsLd64 m) := ⟨rfl, Nat.le_of_ble_eq_true rfl, Nat.le_of_ble_eq_true rfl⟩
theorem lsSt8 (m : Move) : Statement (.lsSt8 m) := ⟨rfl, Nat.le_of_ble_eq_true rfl, Nat.le_of_ble_eq_true rfl⟩
theorem lsSt16 (m : Move) : Statement (.lsSt16 m) := ⟨rfl, Nat.le_of_ble_eq_true rfl, Nat.le_of_ble_eq_true rfl⟩
theorem lsSt32 (m : Move) : Statement (.lsSt32 m) := ⟨rfl, Nat.le_of_ble_eq_true rfl, Nat.le_of_ble_eq_true rfl⟩
theorem lsSt64 (m : Move) : Statement (.lsSt64 m) := ⟨rfl, Nat.le_of_ble_eq_true rfl, Nat.le_of_ble_eq_true rfl⟩
theorem ctlJmp (m : Move) : Statement (.ctlJmp m) := ⟨rfl, Nat.le_of_ble_eq_true rfl, Nat.le_of_ble_eq_true rfl⟩
theorem ctlCall (m : Move) : Statement (.ctlCall m) := ⟨rfl, Nat.le_of_ble_eq_true rfl, Nat.le_of_ble_eq_true rfl⟩
theorem ctlRet (m : Move) : Statement (.ctlRet m) := ⟨rfl, Nat.le_of_ble_eq_true rfl, Nat.le_of_ble_eq_true rfl⟩
theorem ctlLoop (m : Move) : Statement (.ctlLoop m) := ⟨rfl, Nat.le_of_ble_eq_true rfl, Nat.le_of_ble_eq_true rfl⟩
theorem ctlPref (m : Move) : Statement (.ctlPref m) := ⟨rfl, Nat.le_of_ble_eq_true rfl, Nat.le_of_ble_eq_true rfl⟩
theorem ctlEnd (m : Move) : Statement (.ctlEnd m) := ⟨rfl, Nat.le_of_ble_eq_true rfl, Nat.le_of_ble_eq_true rfl⟩
theorem ctlTrap (m : Move) : Statement (.ctlTrap m) := ⟨rfl, Nat.le_of_ble_eq_true rfl, Nat.le_of_ble_eq_true rfl⟩
theorem ctlRfe (m : Move) : Statement (.ctlRfe m) := ⟨rfl, Nat.le_of_ble_eq_true rfl, Nat.le_of_ble_eq_true rfl⟩
theorem ctlWait (m : Move) : Statement (.ctlWait m) := ⟨rfl, Nat.le_of_ble_eq_true rfl, Nat.le_of_ble_eq_true rfl⟩
theorem ctlSpawn (m : Move) : Statement (.ctlSpawn m) := ⟨rfl, Nat.le_of_ble_eq_true rfl, Nat.le_of_ble_eq_true rfl⟩
theorem ctlPost (m : Move) : Statement (.ctlPost m) := ⟨rfl, Nat.le_of_ble_eq_true rfl, Nat.le_of_ble_eq_true rfl⟩
theorem ctlRsr (m : Move) : Statement (.ctlRsr m) := ⟨rfl, Nat.le_of_ble_eq_true rfl, Nat.le_of_ble_eq_true rfl⟩
theorem ctlWsr (m : Move) : Statement (.ctlWsr m) := ⟨rfl, Nat.le_of_ble_eq_true rfl, Nat.le_of_ble_eq_true rfl⟩
theorem sySemrd (m : Move) : Statement (.sySemrd m) := ⟨rfl, Nat.le_of_ble_eq_true rfl, Nat.le_of_ble_eq_true rfl⟩
theorem sySemwr (m : Move) : Statement (.sySemwr m) := ⟨rfl, Nat.le_of_ble_eq_true rfl, Nat.le_of_ble_eq_true rfl⟩
theorem sySemadd (m : Move) : Statement (.sySemadd m) := ⟨rfl, Nat.le_of_ble_eq_true rfl, Nat.le_of_ble_eq_true rfl⟩
theorem syRput (m : Move) : Statement (.syRput m) := ⟨rfl, Nat.le_of_ble_eq_true rfl, Nat.le_of_ble_eq_true rfl⟩
theorem syDrain (m : Move) : Statement (.syDrain m) := ⟨rfl, Nat.le_of_ble_eq_true rfl, Nat.le_of_ble_eq_true rfl⟩
theorem syFence (m : Move) : Statement (.syFence m) := ⟨rfl, Nat.le_of_ble_eq_true rfl, Nat.le_of_ble_eq_true rfl⟩
theorem syClk (m : Move) : Statement (.syClk m) := ⟨rfl, Nat.le_of_ble_eq_true rfl, Nat.le_of_ble_eq_true rfl⟩
theorem syIdn (m : Move) : Statement (.syIdn m) := ⟨rfl, Nat.le_of_ble_eq_true rfl, Nat.le_of_ble_eq_true rfl⟩
theorem cpDefs (m : Move) : Statement (.cpDefs m) := ⟨rfl, Nat.le_of_ble_eq_true rfl, Nat.le_of_ble_eq_true rfl⟩
theorem cpCancel (m : Move) : Statement (.cpCancel m) := ⟨rfl, Nat.le_of_ble_eq_true rfl, Nat.le_of_ble_eq_true rfl⟩
theorem cpMap (m : Move) : Statement (.cpMap m) := ⟨rfl, Nat.le_of_ble_eq_true rfl, Nat.le_of_ble_eq_true rfl⟩
theorem cpGo (m : Move) (n : Fin 16) : Statement (.cpGo m n) := by
  obtain ⟨n, h⟩ := n
  interval_cases n <;> exact ⟨rfl, Nat.le_of_ble_eq_true rfl, Nat.le_of_ble_eq_true rfl⟩
theorem mxMma (m : Move) : Statement (.mxMma m) := ⟨rfl, Nat.le_of_ble_eq_true rfl, Nat.le_of_ble_eq_true rfl⟩
theorem mxMmd (m : Move) : Statement (.mxMmd m) := ⟨rfl, Nat.le_of_ble_eq_true rfl, Nat.le_of_ble_eq_true rfl⟩
theorem mxMdrn (m : Move) : Statement (.mxMdrn m) := ⟨rfl, Nat.le_of_ble_eq_true rfl, Nat.le_of_ble_eq_true rfl⟩
theorem mxMclr (m : Move) : Statement (.mxMclr m) := ⟨rfl, Nat.le_of_ble_eq_true rfl, Nat.le_of_ble_eq_true rfl⟩
theorem mxMsave (m : Move) : Statement (.mxMsave m) := ⟨rfl, Nat.le_of_ble_eq_true rfl, Nat.le_of_ble_eq_true rfl⟩
theorem mxMload (m : Move) : Statement (.mxMload m) := ⟨rfl, Nat.le_of_ble_eq_true rfl, Nat.le_of_ble_eq_true rfl⟩
theorem knAdd (m : Move) : Statement (.knAdd m) := ⟨rfl, Nat.le_of_ble_eq_true rfl, Nat.le_of_ble_eq_true rfl⟩
theorem knMin (m : Move) : Statement (.knMin m) := ⟨rfl, Nat.le_of_ble_eq_true rfl, Nat.le_of_ble_eq_true rfl⟩
theorem knMinu (m : Move) : Statement (.knMinu m) := ⟨rfl, Nat.le_of_ble_eq_true rfl, Nat.le_of_ble_eq_true rfl⟩
theorem knMax (m : Move) : Statement (.knMax m) := ⟨rfl, Nat.le_of_ble_eq_true rfl, Nat.le_of_ble_eq_true rfl⟩
theorem knMaxu (m : Move) : Statement (.knMaxu m) := ⟨rfl, Nat.le_of_ble_eq_true rfl, Nat.le_of_ble_eq_true rfl⟩
theorem knAnd (m : Move) : Statement (.knAnd m) := ⟨rfl, Nat.le_of_ble_eq_true rfl, Nat.le_of_ble_eq_true rfl⟩
theorem knOr (m : Move) : Statement (.knOr m) := ⟨rfl, Nat.le_of_ble_eq_true rfl, Nat.le_of_ble_eq_true rfl⟩
theorem knXor (m : Move) : Statement (.knXor m) := ⟨rfl, Nat.le_of_ble_eq_true rfl, Nat.le_of_ble_eq_true rfl⟩
theorem knSwap (m : Move) : Statement (.knSwap m) := ⟨rfl, Nat.le_of_ble_eq_true rfl, Nat.le_of_ble_eq_true rfl⟩
theorem knCas (m : Move) : Statement (.knCas m) := ⟨rfl, Nat.le_of_ble_eq_true rfl, Nat.le_of_ble_eq_true rfl⟩
theorem knTick (m : Move) : Statement (.knTick m) := ⟨rfl, Nat.le_of_ble_eq_true rfl, Nat.le_of_ble_eq_true rfl⟩
theorem knPadd (m : Move) : Statement (.knPadd m) := ⟨rfl, Nat.le_of_ble_eq_true rfl, Nat.le_of_ble_eq_true rfl⟩
theorem knQadd (m : Move) : Statement (.knQadd m) := ⟨rfl, Nat.le_of_ble_eq_true rfl, Nat.le_of_ble_eq_true rfl⟩
theorem knUpd (m : Move) : Statement (.knUpd m) := ⟨rfl, Nat.le_of_ble_eq_true rfl, Nat.le_of_ble_eq_true rfl⟩
theorem knLd (m : Move) : Statement (.knLd m) := ⟨rfl, Nat.le_of_ble_eq_true rfl, Nat.le_of_ble_eq_true rfl⟩
theorem knSt (m : Move) : Statement (.knSt m) := ⟨rfl, Nat.le_of_ble_eq_true rfl, Nat.le_of_ble_eq_true rfl⟩
theorem lkSend (m : Move) : Statement (.lkSend m) := ⟨rfl, Nat.le_of_ble_eq_true rfl, Nat.le_of_ble_eq_true rfl⟩
theorem lkRecv (m : Move) : Statement (.lkRecv m) := ⟨rfl, Nat.le_of_ble_eq_true rfl, Nat.le_of_ble_eq_true rfl⟩
theorem lkProbe (m : Move) : Statement (.lkProbe m) := ⟨rfl, Nat.le_of_ble_eq_true rfl, Nat.le_of_ble_eq_true rfl⟩
theorem lkPeek (m : Move) : Statement (.lkPeek m) := ⟨rfl, Nat.le_of_ble_eq_true rfl, Nat.le_of_ble_eq_true rfl⟩
theorem vaAddb (m : Move) : Statement (.vaAddb m) := ⟨rfl, Nat.le_of_ble_eq_true rfl, Nat.le_of_ble_eq_true rfl⟩
theorem vaAddh (m : Move) : Statement (.vaAddh m) := ⟨rfl, Nat.le_of_ble_eq_true rfl, Nat.le_of_ble_eq_true rfl⟩
theorem vaAddw (m : Move) : Statement (.vaAddw m) := ⟨rfl, Nat.le_of_ble_eq_true rfl, Nat.le_of_ble_eq_true rfl⟩
theorem vaSubb (m : Move) : Statement (.vaSubb m) := ⟨rfl, Nat.le_of_ble_eq_true rfl, Nat.le_of_ble_eq_true rfl⟩
theorem vaSubh (m : Move) : Statement (.vaSubh m) := ⟨rfl, Nat.le_of_ble_eq_true rfl, Nat.le_of_ble_eq_true rfl⟩
theorem vaSubw (m : Move) : Statement (.vaSubw m) := ⟨rfl, Nat.le_of_ble_eq_true rfl, Nat.le_of_ble_eq_true rfl⟩
theorem vaMinb (m : Move) : Statement (.vaMinb m) := ⟨rfl, Nat.le_of_ble_eq_true rfl, Nat.le_of_ble_eq_true rfl⟩
theorem vaMinh (m : Move) : Statement (.vaMinh m) := ⟨rfl, Nat.le_of_ble_eq_true rfl, Nat.le_of_ble_eq_true rfl⟩
theorem vaMinw (m : Move) : Statement (.vaMinw m) := ⟨rfl, Nat.le_of_ble_eq_true rfl, Nat.le_of_ble_eq_true rfl⟩
theorem vaMaxb (m : Move) : Statement (.vaMaxb m) := ⟨rfl, Nat.le_of_ble_eq_true rfl, Nat.le_of_ble_eq_true rfl⟩
theorem vaMaxh (m : Move) : Statement (.vaMaxh m) := ⟨rfl, Nat.le_of_ble_eq_true rfl, Nat.le_of_ble_eq_true rfl⟩
theorem vaMaxw (m : Move) : Statement (.vaMaxw m) := ⟨rfl, Nat.le_of_ble_eq_true rfl, Nat.le_of_ble_eq_true rfl⟩
theorem vaCeqb (m : Move) : Statement (.vaCeqb m) := ⟨rfl, Nat.le_of_ble_eq_true rfl, Nat.le_of_ble_eq_true rfl⟩
theorem vaCeqh (m : Move) : Statement (.vaCeqh m) := ⟨rfl, Nat.le_of_ble_eq_true rfl, Nat.le_of_ble_eq_true rfl⟩
theorem vaCeqw (m : Move) : Statement (.vaCeqw m) := ⟨rfl, Nat.le_of_ble_eq_true rfl, Nat.le_of_ble_eq_true rfl⟩
theorem vaCltb (m : Move) : Statement (.vaCltb m) := ⟨rfl, Nat.le_of_ble_eq_true rfl, Nat.le_of_ble_eq_true rfl⟩
theorem vaClth (m : Move) : Statement (.vaClth m) := ⟨rfl, Nat.le_of_ble_eq_true rfl, Nat.le_of_ble_eq_true rfl⟩
theorem vaCltw (m : Move) : Statement (.vaCltw m) := ⟨rfl, Nat.le_of_ble_eq_true rfl, Nat.le_of_ble_eq_true rfl⟩
theorem vaAnd (m : Move) : Statement (.vaAnd m) := ⟨rfl, Nat.le_of_ble_eq_true rfl, Nat.le_of_ble_eq_true rfl⟩
theorem vaOr (m : Move) : Statement (.vaOr m) := ⟨rfl, Nat.le_of_ble_eq_true rfl, Nat.le_of_ble_eq_true rfl⟩
theorem vaXor (m : Move) : Statement (.vaXor m) := ⟨rfl, Nat.le_of_ble_eq_true rfl, Nat.le_of_ble_eq_true rfl⟩
theorem vaAndn (m : Move) : Statement (.vaAndn m) := ⟨rfl, Nat.le_of_ble_eq_true rfl, Nat.le_of_ble_eq_true rfl⟩
theorem vaSllw (m : Move) : Statement (.vaSllw m) := ⟨rfl, Nat.le_of_ble_eq_true rfl, Nat.le_of_ble_eq_true rfl⟩
theorem vaSrlw (m : Move) : Statement (.vaSrlw m) := ⟨rfl, Nat.le_of_ble_eq_true rfl, Nat.le_of_ble_eq_true rfl⟩
theorem vaSraw (m : Move) : Statement (.vaSraw m) := ⟨rfl, Nat.le_of_ble_eq_true rfl, Nat.le_of_ble_eq_true rfl⟩
theorem vaSel (m : Move) : Statement (.vaSel m) := ⟨rfl, Nat.le_of_ble_eq_true rfl, Nat.le_of_ble_eq_true rfl⟩
theorem vaClmul (m : Move) : Statement (.vaClmul m) := ⟨rfl, Nat.le_of_ble_eq_true rfl, Nat.le_of_ble_eq_true rfl⟩
theorem vaXscan (m : Move) : Statement (.vaXscan m) := ⟨rfl, Nat.le_of_ble_eq_true rfl, Nat.le_of_ble_eq_true rfl⟩
theorem vaAscan (m : Move) : Statement (.vaAscan m) := ⟨rfl, Nat.le_of_ble_eq_true rfl, Nat.le_of_ble_eq_true rfl⟩
theorem vaPerm (m : Move) : Statement (.vaPerm m) := ⟨rfl, Nat.le_of_ble_eq_true rfl, Nat.le_of_ble_eq_true rfl⟩
theorem vaRsum (m : Move) : Statement (.vaRsum m) := ⟨rfl, Nat.le_of_ble_eq_true rfl, Nat.le_of_ble_eq_true rfl⟩
theorem vaRxor (m : Move) : Statement (.vaRxor m) := ⟨rfl, Nat.le_of_ble_eq_true rfl, Nat.le_of_ble_eq_true rfl⟩
theorem vaRmax (m : Move) : Statement (.vaRmax m) := ⟨rfl, Nat.le_of_ble_eq_true rfl, Nat.le_of_ble_eq_true rfl⟩
theorem vaRany (m : Move) : Statement (.vaRany m) := ⟨rfl, Nat.le_of_ble_eq_true rfl, Nat.le_of_ble_eq_true rfl⟩
theorem vpPadd (m : Move) : Statement (.vpPadd m) := ⟨rfl, Nat.le_of_ble_eq_true rfl, Nat.le_of_ble_eq_true rfl⟩
theorem vpPsub (m : Move) : Statement (.vpPsub m) := ⟨rfl, Nat.le_of_ble_eq_true rfl, Nat.le_of_ble_eq_true rfl⟩
theorem vpPmul (m : Move) : Statement (.vpPmul m) := ⟨rfl, Nat.le_of_ble_eq_true rfl, Nat.le_of_ble_eq_true rfl⟩
theorem vpPfma (m : Move) : Statement (.vpPfma m) := ⟨rfl, Nat.le_of_ble_eq_true rfl, Nat.le_of_ble_eq_true rfl⟩
theorem vpPfms (m : Move) : Statement (.vpPfms m) := ⟨rfl, Nat.le_of_ble_eq_true rfl, Nat.le_of_ble_eq_true rfl⟩
theorem vpPmin (m : Move) : Statement (.vpPmin m) := ⟨rfl, Nat.le_of_ble_eq_true rfl, Nat.le_of_ble_eq_true rfl⟩
theorem vpPmax (m : Move) : Statement (.vpPmax m) := ⟨rfl, Nat.le_of_ble_eq_true rfl, Nat.le_of_ble_eq_true rfl⟩
theorem vpPabs (m : Move) : Statement (.vpPabs m) := ⟨rfl, Nat.le_of_ble_eq_true rfl, Nat.le_of_ble_eq_true rfl⟩
theorem vpPneg (m : Move) : Statement (.vpPneg m) := ⟨rfl, Nat.le_of_ble_eq_true rfl, Nat.le_of_ble_eq_true rfl⟩
theorem vpPceq (m : Move) : Statement (.vpPceq m) := ⟨rfl, Nat.le_of_ble_eq_true rfl, Nat.le_of_ble_eq_true rfl⟩
theorem vpPclt (m : Move) : Statement (.vpPclt m) := ⟨rfl, Nat.le_of_ble_eq_true rfl, Nat.le_of_ble_eq_true rfl⟩
theorem vpPcle (m : Move) : Statement (.vpPcle m) := ⟨rfl, Nat.le_of_ble_eq_true rfl, Nat.le_of_ble_eq_true rfl⟩
theorem vqQclr0 (m : Move) : Statement (.vqQclr0 m) := ⟨rfl, Nat.le_of_ble_eq_true rfl, Nat.le_of_ble_eq_true rfl⟩
theorem vqQmac0 (m : Move) : Statement (.vqQmac0 m) := ⟨rfl, Nat.le_of_ble_eq_true rfl, Nat.le_of_ble_eq_true rfl⟩
theorem vqQadd0 (m : Move) : Statement (.vqQadd0 m) := ⟨rfl, Nat.le_of_ble_eq_true rfl, Nat.le_of_ble_eq_true rfl⟩
theorem vqQsub0 (m : Move) : Statement (.vqQsub0 m) := ⟨rfl, Nat.le_of_ble_eq_true rfl, Nat.le_of_ble_eq_true rfl⟩
theorem vqQrnd0 (m : Move) : Statement (.vqQrnd0 m) := ⟨rfl, Nat.le_of_ble_eq_true rfl, Nat.le_of_ble_eq_true rfl⟩
theorem vqQsav0 (m : Move) : Statement (.vqQsav0 m) := ⟨rfl, Nat.le_of_ble_eq_true rfl, Nat.le_of_ble_eq_true rfl⟩
theorem vqQld0 (m : Move) : Statement (.vqQld0 m) := ⟨rfl, Nat.le_of_ble_eq_true rfl, Nat.le_of_ble_eq_true rfl⟩
theorem vqQxadd0 (m : Move) : Statement (.vqQxadd0 m) := ⟨rfl, Nat.le_of_ble_eq_true rfl, Nat.le_of_ble_eq_true rfl⟩
theorem vqQred0 (m : Move) : Statement (.vqQred0 m) := ⟨rfl, Nat.le_of_ble_eq_true rfl, Nat.le_of_ble_eq_true rfl⟩
theorem vqQovf0 (m : Move) : Statement (.vqQovf0 m) := ⟨rfl, Nat.le_of_ble_eq_true rfl, Nat.le_of_ble_eq_true rfl⟩
theorem vqQclr1 (m : Move) : Statement (.vqQclr1 m) := ⟨rfl, Nat.le_of_ble_eq_true rfl, Nat.le_of_ble_eq_true rfl⟩
theorem vqQmac1 (m : Move) : Statement (.vqQmac1 m) := ⟨rfl, Nat.le_of_ble_eq_true rfl, Nat.le_of_ble_eq_true rfl⟩
theorem vqQadd1 (m : Move) : Statement (.vqQadd1 m) := ⟨rfl, Nat.le_of_ble_eq_true rfl, Nat.le_of_ble_eq_true rfl⟩
theorem vqQsub1 (m : Move) : Statement (.vqQsub1 m) := ⟨rfl, Nat.le_of_ble_eq_true rfl, Nat.le_of_ble_eq_true rfl⟩
theorem vqQrnd1 (m : Move) : Statement (.vqQrnd1 m) := ⟨rfl, Nat.le_of_ble_eq_true rfl, Nat.le_of_ble_eq_true rfl⟩
theorem vqQsav1 (m : Move) : Statement (.vqQsav1 m) := ⟨rfl, Nat.le_of_ble_eq_true rfl, Nat.le_of_ble_eq_true rfl⟩
theorem vqQld1 (m : Move) : Statement (.vqQld1 m) := ⟨rfl, Nat.le_of_ble_eq_true rfl, Nat.le_of_ble_eq_true rfl⟩
theorem vqQxadd1 (m : Move) : Statement (.vqQxadd1 m) := ⟨rfl, Nat.le_of_ble_eq_true rfl, Nat.le_of_ble_eq_true rfl⟩
theorem vqQred1 (m : Move) : Statement (.vqQred1 m) := ⟨rfl, Nat.le_of_ble_eq_true rfl, Nat.le_of_ble_eq_true rfl⟩
theorem vqQovf1 (m : Move) : Statement (.vqQovf1 m) := ⟨rfl, Nat.le_of_ble_eq_true rfl, Nat.le_of_ble_eq_true rfl⟩
theorem vcCvt (m : Move) : Statement (.vcCvt m) := ⟨rfl, Nat.le_of_ble_eq_true rfl, Nat.le_of_ble_eq_true rfl⟩
theorem vcCvth (m : Move) : Statement (.vcCvth m) := ⟨rfl, Nat.le_of_ble_eq_true rfl, Nat.le_of_ble_eq_true rfl⟩
theorem vcCvi (m : Move) : Statement (.vcCvi m) := ⟨rfl, Nat.le_of_ble_eq_true rfl, Nat.le_of_ble_eq_true rfl⟩
theorem vcCvih (m : Move) : Statement (.vcCvih m) := ⟨rfl, Nat.le_of_ble_eq_true rfl, Nat.le_of_ble_eq_true rfl⟩
theorem vcCvo (m : Move) : Statement (.vcCvo m) := ⟨rfl, Nat.le_of_ble_eq_true rfl, Nat.le_of_ble_eq_true rfl⟩
theorem vcMxsc (m : Move) : Statement (.vcMxsc m) := ⟨rfl, Nat.le_of_ble_eq_true rfl, Nat.le_of_ble_eq_true rfl⟩
theorem vcQuan (m : Move) : Statement (.vcQuan m) := ⟨rfl, Nat.le_of_ble_eq_true rfl, Nat.le_of_ble_eq_true rfl⟩
theorem vcDequ (m : Move) : Statement (.vcDequ m) := ⟨rfl, Nat.le_of_ble_eq_true rfl, Nat.le_of_ble_eq_true rfl⟩
theorem vmLd (m : Move) : Statement (.vmLd m) := ⟨rfl, Nat.le_of_ble_eq_true rfl, Nat.le_of_ble_eq_true rfl⟩
theorem vmLds (m : Move) : Statement (.vmLds m) := ⟨rfl, Nat.le_of_ble_eq_true rfl, Nat.le_of_ble_eq_true rfl⟩
theorem vmLdg (m : Move) : Statement (.vmLdg m) := ⟨rfl, Nat.le_of_ble_eq_true rfl, Nat.le_of_ble_eq_true rfl⟩
theorem vmSt (m : Move) : Statement (.vmSt m) := ⟨rfl, Nat.le_of_ble_eq_true rfl, Nat.le_of_ble_eq_true rfl⟩
theorem vmSts (m : Move) : Statement (.vmSts m) := ⟨rfl, Nat.le_of_ble_eq_true rfl, Nat.le_of_ble_eq_true rfl⟩
theorem vmSct (m : Move) : Statement (.vmSct m) := ⟨rfl, Nat.le_of_ble_eq_true rfl, Nat.le_of_ble_eq_true rfl⟩
theorem vxXrot (m : Move) : Statement (.vxXrot m) := ⟨rfl, Nat.le_of_ble_eq_true rfl, Nat.le_of_ble_eq_true rfl⟩
theorem vxXbc (m : Move) : Statement (.vxXbc m) := ⟨rfl, Nat.le_of_ble_eq_true rfl, Nat.le_of_ble_eq_true rfl⟩
theorem vfFeval (m : Move) : Statement (.vfFeval m) := ⟨rfl, Nat.le_of_ble_eq_true rfl, Nat.le_of_ble_eq_true rfl⟩
theorem effectivePriorityRise (part : Nat) : Statement (.effectivePriorityRise part) := trivial
theorem duplicateRequest : Statement .duplicateRequest := trivial
theorem unassignedType : Statement .unassignedType := trivial
theorem info : Statement .info := trivial
theorem recordClear : Statement .recordClear := trivial
theorem powerCap : Statement .powerCap := trivial
theorem firmwareImage : Statement .firmwareImage := trivial
theorem partCreate : Statement .partCreate := trivial
theorem partDestroy : Statement .partDestroy := trivial
theorem monitorLoad : Statement .monitorLoad := trivial
theorem keyInstall : Statement .keyInstall := trivial
theorem keyClear : Statement .keyClear := trivial
theorem partConfigRead : Statement .partConfigRead := trivial
theorem partConfigReplace : Statement .partConfigReplace := trivial
theorem partConfigAppend : Statement .partConfigAppend := trivial
theorem memWrite : Statement .memWrite := trivial
theorem memRead : Statement .memRead := trivial
theorem memWriteRaw : Statement .memWriteRaw := trivial
theorem memReadRaw : Statement .memReadRaw := trivial
theorem kilnRead : Statement .kilnRead := trivial
theorem kilnWrite : Statement .kilnWrite := trivial
theorem chainPost : Statement .chainPost := trivial
theorem stop : Statement .stop := trivial
theorem forceStop : Statement .forceStop := trivial
theorem resume : Statement .resume := trivial
theorem dirtyScan : Statement .dirtyScan := trivial
theorem stateExport : Statement .stateExport := trivial
theorem stateImport : Statement .stateImport := trivial
theorem attest : Statement .attest := trivial
theorem errorRead : Statement .errorRead := trivial
theorem snapshotTrigger : Statement .snapshotTrigger := trivial
theorem snapshotArm : Statement .snapshotArm := trivial
theorem snapshotRead : Statement .snapshotRead := trivial

end Sys2Proof.Laws.Lookup
end

