-- ==== Sys2Proof/Laws/Wire.lean ====
section
/-! SUPPORT. What sending a flit, a request and a finding of an error can do, for proofs that cite these instead of unfolding them. -/

namespace Sys2Proof.Machine

@[simp] theorem Port.push_sendSeq (p : Port) (m : Nat) (now : Word) (f : Flit) : (p.push m now f).sendSeq = p.sendSeq + 1 := by
  unfold Port.push; dsimp only; split <;> rfl

@[simp] theorem Port.push_replay (p : Port) (m : Nat) (now : Word) (f : Flit) :
    (p.push m now f).replay = p.replay ++ [{ f with seq := p.sendSeq }] := by
  unfold Port.push; dsimp only; split <;> rfl

@[simp] theorem Port.push_expect (p : Port) (m : Nat) (now : Word) (f : Flit) : (p.push m now f).expect = p.expect := by
  unfold Port.push; dsimp only; split <;> rfl

@[simp] theorem Port.emit_replay (p : Port) (m : Nat) (fs : List Flit) : (p.emit m fs).replay = p.replay := rfl
@[simp] theorem Port.acknowledge_replay (p : Port) (m : Nat) (nak : Bool) : (p.acknowledge m nak).replay = p.replay := rfl
@[simp] theorem Port.acknowledge_sendSeq (p : Port) (m : Nat) (nak : Bool) : (p.acknowledge m nak).sendSeq = p.sendSeq := rfl

/-- A flit that is sent waits on its held route or joins a port's replay buffer; nothing else of the module changes. -/
theorem State.sendFlit_cases {s t : State} {f : Flit} (h : s.sendFlit f = some t) :
    ∃ r, (s.part f.part).route f.dst f.cls = some r
      ∧ (t = s.mapPart f.part (fun p => p.setRoute { r with held := true, waiting := r.waiting ++ [f] })
        ∨ r.held = false ∧ s.portUp r.port = true ∧ t = s.setPort r.port ((s.port r.port).push s.sourceModule s.timeBase f)) := by
  unfold State.sendFlit at h
  split at h
  · cases h
  · next r hr =>
    refine ⟨r, hr, ?_⟩
    split at h
    · exact .inl (Option.some.inj h).symm
    · next hn => simp at hn; exact .inr ⟨hn.1, hn.2, (Option.some.inj h).symm⟩

/-- Sending a flit keeps every tile, every die and the memory. -/
theorem State.sendFlit_frame {s t : State} {f : Flit} (h : s.sendFlit f = some t) :
    t.tiles = s.tiles ∧ t.dies = s.dies ∧ t.memory = s.memory ∧ t.tags = s.tags := by
  obtain ⟨r, -, rfl | ⟨-, -, rfl⟩⟩ := State.sendFlit_cases h <;> exact ⟨rfl, rfl, rfl, rfl⟩

/-- Sending a flit changes neither what a step wants nor what waits for an answer. -/
theorem State.sendFlit_want {s t : State} {f : Flit} (h : s.sendFlit f = some t) : t.want = s.want ∧ t.awaited = s.awaited := by
  obtain ⟨r, -, rfl | ⟨-, -, rfl⟩⟩ := State.sendFlit_cases h <;> exact ⟨rfl, rfl⟩

/-- A request leaves under the module's next transaction number. -/
theorem State.request_cases {s t : State} {f : Flit} {n : Nat} (h : s.request f = some (n, t)) :
    n = s.nextTag ∧ ({ s with tags := (s.nextTag + 1) % 2 ^ 24 } : State).sendFlit { f with tag := s.nextTag } = some t := by
  simp only [State.request, Option.map_eq_some_iff, Prod.mk.injEq] at h
  obtain ⟨u, hu, rfl, rfl⟩ := h
  exact ⟨rfl, hu⟩

/-- A request keeps every tile, every die and the memory. -/
theorem State.request_frame {s t : State} {f : Flit} {n : Nat} (h : s.request f = some (n, t)) :
    t.tiles = s.tiles ∧ t.dies = s.dies ∧ t.memory = s.memory ∧ t.tags = (s.nextTag + 1) % 2 ^ 24 :=
  State.sendFlit_frame (State.request_cases h).2

/-- A request changes neither what a step wants nor what waits for an answer. -/
theorem State.request_want {s t : State} {f : Flit} {n : Nat} (h : s.request f = some (n, t)) :
    t.want = s.want ∧ t.awaited = s.awaited := by
  have h1 := State.sendFlit_want (State.request_cases h).2
  exact h1

theorem State.notifyEach_want (part job va : Nat) (ds : List Nat) :
    ∀ s : State, (s.notifyEach part job va ds).2.want = s.want := by
  induction ds with
  | nil => intro s; rfl
  | cons d ds ih =>
    intro s
    unfold State.notifyEach
    split
    · next e => exact (ih _).trans (State.request_want e).1
    · exact ih s

@[simp] theorem State.ask_want (s : State) (q : Awaited) : (s.ask q).2.want = s.want := by
  unfold State.ask
  split
  · exact State.notifyEach_want ..
  · split
    · rfl
    · next e => exact (State.request_want e).1

/-- Where none of the accesses is meant, none is left behind. -/
theorem State.abandon_none {s : State} {which : Awaited → Bool} (h : s.awaited.any which = false) : s.abandon which = s := by
  simp [State.abandon, h]

/-- A step that has asked for nothing forgets nothing. -/
theorem State.forget_none {s : State} {a : Asker} (h : ∀ q ∈ s.awaited, q.asker ≠ a) : s.forget a = s :=
  State.abandon_none (by simpa using h)

theorem State.giveBack_want (s : State) (q : Awaited) (a : Answer) : (s.giveBack q a).want = s.want := by
  unfold State.giveBack
  split
  · split
    · dsimp only; split <;> simp
    · rfl
  · rfl

theorem State.leaveBehind_want (s : State) (q : Awaited) : (s.leaveBehind q).want = s.want := by
  unfold State.leaveBehind
  split
  · rfl
  · rfl
  · exact State.giveBack_want ..

/-- What is left behind is not what a step wants. -/
@[simp] theorem State.abandon_want (s : State) (which : Awaited → Bool) : (s.abandon which).want = s.want := by
  have go (qs : List Awaited) : ∀ u : State, (qs.foldl State.leaveBehind u).want = u.want := by
    induction qs with
    | nil => intro u; rfl
    | cons q qs ih => intro u; exact (ih _).trans (State.leaveBehind_want ..)
  unfold State.abandon
  split
  · exact go ..
  · rfl

@[simp] theorem State.forget_want (s : State) (a : Asker) : (s.forget a).want = s.want := State.abandon_want ..

/-- What an attempt can come to: the whole step, with nothing lacking, and what it has asked for forgotten; or an access asked for; or
nothing. -/
theorem State.attempt_cases (s : State) (a : Asker) (f : State → State) :
    ((f { s with want := none, asker := a }).want = none
        ∧ s.attempt a f = .made (({ f { s with want := none, asker := a } with want := s.want, asker := s.asker } : State).forget a))
      ∨ (∃ q, (f { s with want := none, asker := a }).want = some q ∧ q.stage = .wanted
          ∧ s.attempt a f = .asked { (s.ask q).2 with awaited := (s.ask q).2.awaited ++ [{ q with stage := (s.ask q).1 }] })
      ∨ s.attempt a f = .early := by
  unfold State.attempt State.concluded
  split
  · next h => exact .inl ⟨h, rfl⟩
  · next q h =>
    split
    · next e => exact .inr (.inl ⟨q, h, e, rfl⟩)
    · exact .inr (.inr rfl)

/-- An attempt leaves what is wanted as it was. -/
@[simp] theorem State.attempt_want (s : State) (a : Asker) (f : State → State) : ((s.attempt a f).state s).want = s.want := by
  obtain ⟨-, h⟩ | ⟨q, -, -, h⟩ | h := s.attempt_cases a f <;> rw [h] <;> simp [Attempt.state]

/-- A step that needs no other module is made. -/
theorem State.attempt_made {s : State} {a : Asker} {f : State → State} (h : (f { s with want := none, asker := a }).want = none) :
    s.attempt a f = .made (({ f { s with want := none, asker := a } with want := s.want, asker := s.asker } : State).forget a) := by
  simp [State.attempt, State.concluded, h]

/-- An access waited for keeps the memory, the tiles and the dies: it takes an answer that has come, or is what the step wants. -/
theorem State.await_frame (s : State) (q : Awaited) :
    (s.await q).2.memory = s.memory ∧ (s.await q).2.tiles = s.tiles ∧ (s.await q).2.dies = s.dies ∧ (s.await q).2.parts = s.parts := by
  unfold State.await
  dsimp only
  repeat' split
  all_goals exact ⟨rfl, rfl, rfl, rfl⟩

/-- No wrong bit is no error. -/
theorem verdict_nil (grade : Nat) : verdict grade [] = .clean := by
  simp [verdict, wrongCounts]

/-- A decision served is the partition's turn. -/
@[simp] theorem State.takeTurn_turn (s : State) (p : Nat) : (s.takeTurn p).turn = p := by
  unfold State.takeTurn; split
  · next h => exact h.1.symm
  · rfl

end Sys2Proof.Machine
end

