-- ==== Sys2Proof/Tests/Slice0.lean ====
section
/-! SUPPORT. Own tests: words and the steps they stand for, terms that are not well-formed, steps with the results that the
worked examples of spec/ give, and for every statement with hypotheses a state and operands that meet them (names that begin
with `meets_`). -/

open Host (Outcome)
open Sys2Proof Sys2Proof.Machine Sys2Proof.Claims

namespace Sys2Proof.Tests

/- One theorem after another: each has a stack of its own while it is checked. -/
set_option Elab.async false

/-! ## Small states -/

/-- A task of partition 0 with every cluster in use and 1 KiB of code. -/
def task : Task :=
  { part := 0, launch := 0, job := 0, index := 3, total := 8, clock := 0, determ := false, serial := false, work := .dispatched,
    start := [], object := 0, codeBase := 4096, codeLen := 1024, handler := none, clusters := 0xFF, foot := [], footEng := 0,
    spill := [], stub := none, began := 0, order := 0 }

def on (b : Bus) (src : Source) : Move := { last := true, bus := b, guard := .always, src := src }

/-- A move of a 9-bit immediate, and one of s1, on tile bus 0; one of v1 on lane-bus 0 of cluster 2. -/
def imm (v : Nat) : Move := on (.tile 0) (.short (BitVec.ofNat 9 v))
def ofS1 : Move := on (.tile 0) (.reg 1)
def ofV1 : Move := on (.cluster 2 0) (.reg 1)

/-- A tile that runs `task` with some operand ports and registers set. -/
def tileWith (ports regs : List (Nat × Word)) : Tile :=
  { phase := .running, task := some task, pc := 4096, units := { ports := ports }, sGlobal := regs }

def partition : Partition := { state := .running, dies := 1 }

def stateWith (t : Tile) : State := { State.reset with parts := [(0, partition)], tiles := [(0, t)] }

/-- Tiles 0 and 1 run tasks 3 and 4 of one launch. -/
def pair (a b : Tile) : State :=
  { State.reset with parts := [(0, partition)], tiles := [(0, a), (1, { b with phase := .running, task := some { task with index := 4 } })] }

def remote : Rput := { addr := 0x90000004001FFFF8, n := 8, data := 5, ctl := 0xBF03 }

/-- The state after one step, and one value of it. -/
def after {α : Type} (i : Instr) (s : State) (f : State → α) : Option α :=
  match exec i s with
  | .next t => some (f t)
  | _ => none

/-- What the records in flight on the running level bring. -/
def bodies (t : State) : List Payload := t.here.flying.map Flight.body

/-- A result of a multiply with all three cycles to go. -/
def multiplying : Flight :=
  { unit := 2, clus := 15, op := 0x1C0, remain := 2, perf := none, bundle := 4096, bus := 32, body := .result 0x102 9 }

/-- A page of partition 0 maps all of class 0x0 below 2^42 onto its own physical addresses, readable and writable and dirty; its
table is the first page of its LPDDR6. -/
def mapped (s : State) : State :=
  { s with
    memory := [(2 ^ 40, 0x02), (2 ^ 40 + 1, 0x17)]
    parts := [(0, { s.part 0 with root := BitVec.ofNat 64 (2 ^ 41) })] }

/-- The non-zero cells of some bytes from an address. -/
def cellsOf (a : Nat) (bs : List Byte) : Memory := ((upFrom 0 bs.length).map (fun i => (a + i, nth 0 bs i))).filter (fun c => c.2 != 0)

/-- The leaf and the walk of an address that `mapped` maps. -/
def leafAt (va : Nat) : Leaf :=
  { ppa := va, phys := va, key := 0, grade := 0, shared := false, home := 0, foreign := false, entry := 0x1702, entryAt := 2 ^ 40, level := 1 }
def walked : Walked := { level := 1, entry := 0x1702, place := 2 ^ 40 }

/-- A record of four tasks of priority 7: one level of 4 iterations, SLICE 1, ENTRY 8, and the object at 0x200 (R71). -/
def taskRecord (linked : Nat) : Nat := 7 * 2 ^ 2 + linked * 2 ^ 5 + 2 ^ 16 + 0x200 * 2 ^ 64 + 8 * 2 ^ 128 + 2 ^ 160 + 4 * 2 ^ 192 + 9 * 2 ^ 448

/-! ## Words (R279 to R285, R303 to R310): each expected step is read off the tables by hand -/

/-- The table that `mapped` has lies at 2^40, whatever other memory holds. -/
theorem walk_mapped (t : State) (m : Memory) (p : Partition) (va : Nat)
    (hv : ¬ 2 ^ 55 ≤ va) (h : physicalOf t.health p (p.root.toNat + 8 * field va 54 42) = some (2 ^ 40)) (hb : t.badLines = [])
    (he : ofBytes (readBytes m (2 ^ 40) 8) = 0x1702) : walk { t with memory := m } p va 3 1 p.root.toNat = .ok walked := by
  show walk { t with memory := m } p va (2 + 1) 1 p.root.toNat = _
  rw [walk]
  rw [if_neg hv]
  simp only [Nat.sub_self, Nat.mul_zero, Nat.sub_zero, h, hb, he]
  rfl
theorem readBytes_agree {m n : Memory} {a k : Nat} (h : ∀ i, a ≤ i → i < a + k → readByte m i = readByte n i) : readBytes m a k = readBytes n a k := by
  induction k generalizing a with
  | zero => rfl
  | succ k ih =>
    have := ih (a := a + 1) (fun i h1 h2 => h i (by omega) (by omega))
    simp only [readBytes, upFrom, List.map_cons] at this ⊢
    rw [h a (Nat.le_refl a) (by omega), this]

theorem test_word_move : decodeTableWord 32 0b0_100001_00000_0000000011_0000000111
    = some (.move { last := false, bus := .tile 1, guard := .always, src := .reg 3 } (.reg 7)) := by decide
theorem test_word_scalar : decodeTableWord 32 0b1_100000_00101_1111111111_0110100001
    = some (.saSub { last := true, bus := .tile 0, guard := .test 5 false, src := .short 0x1FF } true) := by decide
theorem test_word_multiply : decodeTableWord 32 0b1_100000_00000_0000000010_0111000101 = some (.smDivu (on (.tile 0) (.reg 2))) := by decide
theorem test_word_load : decodeTableWord 32 0b1_100000_00000_0000000010_0111001110 = some (.lsLd64 (on (.tile 0) (.reg 2))) := by decide
theorem test_word_control : decodeTableWord 32 0b1_100111_00000_1000000000_0111011101 = some (.ctlEnd (on (.tile 7) (.short 0))) := by decide
theorem test_word_system : decodeTableWord 32 0b1_100000_00000_1000000011_0111100011 = some (.ctlRsr (on (.tile 0) (.short 3))) := by decide
theorem test_word_sync : decodeTableWord 32 0b1_100000_00000_0000000001_0111101011 = some (.syRput ofS1) := by decide
theorem test_word_copy : decodeTableWord 32 0b1_100000_00000_0000000001_1000001111 = some (.cpGo ofS1 15) := by decide
theorem test_word_matrix : decodeTableWord 32 0b1_100000_00000_0000000001_1000010000 = some (.mxMma ofS1) := by decide
theorem test_word_kiln : decodeTableWord 32 0b1_100000_00000_0000000001_1000100100 = some (.knQadd ofS1) := by decide
theorem test_word_link : decodeTableWord 32 0b1_100000_00000_0000000001_1000101001 = some (.lkRecv ofS1) := by decide
theorem test_word_vector : decodeTableWord 32 0b1_001000_00000_0000000001_0110000010 = some (.vaAddw ofV1) := by decide
theorem test_word_posit : decodeTableWord 32 0b1_001000_00000_0000000001_0111000010 = some (.vpPmul ofV1) := by decide
theorem test_word_quire : decodeTableWord 32 0b1_001000_00000_0000000001_0111100001 = some (.vqQmac1 ofV1) := by decide
theorem test_word_convert : decodeTableWord 32 0b1_001000_00000_0000000001_0111110101 = some (.vcMxsc ofV1) := by decide
theorem test_word_gather : decodeTableWord 32 0b1_101011_10011_0000000001_0111111010
    = some (.vmLdg { last := true, bus := .fan 3, guard := .test 3 true, src := .reg 1 }) := by decide
theorem test_word_cross : decodeTableWord 32 0b1_001000_00000_0000000001_1000000001 = some (.vxXbc ofV1) := by decide
theorem test_word_function : decodeTableWord 32 0b1_001000_00000_0000000001_1000000100 = some (.vfFeval ofV1) := by decide
theorem test_word_filler : decodeTableWord 32 0b1_111111_00000_0000000000_0000000000 = some .filler := by decide
/-- A long immediate is the word that follows (R282). -/
theorem test_word_long : decodeTableWord 64 (0b1_100000_00000_0111111111_0100000001 + 2 ^ 32 * 0xFFFFFFFE)
    = some (.move (on (.tile 0) (.long 0xFFFFFFFE)) (.port 0x01)) := by decide
/-- A word of a reserved opcode starts nothing of its own (R284, R309). -/
theorem test_word_reserved : decodeTableWord 32 0b1_100000_00000_0000000001_0111001111 = none := by decide
/-- The rows of the statement WordsDecode hold. -/
theorem test_words : ∀ r ∈ wordRows, (decodeWords r.1).map Prod.fst = r.2 := by decide

/-! ## Terms that are not well-formed -/

/-- Guard index 0, inverted, is reserved (R281). -/
theorem test_illformed_guard : ¬ WellFormed (.saAdd { imm 0 with guard := .test 0 true } false) := by decide
/-- Source code 0x10A is no result port of the tile domain (R303). -/
theorem test_illformed_source : ¬ WellFormed (.saAdd (on (.tile 0) (.result 0x0A)) false) := by decide
/-- Source code 0x107 is no result port of the cluster domain (R305). -/
theorem test_illformed_cluster_source : ¬ WellFormed (.vaAddb (on (.cluster 0 0) (.result 0x07))) := by decide
/-- p0 is not writable (R284). -/
theorem test_illformed_register : ¬ WellFormed (.move (imm 0) (.reg 0x20)) := by decide
/-- 0x103 is no operand port of the tile domain (R302). -/
theorem test_illformed_port : ¬ WellFormed (.move (imm 0) (.port 0x03)) := by decide
/-- A tile trigger on a cluster bus, and a cluster trigger on a tile bus (R308). -/
theorem test_illformed_domain : ¬ WellFormed (.saAdd ofV1 false) ∧ ¬ WellFormed (.vaAddb ofS1) := by decide
theorem test_wellformed : WellFormed (.saAdd ofS1 true) ∧ WellFormed (.vaAddb ofV1) ∧ WellFormed (.move (imm 0) (.reg 0x21)) := by decide
/-- Encoding and decoding agree at the edges of the fields. -/
theorem test_roundtrip : decodeWords (encode (.cpGo { last := false, bus := .tile 7, guard := .test 15 true, src := .long 0x80000000 } 15))
    = some (.cpGo { last := false, bus := .tile 7, guard := .test 15 true, src := .long 0x80000000 } 15, []) := by decide
theorem meets_DecodeEncodeAgree : (Instr.vfFeval ofV1).wf = true ∧ (Instr.vfFeval ofV1).isCode = true := by decide

/-! ## Steps with results from the spec's worked examples and tables -/

/-- R319's worked example, first row: 12 bits from bit 8. -/
theorem test_bext : after (.saBext ofS1 false) (stateWith (tileWith [(0x101, 0x0C08)] [(1, 0x0123456789ABCDEF)])) bodies
    = some [.result 0x100 0xBCD] := by decide
theorem test_bexts : after (.saBexts ofS1 true) (stateWith (tileWith [(0x105, 0x0C08)] [(1, 0x0123456789ABCDEF)])) bodies
    = some [.result 0x101 0xFFFFFFFFFFFFFBCD] := by decide
/-- R319's worked example, third row: a field cut to four bits. -/
theorem test_bins : after (.saBins ofS1 false) (stateWith (tileWith [(0x101, 0x083C), (0x102, 0xFF)] [(1, 0x0123456789ABCDEF)])) bodies
    = some [.result 0x100 0xF123456789ABCDEF] := by decide
/-- R318: an arithmetic shift by 64 shifts by 0. -/
theorem test_sra : after (.saSra ofS1 false) (stateWith (tileWith [(0x101, 64)] [(1, 0x8000000000000000)])) bodies
    = some [.result 0x100 0x8000000000000000] := by decide
/-- R320: −2^63 / −1, and division by zero. -/
theorem test_div_overflow : after (.smDiv ofS1) (stateWith (tileWith [(0x109, 0xFFFFFFFFFFFFFFFF)] [(1, 0x8000000000000000)])) bodies
    = some [.result 0x102 0x8000000000000000, .divider] := by decide
theorem test_rem_zero : after (.smRem ofS1) (stateWith (tileWith [] [(1, 7)])) bodies = some [.result 0x102 7, .divider] := by decide
/-- R320: the high half of a signed product. -/
theorem test_mulh : after (.smMulh ofS1) (stateWith (tileWith [(0x109, 2)] [(1, 0xFFFFFFFFFFFFFFFF)])) bodies
    = some [.result 0x102 0xFFFFFFFFFFFFFFFF] := by decide
/-- R209: a move into an even predicate writes the odd one with the complement. -/
theorem test_predicate_pair : after (.move (imm 0) (.reg 0x22)) (stateWith (tileWith [] [])) (fun t => (t.here.readP 2, t.here.readP 3))
    = some (false, true) := by decide
/-- R323: an access past the end of the tile store. -/
theorem test_bounds : after (.lsLd8 ofS1) (stateWith (tileWith [] [(1, 0x200000)])) (fun t => (t.here.level, t.here.monitor.info))
    = some (.monitor, 0x200000) := by decide
/-- R228: EPC of a trap is the address after the bundle, and its code is 0x0F. -/
theorem test_trap : after (.ctlTrap (imm 5)) (stateWith (tileWith [] [])) (fun t => (t.here.monitor.epc, t.here.monitor.word.toNat % 256))
    = some (4100, 0x0F) := by decide
/-- R330: END stops the tile's sequencer. -/
theorem test_end : after (.ctlEnd (imm 0)) (stateWith (tileWith [] [])) (fun t => t.here.phase) = some .ended := by decide
/-- R343: a semaphore counts modulo 2^32. -/
theorem test_semadd : after (.sySemadd (imm 63)) (stateWith { tileWith [(0x115, 1)] [] with semas := [(63, 0xFFFFFFFF)] })
    (fun t => t.here.sema 63) = some 0 := by decide
set_option exponentiation.threshold 600 in
set_option maxRecDepth 4000 in
/-- R352: bytes add without a carry between them. -/
theorem test_addb : after (.vaAddb ofV1)
    (stateWith { tileWith [] [] with clusters := [(2, { v := [(1, 0x01FF)], ports := [(0x101, 0x0101)] })] }) bodies
    = some [.vector 0x100 0xFFFF 0x0200] := by decide

/-! ## What the statements suppose, met: the task domain -/

theorem meets_ScalarAluResults : ∀ r ∈ aluRows, ∀ u : Bool,
    (stateWith (tileWith [] [])).here.calm ∧ (stateWith (tileWith [] [])).here.mayMove (imm 7) (r.op (imm 7) u).code := by
  unfold Tile.calm Tile.mayMove; decide
theorem meets_MultiplyAndDivideResults : ∀ r ∈ mulRows,
    (stateWith (tileWith [] [])).here.calm ∧ (stateWith (tileWith [] [])).here.mayMove (imm 7) (r.op (imm 7)).code := by
  unfold Tile.calm Tile.mayMove; decide

theorem meets_MovesWriteTheirDestinations_tile :
    (stateWith (tileWith [] [])).here.calm ∧ (stateWith (tileWith [] [])).here.mayMove (imm 7) (Dest.reg 0x2F).code
      ∧ (Dest.reg 0x2F).wf true = true := by
  unfold Tile.calm Tile.mayMove; decide
theorem meets_MovesWriteTheirDestinations_fan :
    let s := stateWith (tileWith [] [])
    let m := on (.fan 3) (.reg 4)
    s.here.calm ∧ s.here.level = .task ∧ m.bus.isTile = false ∧ (Dest.port 0x18).wf false = true
      ∧ ∀ c ∈ s.here.reach m.bus, s.here.inUse.testBit c := by
  unfold Tile.calm; decide
theorem meets_MovesWriteTheirDestinations_off :
    let s := stateWith (tileWith [] [])
    let m : Move := { imm 7 with guard := .test 15 false }
    ((Instr.ctlEnd m).kind = .tile m) ∧ m.bus.isTile = true ∧ s.here.calm ∧ s.here.guard m.guard = false := by
  unfold Tile.calm; decide

/-- The last registers of each kind, and the first and last that a write leaves alone (R207 to R210). -/
theorem meets_RegistersReadBack :
    (({} : Tile).writeS 31 5).readS 31 = 5 ∧ (({} : Tile).writeS 31 5).readS 0 = 0
      ∧ (({} : Tile).writeP 14 false).readP 15 = true ∧ (({} : Tile).writeP 15 true).readP 14 = false := by decide

theorem meets_FillerTakesOneCycle :
    (stateWith (tileWith [] [])).here.calm
      ∧ decodeBundle 0xFF [0xFE000000] = some (.ok { items := [(0, .op .filler)], words := 1 })
      ∧ (Item.op .filler).parts = none := by
  unfold Tile.calm; decide


theorem meets_ResultArrivesAtItsCycle :
    CarriesOne (stateWith { tileWith [] [] with units := { flights := [multiplying] } }).here multiplying
      ∧ multiplying.body = .result 0x102 9 ∧ multiplying.perf = none := by
  unfold CarriesOne Tile.calm; decide

/-- The last access that fits, and the first that does not, for each width. -/
theorem meets_TileStoreAccesses : ∀ r ∈ loadRows ++ storeRows,
    let s := stateWith (tileWith [] [(1, BitVec.ofNat 64 (2 ^ 21 - r.bytes))])
    s.here.calm ∧ s.here.mayMove ofS1 (r.op ofS1).code ∧ AccessFits (s.here.source ofS1.src) r.bytes
      ∧ s.here.poisonedAt (s.here.source ofS1.src).toNat r.bytes = false := by
  unfold Tile.calm Tile.mayMove AccessFits; decide
theorem meets_BadAccessTakesItsEvent_bounds : ∀ r ∈ loadRows ++ storeRows,
    let s := stateWith (tileWith [] [(1, BitVec.ofNat 64 (2 ^ 21 - r.bytes + 1))])
    s.here.calm ∧ BelowS s ∧ s.here.mayMove ofS1 (r.op ofS1).code ∧ 2 ^ 21 < (s.here.source ofS1.src).toNat + r.bytes := by
  unfold Tile.calm Tile.mayMove BelowS; decide
theorem meets_BadAccessTakesItsEvent_misaligned :
    let s := stateWith (tileWith [] [(1, 0x1FFFF7)])
    s.here.calm ∧ BelowS s ∧ s.here.mayMove ofS1 (Instr.lsSt64 ofS1).code ∧ (s.here.source ofS1.src).toNat + 8 ≤ 2 ^ 21
      ∧ (s.here.source ofS1.src).toNat % 8 ≠ 0 := by
  unfold Tile.calm Tile.mayMove BelowS; decide

/-- A target in the last word of the code, and counts of 2, 1 and 0. -/
theorem meets_ControlTransfers_jump :
    let s := stateWith (tileWith [(0x111, 2)] [(1, 1020)])
    s.here.calm ∧ s.here.mayMove ofS1 (Instr.ctlJmp ofS1).code ∧ s.here.mayMove ofS1 (Instr.ctlLoop ofS1).code
      ∧ s.legalTarget (s.here.source ofS1.src) = true ∧ 1 < (s.here.port 0x111).toNat := by
  unfold Tile.calm Tile.mayMove; decide
theorem meets_ControlTransfers_loop :
    let s := fun c => stateWith (tileWith [(0x111, c)] [(1, 1020)])
    (s 1).here.calm ∧ (s 1).here.mayMove ofS1 (Instr.ctlLoop ofS1).code ∧ ((s 1).here.port 0x111).toNat = 1
      ∧ (s 0).here.calm ∧ (s 0).here.mayMove ofS1 (Instr.ctlLoop ofS1).code ∧ (s 0).here.port 0x111 = 0 := by
  unfold Tile.calm Tile.mayMove; decide
theorem meets_ControlTransfers_call :
    let s := stateWith (tileWith [(0x111, 24)] [(1, 1020)])
    s.here.calm ∧ s.here.level = .task ∧ s.here.mayMove ofS1 (Instr.ctlCall ofS1).code ∧ s.legalTarget (s.here.source ofS1.src) = true
      ∧ (s.here.port 0x111).toNat ≤ 24 ∧ s.here.mustPark (s.here.port 0x111).toNat = false := by
  unfold Tile.calm Tile.mayMove; decide
theorem meets_ControlTransfers_return :
    let s := stateWith { tileWith [] [(1, 1020)] with frames := [24, 8], wb := 32 }
    s.here.calm ∧ s.here.level = .task ∧ s.here.mayMove ofS1 (Instr.ctlRet ofS1).code ∧ s.legalTarget (s.here.source ofS1.src) = true
      ∧ s.here.frames = [24] ++ [8] := by
  unfold Tile.calm Tile.mayMove; decide

/-- A tile with five records of 24 registers, with slots for parked ones in its store, and some records parked. -/
def parking (frames : List Nat) (map : List SpillEntry) (slots : Nat) : Tile :=
  { tileWith [(0x111, 24)] [(1, 1020)] with
    task := some { task with spill := [(0x1000, 256 * slots)] }
    frames := frames, wb := 24 * frames.length, spillMap := map }
def fullFrames : List Nat := [24, 24, 24, 24, 24]
def slotOf (f : Nat) : SpillEntry := { f := f, loc := true, clus := 0, slot := 0, off := 0x1000 }
theorem meets_ControlTransfers_park :
    let s := stateWith (parking fullFrames [] 1)
    s.here.calm ∧ s.legalTarget (s.here.source ofS1.src) = true ∧ s.here.level = .task ∧ s.here.mayMove ofS1 (Instr.ctlCall ofS1).code
      ∧ (s.here.port 0x111).toNat = 24 ∧ s.here.frames = 24 :: [24, 24, 24, 24] ∧ 160 < 24 + (24 + [24, 24, 24, 24].sum) + 24
      ∧ 24 + [24, 24, 24, 24].sum + 24 ≤ 160 ∧ s.here.parkEntry = some (slotOf 24) := by
  unfold Tile.calm Tile.mayMove; decide
theorem meets_ControlTransfers_fill : ∀ f ∈ [0, 24],
    let s := stateWith (parking [] [slotOf f] 1)
    s.here.calm ∧ s.legalTarget (s.here.source ofS1.src) = true ∧ s.here.level = .task ∧ s.here.mayMove ofS1 (Instr.ctlRet ofS1).code
      ∧ s.here.frames = [] ∧ s.here.spillMap = [] ++ [slotOf f] ∧ (slotOf f).f ≤ 24 := by
  unfold Tile.calm Tile.mayMove; decide
theorem meets_ControlTransfers_full :
    let s := stateWith (parking fullFrames [slotOf 24] 1)
    s.here.calm ∧ BelowS s ∧ s.here.level = .task ∧ s.here.mayMove ofS1 (Instr.ctlCall ofS1).code ∧ (s.here.port 0x111).toNat ≤ 24
      ∧ s.here.mustPark 24 = true ∧ s.here.parkEntry = none := by
  unfold Tile.calm Tile.mayMove BelowS; decide

/-- A token that is PRESENT, one that is PENDING; nothing on its way, and a remote write on its way. -/
theorem meets_WaitsIssueOrHold_issue :
    let s := stateWith { tileWith [] [] with tokens := [(5, .present)] }
    s.here.calm ∧ s.here.level = .task ∧ s.here.mayMove (imm 5) (Instr.ctlWait (imm 5)).code ∧ waitReserved (s.here.source (imm 5).src) = false
      ∧ s.here.waitMet (s.here.source (imm 5).src) (s.here.port 0x111) = true
      ∧ s.here.mayMove (imm 3) (Instr.syDrain (imm 3)).code ∧ s.here.mayMove (imm 3) (Instr.syFence (imm 3)).code
      ∧ (s.here.source (imm 3).src).toNat ≤ 3 ∧ s.here.rputs = [] := by
  unfold Tile.calm Tile.mayMove; decide
theorem meets_WaitsIssueOrHold_hold :
    let s := { stateWith { tileWith [(0x112, 1), (0x116, 1)] [] with
      tokens := [(5, .pending)], held := some 0, rputs := [{ addr := 9 * 2 ^ 60, n := 8, data := 1, ctl := 3 }] } with timeBase := 999 }
    s.here.calm ∧ s.here.clock ≠ 2 ∧ s.here.level = .task ∧ s.here.mayMove (imm 5) (Instr.ctlWait (imm 5)).code
      ∧ waitReserved (s.here.source (imm 5).src) = false ∧ s.here.waitMet (s.here.source (imm 5).src) (s.here.port 0x111) = false
      ∧ s.here.waitFault (s.here.source (imm 5).src) (s.here.port 0x111) = none
      ∧ (s.timeBase - s.here.held.getD s.timeBase).toNat < (s.here.port 0x112).toNat * 1000
      ∧ s.here.mayMove (imm 0) (Instr.syDrain (imm 0)).code ∧ s.here.rputs ≠ []
      ∧ (s.timeBase - s.here.held.getD s.timeBase).toNat < (s.here.port 0x116).toNat * 1000 := by
  unfold Tile.calm Tile.mayMove; decide

/-- A remote write to another tile of the own die, and a fence of the tile, which lets it go on, or of the die, which holds it. -/
theorem meets_WaitsIssueOrHold_fence : ∀ a ∈ [0, 1],
    let s := { pair { tileWith [(0x116, 1)] [] with
      held := some 0, rputs := [{ addr := 0x9000000400000000, n := 8, data := 1, ctl := 3 }] } {} with timeBase := 999 }
    s.here.calm ∧ s.here.clock ≠ 2 ∧ s.here.mayMove (imm a) (Instr.syFence (imm a)).code ∧ (s.here.source (imm a).src).toNat = a
      ∧ s.here.task = some task ∧ (s.timeBase - s.here.held.getD s.timeBase).toNat < (s.here.port 0x116).toNat * 1000
      ∧ ∀ r ∈ s.here.rputs, homeLevel s.cur ((s.setHere (s.here.setPort 0x114 (s.here.source (imm a).src))).resolve s.cur task r.addr.toNat 0 1) = 1 := by
  unfold Tile.calm Tile.mayMove; decide

/-- The fence of the die and the drain hold in row 7 of R215, the wait in row 6, and none of them issues (R215, R251, R333). -/
theorem test_held_fence_row :
    let s := { pair { tileWith [(0x116, 1)] [] with
      held := some 0, rputs := [{ addr := 0x9000000400000000, n := 8, data := 1, ctl := 3 }] } {} with timeBase := 999 }
    after (.syFence (imm 1)) s (fun t => (t.here.holds, t.here.held, t.here.pc, t.here.rputs.length)) = some (0x40, some 0, 4096, 1)
      ∧ after (.syDrain (imm 0)) s (fun t => (t.here.holds, t.here.held, t.here.pc, t.here.rputs.length)) = some (0x40, some 0, 4096, 1)
      ∧ after (.syFence (imm 0)) s (fun t => (t.here.holds, t.here.pc)) = some (0, 4100) := by decide +kernel
theorem test_held_wait_row :
    let s := { stateWith { tileWith [(0x112, 1)] [] with tokens := [(5, .pending)], held := some 0 } with timeBase := 999 }
    after (.ctlWait (imm 5)) s (fun t => (t.here.holds, t.here.pc, t.here.hcyc)) = some (0x20, 4096, 1) := by decide +kernel

theorem meets_EndEndsTheTask :
    (stateWith (tileWith [] [])).here.calm ∧ (stateWith (tileWith [] [])).here.level = .task
      ∧ (stateWith (tileWith [] [])).here.mayMove (imm 0) (Instr.ctlEnd (imm 0)).code := by
  unfold Tile.calm Tile.mayMove; decide
theorem meets_TrapEntersTheHandler :
    (stateWith (tileWith [] [])).here.calm ∧ BelowS (stateWith (tileWith [] []))
      ∧ (stateWith (tileWith [] [])).here.mayMove (imm 0) (Instr.ctlTrap (imm 0)).code := by
  unfold Tile.calm Tile.mayMove BelowS; decide

/-- A tile in its S handler, which interrupted its U handler or its task, with RES 0 to 3. -/
def handling (l : Level) (word : Word) : State :=
  stateWith { tileWith [] [] with level := l, user := { active := true, epc := 4100, word := word }, monitor := { active := true, epc := 8192, word := word } }

theorem meets_ReturnFromEventResumes_resume :
    let s := handling .monitor 0x50000F
    s.here.calm ∧ s.here.phase = .running ∧ s.here.level ≠ .task ∧ s.here.mayMove (imm 0) (Instr.ctlRfe (imm 0)).code
      ∧ s.here.task = some task ∧ ((s.part task.part).job task.job).stopsTasks = false ∧ task.stub = none := by
  unfold Tile.calm Tile.mayMove; decide
theorem meets_ReturnFromEventResumes_end :
    let s := handling .user 0x800010
    s.here.calm ∧ s.here.phase = .running ∧ s.here.level ≠ .task ∧ s.here.mayMove (imm 0) (Instr.ctlRfe (imm 0)).code
      ∧ s.here.task = some task ∧ ((s.part task.part).job task.job).stopsTasks = false ∧ task.stub = none
      ∧ s.here.handler.word.getLsbD 23 = true := by
  unfold Tile.calm Tile.mayMove; decide

/-- Register 0 below S level, register 0x10C for S-level code, one hidden in deterministic mode, and one that the level may not read. -/
theorem meets_SystemRegisterAccess_reads :
    let s := stateWith { tileWith [] [] with task := some { task with determ := true } }
    let h := handling .monitor 0
    s.here.calm ∧ s.here.mayMove (imm 8) (Instr.ctlRsr (imm 8)).code ∧ sysValue s 8 = some 0 ∧ userReadable 8 = true
      ∧ (s.here.deterministic && hidden 8) = false
      ∧ h.here.calm ∧ h.here.mayMove ofS1 (Instr.ctlRsr ofS1).code ∧ h.here.isS = true ∧ (sysValue h 0x10C).isSome = true
      ∧ s.here.mayMove (imm 2) (Instr.ctlRsr (imm 2)).code ∧ userReadable 2 = true ∧ s.here.deterministic = true ∧ hidden 2 = true
      ∧ s.here.mayMove (imm 3) (Instr.ctlRsr (imm 3)).code ∧ (sysreg 3).isSome = true ∧ userReadable 3 = false ∧ BelowS s := by
  unfold Tile.calm Tile.mayMove BelowS; decide
/-- The registers that select a job, a flight record, a context word and a rank, and what they select: the record in flight of the
interrupted task, a record there is not, and a rank there is not. -/
def selecting (n frsel : Nat) : State :=
  let h := handling .monitor 0
  h.setHere { h.here with sGlobal := [(1, BitVec.ofNat 64 n)], jobsel := 5, frsel := BitVec.ofNat 64 frsel, ctxsel := 16, ranksel := 0x10005
                          units := { flights := [multiplying] } }
set_option exponentiation.threshold 600 in
set_option maxRecDepth 20000 in
theorem meets_SystemRegisterAccess_selections : ∀ n ∈ [3, 0x105, 0x108, 0x109, 0x10A, 0x10B, 0x10C, 0x10D, 0x10E], ∀ f ∈ [2, 0x10],
    let s := selecting n f
    s.here.calm ∧ s.here.mayMove ofS1 (Instr.ctlRsr ofS1).code ∧ (s.here.source ofS1.src).toNat % 4096 = n ∧ s.here.isS = true
      ∧ s.here.deterministic = false ∧ (s.here.flightRecords s.fresh).length = 1
      ∧ (sysValue (s.setHere (s.here.setPort 0x110 (s.here.source ofS1.src))) n).isSome = true := by
  unfold Tile.calm Tile.mayMove; decide +kernel
theorem meets_SystemRegisterAccess_writes :
    let s := stateWith (tileWith [] [])
    let h := handling .monitor 0
    h.here.calm ∧ h.here.isS = true ∧ h.here.mayMove (imm 8) (Instr.ctlWsr (imm 8)).code ∧ (h.here.source (imm 8).src).toNat % 4096 = 0x008
      ∧ s.here.calm ∧ s.here.mayMove (imm 0x10) (Instr.ctlWsr (imm 0x10)).code ∧ (s.here.source (imm 0x10).src).toNat % 4096 = 0x010
      ∧ (s.here.source (imm 0x0B).src).toNat % 4096 = 0x00B ∧ s.here.mayMove (imm 0x0B) (Instr.ctlWsr (imm 0x0B)).code
      ∧ 0x200 ≤ (s.here.source (imm 0x1FF).src).toNat % 4096 ∧ s.here.mayMove (imm 0x1FF) (Instr.ctlWsr (imm 0x1FF)).code ∧ BelowS s := by
  unfold Tile.calm Tile.mayMove BelowS; decide

/-- Numbers that the table does not hold, of the module firmware and not, and reserved values of TLBI and RANKSEL, at S level. -/
theorem meets_SystemRegisterAccess_stops :
    let s := stateWith (tileWith [] [])
    let h := handling .monitor 0
    let r := (selecting 0x10D 2).setHere ((selecting 0x10D 2).here.setPort 0x111 0x1000)
    let v := selecting 0x103 2
    (∀ n ∈ [4, 0xFF, 0x1FF], inTable ((s.here.source (imm n).src).toNat % 4096) = false
        ∧ h.here.mayMove (imm n) (Instr.ctlRsr (imm n)).code ∧ h.here.mayMove (imm n) (Instr.ctlWsr (imm n)).code)
      ∧ h.here.calm ∧ h.here.isS = true ∧ h.snapshot.mask = 0 ∧ h.here.level = .monitor ∧ BelowS s
      ∧ r.here.calm ∧ r.here.isS = true ∧ r.here.mayMove ofS1 (Instr.ctlWsr ofS1).code ∧ (r.here.source ofS1.src).toNat % 4096 = 0x10D
      ∧ (r.here.port 0x111).toNat / 4096 % 16 ≠ 0 ∧ (v.here.source ofS1.src).toNat % 4096 = 0x103 ∧ (v.here.port 0x111).toNat % 65536 ≠ 1
      ∧ v.here.port 0x111 ≠ 2 ∧ v.here.calm := by
  unfold Tile.calm Tile.mayMove BelowS; decide

theorem meets_SemaphoreOperations :
    let s := stateWith (tileWith [(0x115, 1)] [])
    s.here.calm ∧ (s.here.source (imm 63).src).toNat < 64 ∧ s.here.mayMove (imm 63) (Instr.sySemrd (imm 63)).code
      ∧ s.here.mayMove (imm 63) (Instr.sySemwr (imm 63)).code ∧ s.here.mayMove (imm 63) (Instr.sySemadd (imm 63)).code
      ∧ s.here.semarm.getLsbD 38 = false := by
  unfold Tile.calm Tile.mayMove; decide

theorem meets_ClockAndIdentityReads :
    ∀ d : Bool, let s := stateWith { tileWith [] [] with task := some { task with determ := d } }
    s.here.calm ∧ s.here.task = some { task with determ := d } ∧ s.here.isS = false
      ∧ s.here.mayMove (imm 3) (Instr.syClk (imm 3)).code ∧ (s.here.source (imm 3).src).toNat ≤ 3
      ∧ s.here.mayMove (imm 7) (Instr.syIdn (imm 7)).code ∧ (s.here.source (imm 7).src).toNat ≤ 8
      ∧ s.here.mayMove (imm 8) (Instr.syIdn (imm 8)).code ∧ (s.here.source (imm 8).src).toNat ≤ 8 := by
  unfold Tile.calm Tile.mayMove; decide
theorem meets_ClockAndIdentityReads_S :
    let h := handling .monitor 0
    h.here.calm ∧ h.here.task = some task ∧ h.here.isS = true ∧ h.here.mayMove (imm 3) (Instr.syClk (imm 3)).code
      ∧ h.here.mayMove (imm 7) (Instr.syIdn (imm 7)).code ∧ (h.here.source (imm 7).src).toNat ≤ 8 := by
  unfold Tile.calm Tile.mayMove; decide

/-- The last 8 bytes of the store of logical tile 1,023, with a count of bytes in semaphore 63. -/
theorem meets_RemoteWriteJoinsTheQueue :
    let s := stateWith (tileWith [(0x116, 0xBF03)] [(1, 0x900003FF001FFFF8)])
    let a := s.here.source ofS1.src
    s.here.calm ∧ s.here.mayMove ofS1 (Instr.syRput ofS1).code ∧ s.here.task = some task ∧ task.work = .dispatched
      ∧ (s.here.port 0x116).toNat < 2 ^ 16 ∧ (s.here.port 0x116).getLsbD 14 = false ∧ (s.here.port 0x116).toNat / 4 % 64 = 0
      ∧ a.toNat / 2 ^ 60 = 9 ∧ mustBeZero a.toNat = false ∧ a.toNat % 2 ^ 21 + 8 ≤ 2 ^ 21 ∧ a.toNat % 8 = 0 := by
  unfold Tile.calm Tile.mayMove; decide

/-- The U handler of a task whose job has failed, and an aligned address in memory and one in another tile. -/
def silencedState : State :=
  let s := stateWith { tileWith [] [(1, 0x80)] with level := .user, user := { active := true, epc := 4100, word := 0x50000F } }
  { s with parts := [(0, { s.part 0 with jobs := [{ num := 0, state := .failed }] })] }
theorem meets_silenced :
    let s := silencedState
    Silenced s ∧ s.here.calm ∧ s.here.mayMove ofS1 (Instr.ctlPost ofS1).code ∧ (s.here.source ofS1.src).toNat = 0x80
      ∧ s.here.mayMove ofS1 (Instr.syRput ofS1).code :=
  ⟨⟨rfl, task, rfl, by decide⟩, by unfold Tile.calm Tile.mayMove; decide⟩
/-- A task of a job that runs is not silenced at its own level. -/
theorem meets_notSilenced (ports regs : List (Nat × Word)) : ¬ Silenced (stateWith (tileWith ports regs)) :=
  fun h => Level.noConfusion (show Level.task = Level.user from h.1)

set_option maxRecDepth 100000 in
theorem meets_SpawnStartsATask :
    let s := stateWith (tileWith [(0x111, 127)] [(1, 1020)])
    let u := s.setHere (s.here.setPort 0x110 (s.here.source ofS1.src))
    s.here.calm ∧ s.here.level = .task ∧ s.here.mayMove ofS1 (Instr.ctlSpawn ofS1).code ∧ s.here.task = some task
      ∧ s.legalTarget (s.here.source ofS1.src) = true ∧ (s.here.port 0x111).toNat < 128
      ∧ u.spawnTarget (s.cur / 64) (s.here.port 0x111).toNat = some 1 := by
  unfold Tile.calm Tile.mayMove; decide
set_option maxRecDepth 100000 in
theorem meets_SpawnStartsATask_unhindered :
    let s := stateWith (tileWith [(0x111, 127)] [(1, 1020)])
    let child : Task := { task with work := .spawned 0, stub := none }
    Unhindered (s.setHere (s.here.setPort 0x110 1020)) (.task 1) (fun v => v.prepareTile 1 child (v.taskObject child) 1020)
      ∧ AsksNothing s (fun q => q == .task 1) := by
  unfold Unhindered AsksNothing; decide +kernel

/-- A record at 0x80: one that is posted, one with a predecessor that is not aligned, and one that is POSTED already. -/
def recorded (t : Tile) (r : Nat) : State :=
  let s := mapped (stateWith t)
  { s with memory := cellsOf 0x80 (toBytes 128 r) ++ s.memory }
set_option exponentiation.threshold 2000 in
set_option maxRecDepth 100000 in
theorem meets_PostOperationPosts_records : ∀ r ∈ [taskRecord 0, taskRecord 0 + 2 ^ 32 + 2 ^ 512, taskRecord 0 + 2 ^ 768],
    let s := recorded (tileWith [] [(1, 0x80)]) r
    s.here.calm ∧ s.here.mayMove ofS1 (Instr.ctlPost ofS1).code ∧ s.here.part = 0 ∧ (s.here.source ofS1.src).toNat = 0x80
      ∧ (s.die 0).cache = [] ∧ walk s (s.part 0) 0x80 3 1 (s.part 0).root.toNat = .ok walked
      ∧ checkLeaf s (s.dispatcher 0 none) .read 0x80 walked = .ok (leafAt 0x80)
      ∧ checkLeaf s (s.dispatcher 0 none) .write 0x80 walked = .ok (leafAt 0x80) ∧ (leafAt 0x80).entry.getLsbD 12 = true
      ∧ (∀ i, i < 2 → mget 0 s.grades (2 + i) = 0 ∧ 2 + i ∉ s.badLines) ∧ r = ofBytes (readBytes s.memory 0x80 128)
      ∧ ((s.part 0).job (r / 2 ^ 48 % 4096)).logged = false ∧ s.here.level ≠ .user ∧ AsksNothing s (fun q => q == .post s.cur) := by
  unfold Tile.calm Tile.mayMove AsksNothing; decide +kernel
theorem meets_PostOperationPosts_faults :
    let s := stateWith {}
    let t := { mapped s with memory := [(2 ^ 40, 0x02), (2 ^ 40 + 1, 0x16)] }
    (s.die (s.dispatcher 0 none).die).cache = [] ∧ walk s (s.part 0) 0x80 3 1 (s.part 0).root.toNat = .error 5
      ∧ (match walk t (t.part 0) 0x80 3 1 (t.part 0).root.toNat with
         | .ok k => (match checkLeaf t (t.dispatcher 0 none) .read 0x80 k with | .error _ => true | _ => false)
         | _ => false) = true := by decide +kernel

/-- The address of a record that no page maps; the post fails its read, and the statement holds of it too. -/
theorem meets_PostOperationPosts :
    let s := stateWith (tileWith [] [(1, 0x80)])
    let u := ((tried (s.setHere (s.here.setPort 0x110 (s.here.source ofS1.src))) (.post s.cur)).post s.here.part (some 0) 0x80).2
    s.here.calm ∧ u.here.calm ∧ u.want = none ∧ AsksNothing u (fun q => q == .post s.cur) ∧ s.here.task.map Task.job = some 0
      ∧ s.here.mayMove ofS1 (Instr.ctlPost ofS1).code ∧ s.here.rputs = [] ∧ s.here.postings = []
      ∧ (s.here.source ofS1.src).toNat < 2 ^ 55 ∧ (s.here.source ofS1.src).toNat % 128 = 0 := by
  unfold Tile.calm Tile.mayMove AsksNothing; decide

/-! ## What the statements suppose, met: the engines of a tile -/

theorem meets_PrefetchStartsFills :
    let s := stateWith (tileWith [] [(1, 1023)])
    s.here.calm ∧ s.here.mayMove ofS1 (Instr.ctlPref ofS1).code ∧ (s.here.source ofS1.src).toNat / 4 * 4 < s.codeSection.2
      ∧ s.here.mayMove (imm 0x100) (Instr.ctlPref (imm 0x100)).code
      ∧ s.codeSection.2 ≤ (s.here.source (imm 0x100).src).toNat / 4 * 4 := by
  unfold Tile.calm Tile.mayMove; decide

/-- A record of one dimension of 512 bytes between any banks, and a tile that holds a record in cp.sh0 to cp.sh7. -/
def goodShape : Nat := 2 ^ 8 + 512 * 2 ^ 64 + 0xFFFFFFFF * 2 ^ 128
def shapePorts (r : Nat) : List (Nat × Word) := (upFrom 0 8).map (fun j => (0x128 + j, BitVec.ofNat 64 (r / 2 ^ (64 * j))))

set_option exponentiation.threshold 600 in
set_option maxRecDepth 20000 in
theorem meets_ShapeDefinitionWritesItsSlot : ∀ v ∈ [255, 256], ∀ r ∈ [goodShape, 0],
    let s := stateWith (tileWith (shapePorts r) [(1, BitVec.ofNat 64 v)])
    s.here.calm ∧ s.here.mayMove ofS1 (Instr.cpDefs ofS1).code ∧ BelowS s
      ∧ (∀ j, j < 8 → BitVec.extractLsb' (64 * j) 64 (BitVec.ofNat 512 r) = s.here.port (0x128 + j))
      ∧ (s.here.source ofS1.src).toNat = v ∧ Shape.valid (BitVec.ofNat 512 r).toNat = decide (r = goodShape) := by
  unfold Tile.calm Tile.mayMove BelowS; decide

/-- 512 bytes from store offset 0 to 4,096, consuming token 9 and producing token 10. -/
def copyTile : Tile :=
  { tileWith [(0x120, 0x8000000000000000), (0x121, 0x8000000000001000), (0x122, 0x100024A)] [(1, 20)] with
    shapes := [(20, BitVec.ofNat 512 goodShape)], tokens := [(9, .present)] }

set_option exponentiation.threshold 600 in
set_option maxRecDepth 20000 in
theorem meets_CopyIssuesAndStarts :
    let s := stateWith copyTile
    Rests s.here ∧ s.here.level = .task ∧ s.here.mayMove ofS1 (Instr.cpGo ofS1 15).code
      ∧ copyChecks 15 (trig s.here ofS1 (Instr.cpGo ofS1 15).code) s = []
      ∧ consumed (latchedCopy s.here 15 (s.here.source ofS1.src)).ctl = [9] ∧ s.here.token 9 = .present := by
  unfold Rests Tile.calm Tile.mayMove; decide

/-- The copy of `copyTile` as it waits for a producer. -/
def waitingCopy : CopyCmd := { latchedCopy copyTile 3 20 with phase := .waiting, waits := [9] }
set_option exponentiation.threshold 600 in
set_option maxRecDepth 20000 in
theorem meets_CopyCancelAndMap :
    let s := stateWith { copyTile with copies := [waitingCopy], sGlobal := [(1, 3)] }
    Rests { s.here with copies := [] } ∧ s.here.copies = [waitingCopy] ∧ waitingCopy.phase = .waiting ∧ waitingCopy.started = 0
      ∧ waitingCopy.ch = (s.here.source ofS1.src).toNat ∧ (s.here.source ofS1.src).toNat < 16
      ∧ s.here.mayMove ofS1 (Instr.cpCancel ofS1).code ∧ waitingCopy.cev = false ∧ s.here.karm.getLsbD (produced waitingCopy.ctl) = false
      ∧ Rests (stateWith (tileWith [] [(1, 0x30F)])).here ∧ (stateWith (tileWith [] [(1, 0x30F)])).here.mayMove ofS1 (Instr.cpMap ofS1).code
      ∧ 0x30F < 1024 ∧ 0x30F / 16 % 16 = 0 := by
  unfold Rests Tile.calm Tile.mayMove; decide

/-- A block of 16 by 16 elements of P8E0, consuming token 2 and producing token 10. -/
def matrixTile : Tile :=
  { tileWith [(0x130, 0x100008A), (0x131, 16 + 63 * 2 ^ 20 + 63 * 2 ^ 26), (0x132, 0x20820800), (0x133, 0xFFFFFFFF),
      (0x134, 8 * 2 ^ 60), (0x135, 8 * 2 ^ 60 + 65536 * 4), (0x136, 8 * 2 ^ 32)] [] with tokens := [(2, .present)] }

set_option maxRecDepth 20000 in
theorem meets_MatrixCommandStarts : ∀ r ∈ matrixRows,
    let s := stateWith matrixTile
    s.here.calm ∧ s.here.level = .task ∧ s.here.mayMove (imm 0) (r.op (imm 0)).code
      ∧ matrixChecks (trig s.here (imm 0) (r.op (imm 0)).code) s = []
      ∧ consumed (latchedMatrix s.here (r.op (imm 0)).code (s.here.source (imm 0).src)).ctl = [2] ∧ s.here.token 2 = .present := by
  unfold Tile.calm Tile.mayMove; decide

/-- The last aligned 128 bytes of a kiln for the quire add; a location in the middle for the others, with format 0 for the update. -/
def kilnState (k : Nat) : State :=
  stateWith (tileWith [(0x119, 77), (0x11A, if k = 13 then 2 ^ 44 else 0)] [(1, if k = 12 then 0xA000000001FFFF80 else 0xA000000000000080)])
theorem meets_KilnOperationsJoinTheQueue : ∀ r ∈ kilnRows,
    let s := kilnState r.2
    let a := s.here.source ofS1.src
    s.here.calm ∧ s.here.mayMove ofS1 (r.1 ofS1).code ∧ s.here.task = some task ∧ task.work = .dispatched
      ∧ a.toNat / 2 ^ 60 = 10 ∧ mustBeZero a.toNat = false ∧ a.toNat / 2 ^ 44 % 16 < (s.part task.part).dieList.length
      ∧ knMisaligned r.2 a (s.here.port 0x11A) = false ∧ knBadWord r.2 (s.here.port 0x11A) = false := by
  unfold Tile.calm Tile.mayMove; decide

/-- A send to queue 15 of logical tile 1,023; a queue with a message and one without. -/
theorem meets_LinkOperations :
    let s := stateWith { tileWith [(0x11E, 1)] [(1, 0x3FF000000F0)] with queues := [(15, [{ data := 5, src := 6, poisoned := false }])] }
    s.here.calm ∧ s.here.mayMove (imm 0xF0) (Instr.lkRecv (imm 0xF0)).code ∧ (s.here.source (imm 0xF0).src).toNat / 16 % 16 = 15
      ∧ s.here.queue 15 = [{ data := 5, src := 6, poisoned := false }]
      ∧ s.here.mayMove (imm 0) (Instr.lkRecv (imm 0)).code ∧ s.here.queue 0 = [] ∧ s.here.clock ≠ 2
      ∧ (s.timeBase - s.here.held.getD s.timeBase).toNat < (s.here.port 0x11E).toNat * 1000
      ∧ s.here.mayMove (imm 0) (Instr.lkProbe (imm 0)).code ∧ s.here.mayMove (imm 0) (Instr.lkPeek (imm 0)).code
      ∧ s.here.mayMove (imm 0) (Instr.lkSend (imm 0)).code ∧ s.here.task = some task ∧ task.work = .dispatched
      ∧ linkReserved (s.here.source (imm 0).src) = false := by
  unfold Tile.calm Tile.mayMove; decide

/-! ## What the statements suppose, met: the clusters -/

/-- A cluster with a format word of P16 (code 5) everywhere, types where the K bits say so, offsets in vm.o and v1. -/
def offsets : Vec := ofLanes ((upFrom 0 16).map (fun l => BitVec.ofNat 32 (4 * l)))
def clusterState (word : Nat) : State :=
  stateWith { tileWith [] [] with
    clusters := [(2, { v := [(1, offsets)], ports := [(0x10D, BitVec.ofNat 512 word), (0x110, offsets)], m := [(3, 0x0F0F)] })] }

set_option exponentiation.threshold 600 in
set_option maxRecDepth 20000 in
theorem meets_VectorIntegerResults : (clusterState 0).here.calm ∧ MayReach (clusterState 0) ofV1 := by
  unfold Tile.calm MayReach; decide
set_option exponentiation.threshold 600 in
set_option maxRecDepth 20000 in
theorem meets_PositUnitResults :
    let s := clusterState 0x5555
    s.here.calm ∧ MayReach s ofV1
      ∧ ∀ c ∈ s.here.reach ofV1.bus, reservedClear (wordOf (withPort s ofV1 0x104) c)
          ∧ fmtValid (codeOf (wordOf (withPort s ofV1 0x104) c) 0) = true := by
  unfold Tile.calm MayReach reservedClear; decide

set_option exponentiation.threshold 600 in
set_option maxRecDepth 20000 in
theorem meets_QuireOperationsAct :
    let s := clusterState 0x5550
    s.here.calm ∧ MayReach s ofV1 ∧ s.here.reach ofV1.bus = [2]
      ∧ (∀ c ∈ s.here.reach ofV1.bus, reservedClear (wordOf (withPort s ofV1 0x108) c) ∧ readsQA (wordOf (withPort s ofV1 0x108) c)
          ∧ readsBoth (wordOf (withPort s ofV1 0x108) c) ∧ readsQR (wordOf (withPort s ofV1 0x108) c)
          ∧ ((withPort s ofV1 0x108).vport c 0x108).getLsbD 0 = false)
      ∧ (lane ((withPort s ofV1 0x108).vport 2 0x108) 0).toNat = 0 ∧ s.here.poisonedAt 0 2048 = false := by
  unfold Tile.calm MayReach reservedClear readsQA readsBoth readsQR; decide

/-- Posit to posit and its h form, type to posit, posit to type, and the scaled forms to both, from P16 and i8. -/
def kinds (cs cd csk cdk : Nat) : Nat := cs * 2 ^ 16 + cd * 2 ^ 20 + csk * 2 ^ 24 + cdk * 2 ^ 25
def formatsOf (r : ConvertRow) : List Nat := [kinds 5 6 0 0, kinds 0 6 1 0, kinds 5 0 0 1].filter (fun w => r.accept (BitVec.ofNat 32 w))
set_option exponentiation.threshold 600 in
set_option maxRecDepth 20000 in
theorem meets_ConversionResults : ∀ w ∈ [kinds 5 6 0 0, kinds 0 6 1 0, kinds 5 0 0 1],
    let s := clusterState w
    s.here.calm ∧ MayReach s ofV1 ∧ ∀ c ∈ s.here.reach ofV1.bus, wordOf (withPort s ofV1 0x10C) c = BitVec.ofNat 32 w
      ∧ reservedClear (wordOf (withPort s ofV1 0x10C) c) := by
  unfold Tile.calm MayReach reservedClear; decide
theorem meets_ConversionResults_formats : convertRows.map (fun r => (formatsOf r).length) = [1, 1, 1, 1, 1, 2, 2]
    ∧ isPosit (cskOf (BitVec.ofNat 32 (kinds 5 0 0 1))) (csOf (BitVec.ofNat 32 (kinds 5 0 0 1))) = true
    ∧ isInt (cdkOf (BitVec.ofNat 32 (kinds 5 0 0 1))) (cdOf (BitVec.ofNat 32 (kinds 5 0 0 1))) = true := by decide

set_option exponentiation.threshold 600 in
set_option maxRecDepth 20000 in
theorem meets_VectorMemoryMovesWords_loads : ∀ r ∈ vmLoads,
    let s := clusterState 0
    s.here.calm ∧ MayReach s ofV1 ∧ OffsetsFit (r.offset (carried s ofV1 2)) ∧ s.here.reach ofV1.bus = [2]
      ∧ ∀ l, l < 16 → s.here.poisonedAt (r.offset (carried s ofV1 2) l).toNat 4 = false := by
  unfold Tile.calm MayReach OffsetsFit; decide
set_option exponentiation.threshold 600 in
set_option maxRecDepth 20000 in
theorem meets_VectorMemoryMovesWords_stores : ∀ r ∈ vmStores,
    let s := clusterState 0
    s.here.calm ∧ MayReach s ofV1 ∧ s.here.reach ofV1.bus = [2] ∧ OffsetsFit (r.offset (s.here.vport 2 0x110)) := by
  unfold Tile.calm MayReach OffsetsFit; decide

set_option exponentiation.threshold 600 in
set_option maxRecDepth 20000 in
theorem meets_CrossCopyAndEvaluation :
    let s := clusterState 0
    s.here.calm ∧ MayReach s ofV1 ∧ s.here.reach ofV1.bus = [2] ∧ (lane (s.here.vport 2 0x118) 0).toNat % 16 = 0
      ∧ fmtValid (tableHeader (ofBytes (readBytes (s.here.cluster 2).coeff 0 16))).ifmt = true
      ∧ fmtValid (tableHeader (ofBytes (readBytes (s.here.cluster 2).coeff 0 16))).ofmt = true := by
  unfold Tile.calm MayReach; decide

/-! ## What the statements suppose, met: the module -/

theorem meets_HeatAndDroopAct :
    let s : State := { State.reset with dies := [(15, { pinned := true, ceiling := 3200 })] }
    (15 : Nat) < 16 ∧ (1023 : Nat) < 1024 ∧ (s.die 15).ceiling < 3300 ∧ (s.die 15).pinned = true ∧ (∀ j, j / 64 = 15 → (s.tile j).task = none)
      ∧ (s.die 15).shadow = [] ∧ s.parts = [] ∧ (16 : Nat) ≤ 16 ∧ (s.tile 1023).fixed = false :=
  ⟨by decide, by decide, by decide, by decide, fun _ _ => rfl, by decide, by decide, by decide, by decide⟩
theorem meets_ScrubFindsErrors_codes :
    Intact 0 [] ∧ Corrects 0 [0, 8, 16, 17] ∧ Detects 0 [0, 8, 16, 24, 568] ∧ Corrects 1 [127, 128, 547] ∧ Detects 1 [3, 512]
      ∧ Detects 2 [519] ∧ Corrects 3 [71] ∧ Detects 3 [0, 71] := by
  unfold Corrects Intact Detects; decide +kernel
theorem meets_ScrubFindsErrors :
    scrubAbsent State.reset.health .memory 0 = false ∧ scrubAbsent State.reset.health .memory (2 ^ 35 - 1) = false
      ∧ (mget 0 [(0, 1023)] (controllerOf State.reset.health 0) + 1) % 1024 = 0 ∧ mget 0 State.reset.grades 0 < 256 := by decide

/-- A partition whose job 5 has a task on die 0 under a checkpoint. -/
def jobState : State :=
  { stateWith { tileWith [] [] with task := some { task with job := 5 } } with
    dies := [(0, { noDispatch := true })]
    parts := [(0, { partition with jobs := [{ num := 5, state := .open_ }] })] }
set_option maxRecDepth 20000 in
theorem meets_StartsAndModuleFaults :
    State.reset.flash = [] ∧ State.reset.health.lostEdges = [] ∧ (jobState.die 0).noDispatch = true ∧ (8 : Nat) ≤ 8 ∧ 15 < stepUnits 8 ∧ edgeDown State.reset.health 23 = false
      ∧ State.reset.jobsOn [(edgeDies 23).1, (edgeDies 23).2] = [] ∧ State.reset.flash.length < 512 ∧ recordOf State.reset.flash 5 23 = none
      ∧ tableWf {} jobState.tiles = true ∧ jobState.jobsOn [0] = [(0, 5)] ∧ ((jobState.part 0).job 5).state = .open_
      ∧ (jobState.part 0).stopping = none ∧ (jobState.part 0).forced = none ∧ (jobState.part 0).imported = [] ∧ jobState.control.waiting = [] := by decide
theorem meets_StartsAndModuleFaults_cold :
    let r : FlashRecord := { start := 1, code := 7, form := 1, unit := 0, step := 2 }
    ∀ x ∈ ({ State.reset with flash := [r] } : State).flash, x.step = 2 := by decide

/-- A flit sealed with its CRC (R22), in the least bytes that the check reads. -/
def sealed (f : Nat) : Nat := f + 2 ^ 2016 * crc32 (toBytes 252 f)
/-- An ACK of SEQ 2; a flit of class 0 for module 9 with SEQ 0. -/
def ackFlit : Nat := sealed (7 * 2 ^ 27 + 2 ^ 31 + 2 * 2 ^ 48)
def dataFlit : Nat := sealed (9 * 2 ^ 80)
/-- A NAK of SEQ 1, a flit of class 6, and one of class 0 for module 3. -/
def nakFlit : Nat := sealed (7 * 2 ^ 27 + 2 ^ 30 + 2 ^ 31 + 2 ^ 48)
def classFlit : Nat := sealed (6 * 2 ^ 27)
def ownFlit : Nat := sealed (3 * 2 ^ 80)
def sentFlit (n : BitVec 16) : Flit := { seq := n, cls := 0, dst := 9, part := 0, job := 0, launch := 0, cargo := .notify 0 }
set_option exponentiation.threshold 2100 in
set_option maxRecDepth 100000 in
theorem meets_HorizonPortsAct_flits :
    flitGood 0 = false ∧ flitGood ackFlit = true ∧ ackFlit / 2 ^ 27 % 8 = 7 ∧ ackFlit.testBit 31 = true ∧ ackFlit.testBit 30 = false
      ∧ flitGood dataFlit = true ∧ dataFlit / 2 ^ 27 % 8 < 4 ∧ dataFlit.testBit 31 = false
      ∧ dataFlit / 2 ^ 80 % 2 ^ 8 ≠ 3 ∧ BitVec.ofNat 16 (dataFlit / 2 ^ 32) = (0 : BitVec 16)
      ∧ (BitVec.ofNat 16 (ackFlit / 2 ^ 48) - (sentFlit 1).seq).toNat = 1
      ∧ flitGood nakFlit = true ∧ nakFlit / 2 ^ 27 % 8 = 7 ∧ nakFlit.testBit 31 = true ∧ nakFlit.testBit 30 = true
      ∧ flitGood classFlit = true ∧ classFlit / 2 ^ 27 % 8 = 6
      ∧ flitGood ownFlit = true ∧ ownFlit / 2 ^ 27 % 8 < 4 ∧ ownFlit.testBit 31 = false ∧ ownFlit / 2 ^ 80 % 2 ^ 8 = 3
      ∧ BitVec.ofNat 16 (ownFlit / 2 ^ 32) = (0 : BitVec 16) := by decide +kernel
theorem meets_HorizonPortsAct_ports :
    let r : Route := { dst := 9, cls := 0, port := 14, standby := some 15, held := true, waiting := [sentFlit 0] }
    let s := { State.reset with
      domain := some 3, ports := [(15, { replay := [sentFlit 1, sentFlit 2], retrains := 2 })]
      parts := [(0, { partition with config := { routes := [r] } })] }
    s.portUp 15 = true ∧ (s.port 15).replay = [sentFlit 1, sentFlit 2] ∧ 2 ≤ (s.port 15).retrains ∧ s.domain = some 3
      ∧ (s.port 15).expect = 0 ∧ s.portUp 0 = true ∧ (s.part 0).route 9 0 = some r ∧ r.standby = some 15 ∧ r.held = true ∧ r.owed = []
      ∧ NothingOwed s := by
  unfold NothingOwed; decide
/-- A flit that acknowledges the first of two, a port that has resent 8 times and one that has waited 100 microseconds. -/
def heardFlit : Nat := sealed (3 * 2 ^ 80 + 2 ^ 31 + 2 * 2 ^ 48)
def waitingPort (n : Nat) (since : Word) : Port := { replay := [sentFlit 1, { sentFlit 2 with resent := n }], since := since }
set_option exponentiation.threshold 2100 in
set_option maxRecDepth 100000 in
theorem meets_HorizonPortsAct_hears :
    let s : State := { State.reset with domain := some 3, timeBase := 100000, ports := [(15, waitingPort 8 100000), (14, waitingPort 7 0)] }
    (∀ f ∈ [heardFlit, ownFlit], Acknowledges s (s.port 15) f) ∧ flitGood heardFlit = true ∧ acks (s.port 15) heardFlit = 1
      ∧ heardFlit / 2 ^ 27 % 8 < 4 ∧ BitVec.ofNat 16 (heardFlit / 2 ^ 32) = (s.port 15).expect ∧ heardFlit / 2 ^ 80 % 2 ^ 8 = 3
      ∧ s.portUp 15 = true ∧ s.portUp 14 = true ∧ (∃ g ∈ (s.port 15).replay, 8 ≤ g.resent) ∧ 100000 ≤ (s.timeBase - (s.port 14).since).toNat
      ∧ (∀ q ∈ s.awaited, q.stage ≠ .sent [0]) := by
  unfold Acknowledges NothingOwed; decide +kernel
/-- A page shared with module 9 whose home is this module, rank 0 of job 0, and with a line that is poisoned; a cell there; a page of the
partition's own, one whose table is missing. -/
def sharedHome : State :=
  let s := mapped (stateWith (tileWith [] []))
  { s with
    domain := some 3, memory := [(2 ^ 40, 0x02), (2 ^ 40 + 1, 0x97)], badLines := [3]
    parts := [(0, { s.part 0 with config := { self := some 3, ranks := [(0, [3, 9])], shares := [{ base := 0, pages := 1, mask := BitVec.ofNat 256 (2 ^ 3 + 2 ^ 9) }]
                                              routes := [{ dst := 9, cls := 0, port := 14, standby := none, held := false, waiting := [] },
                                                         { dst := 9, cls := 2, port := 14, standby := none, held := false, waiting := [] }] } })] }
def sharedLeaf (va : Nat) : Leaf :=
  { ppa := va, phys := va, key := 0, grade := 0, shared := true, home := 0, foreign := false, entry := 0x9702, entryAt := 2 ^ 40, level := 1 }
def sharedWalk : Walked := { level := 1, entry := 0x9702, place := 2 ^ 40 }
set_option exponentiation.threshold 600 in
set_option maxRecDepth 100000 in
theorem meets_HorizonPortsAct_memory :
    let u := sharedHome
    (∀ a ∈ [0x80, 0xC0], (∃ w ∈ [sharedWalk], walk u (u.part 0) a 3 1 (u.part 0).root.toNat = .ok w
        ∧ checkLeaf u { u.dispatcher 0 (some 0) with user := true } .read a w = .ok (sharedLeaf a)
        ∧ checkLeaf u { u.dispatcher 0 (some 0) with user := true } .write a w = .ok (sharedLeaf a)
        ∧ checkLeaf u { u.dispatcher 0 (some 0) with user := false } .execute a w = .ok (sharedLeaf a))
        ∧ u.arrivesAt 0 0 0 (BitVec.ofNat 64 a) 64 = .ok (.memory, a) ∧ (physicalOf u.health (u.part 0) (a + 63)).isSome = true)
      ∧ (u.die (u.dispatcher 0 (some 0)).die).cache = [] ∧ u.grades = [] ∧ u.badLines = [0xC0 / 64] ∧ u.rejects 0 0 = false
      ∧ ((u.part 0).sharers 0xC0).filter (fun d => some d != u.domain) = [9] ∧ (u.part 0).route 9 0 ≠ none ∧ u.portUp 14 = true
      ∧ (sharedLeaf 0x80).entry.getLsbD 12 = true ∧ ((u.part 0).job 0).logged = false
      ∧ walk (stateWith {}) partition 0x80 3 1 0 = .error 5
      ∧ checkLeaf (mapped u) { u.dispatcher 0 (some 0) with user := true } .read 0x80 walked = .ok (leafAt 0x80) := by decide +kernel
/-- A record of two elements of 8 bytes between any banks. -/
def pairShape : BitVec 512 := 3 * 2 ^ 8 + 2 * 2 ^ 64 + 0xFFFFFFFF * 2 ^ 128
/-- The tile that waits for an answer under transaction number 7: by a kiln operation, a remote write, a message, and a copy that lacks
source bytes. -/
def answering : List Tile :=
  let t := tileWith [] []
  let m : ChunkMove := { chunk := 0, data := [{ unit := 0, bytes := [1, 2, 3, 4, 5, 6, 7, 8], poison := none, glaze := 0 }], sent := [{ tag := 5, addr := 8 }]
                         asked := [{ tag := 7, off := 0, len := 8 }] }
  let c : CopyCmd := { id := 1, ch := 0, shape := pairShape, src := 0, dst := 0, ctl := 0, waits := [], doomed := false, user := true, phase := .running
                       started := 1, age := 0, map := 0, lost := 0, moves := [m] }
  let o : KilnOp := { k := 8, addr := 0, b := 0, c := 2 ^ 41, stage := .away 7, bundle := 0, bus := 0 }
  let out : Outgoing := { dest := 0, data := 0, src := 0, refused := false, tag := some 7 }
  [{ t with kiln := [o] }, { t with rputs := [{ remote with tag := some 7 }] }, { t with sends := [out] }, { t with copies := [c] }]
theorem meets_HorizonPortsAct_answers : ∀ t ∈ answering,
    let u := accepted (stateWith t) 15 {}
    tableWf {} u.tiles = true ∧ Unasked (u.tile 1) 7 ∧ (∀ q ∈ u.awaited, q.stage ≠ .sent [7]) ∧ (u.tile 0).postings = []
      ∧ ¬ Unasked (u.tile 0) 7 := by
  unfold Unasked; decide +kernel
/-- A job that takes no writes, and a number of a flit that went down with a port. -/
theorem meets_HorizonPortsAct_turnedAway :
    let s : State := { State.reset with
      parts := [(0, { partition with jobs := [{ num := 5, state := .draining }] })], ports := [(14, { failed := true, lost := [7] })] }
    let u := accepted s 15 {}
    u.rejects 0 5 = true ∧ u.rejects 0 6 = false ∧ (∃ q ∈ u.ports, 7 ∈ q.2.lost) ∧ (∀ q ∈ u.ports, 8 ∉ q.2.lost) := by decide
/-- Where a message and bytes for task 3 of this module go. -/
theorem meets_HorizonPortsAct_cargo :
    let u := accepted (stateWith (tileWith [] [])) 15 {}
    u.resident 0 0 0 3 = some 0 ∧ ((u.tile 0).queue 15).length < 64 ∧ u.rejects 0 0 = false
      ∧ u.arrivesAt 0 0 0 0x90000003001FFFF8 8 = .ok (.tile 0, 0x1FFFF8) ∧ (u.tile 0).semarm.getLsbD 38 = false
      ∧ u.monitorTile 0 = some 0 := by decide

/-! ## What the statements suppose, met: system registers and events -/

theorem meets_SystemRegisterEffects_registers :
    let h := handling .monitor 0
    let s := stateWith (tileWith [] [])
    h.here.canIssue = true ∧ h.here.isS = true ∧ h.here.level = .monitor ∧ s.here.canIssue = true ∧ BelowS s ∧ Numbered s.here
      ∧ (0x100 ≤ (0x10E : BitVec 12).toNat ∧ (0x10E : BitVec 12).toNat ≤ 0x10E) ∧ 0x200 ≤ (0xFFF : BitVec 12).toNat
      ∧ h.snapshot.mask = 0 ∧ ∀ n ∈ [(4 : BitVec 12), 0xFF, 0x10F, 0x1FF], inTable n.toNat = false ∧ n.toNat < 0x200 := by
  unfold BelowS Numbered; decide
theorem meets_SystemRegisterEffects_requests :
    let h := handling .monitor 0
    let s := { jobState with parts := [(0, { jobState.part 0 with tlbi := [0x10001, 2] })] }
    h.here.canIssue = true ∧ h.here.isS = true ∧ (0x7FFFFFFFFF0001 : Word).toNat % 65536 = 1 ∧ (0x7FFFFFFFFF0001 : Word).toNat < 2 ^ 55
      ∧ (s.part 0).tlbi = 0x10001 :: [2] ∧ (∀ y ∈ s.tiles, y.2.part = 0 → y.2.copies = []) ∧ (4095 : Nat) < 4096 := by decide

theorem meets_ContextRegisterEffects_arming :
    let s := stateWith { tileWith [] [] with tokens := [(63, .faulted)], semas := [(63, 5)] }
    s.here.canIssue = true ∧ (∀ i, i < 64 → (0x7FFFFFFFFFFFFFFF : Word).getLsbD i = true → settled (s.here.token i) = false)
      ∧ Roomy s.here ∧ settled (s.here.token 63) = true ∧ (0x3F00000005 : Word).getLsbD 38 = false
      ∧ (0x7F00000005 : Word).getLsbD 38 = true ∧ (s.here.sema 63 - BitVec.setWidth 32 (0x7F00000005 : Word)).toNat < 2 ^ 31 := by
  unfold Roomy; decide
theorem meets_ContextRegisterEffects_windows :
    let h := handling .monitor 0
    let t (o r : Word) := { h.here with ctxsel := o, ranksel := r }
    let s : State := { stateWith (t 0x3FF8 0x10005) with parts := [(0, { partition with config := { ranks := [(5, [3, 4])] } })] }
    s.here.canIssue = true ∧ s.here.isS = true ∧ s.here.ctxsel.toNat = 0x800 * 7 + 64 * 31 + 8 * 7
      ∧ (t 0xEEF8 0).ctxsel.toNat = 0xEA00 + 8 * 159 ∧ 0xEF88 ≤ (t 0xEF88 0).ctxsel.toNat
      ∧ (s.part 0).rankTable 5 = some [3, 4] ∧ (∀ y ∈ s.tiles, y.2.hasJob 0 5 = false)
      ∧ (∀ i, i < 2 → i ≠ 1 → nth 0 [3, 4] i ≠ 7) ∧ (s.part 0).rankTable 6 = none := by decide

/-- Tile 0 at a filler. -/
def atFiller : State := stateWith (({} : Tile).loaded [0xFE000000])
def fault : Event := { code := .copyFault, cause := 5, info := 64, cmd := 1 }
set_option maxRecDepth 20000 in
theorem meets_EventsEnterTheHandler_alarms :
    let s := fun (c : EventCode) => stateWith { tileWith [] [] with phase := .ended, alarms := [{ fault with code := c }] }
    HearsAlarms (s .copyFault) 0 ∧ ((s .copyFault).tile 0).alarms = fault :: [] ∧ ((s .copyFault).tile 0).task = some task
      ∧ HearsAlarms (s .poisonConsumed) 0 ∧ ((s .poisonConsumed).tile 0).alarms = [{ fault with code := .poisonConsumed }]
      ∧ Numbered ((s .poisonConsumed).tile 0) := by
  unfold HearsAlarms Numbered; exact ⟨⟨by decide, by decide, .inl (by decide)⟩, by decide, by decide,
    ⟨by decide, by decide, .inl (by decide)⟩, by decide, by decide⟩

/-- A task with a handler and one without, at a filler, with a completion queued. -/
def completing (b : Bool) : State :=
  let t := ({} : Tile).loaded [0xFE000000]
  stateWith { t with task := some { task with handler := if b then some 16 else none }, done := [{ cause := 2, info := 7 }] }
theorem meets_EventsEnterTheHandler_completions (b : Bool) :
    let x := (completing b).tile 0
    Between (completing b) 0 ∧ x.level = .task ∧ x.isMonitorTask = false ∧ (completing b).snapshot.mask = 0 ∧ Numbered x ∧ x.alarms = []
      ∧ (x.task.bind Task.handler) = (if b then some 16 else none) ∧ x.done = [{ cause := 2, info := 7 }] := by
  cases b <;> (unfold Between AtFiller Numbered; and_intros <;> first | rfl | decide)

/-- A wait of 1 count for token 5, held for 1,000 cycles. -/
def expired : State :=
  let t := ({} : Tile).loaded (encode (.ctlWait (imm 5)))
  { stateWith { t with tokens := [(5, .pending)], held := some 0, units := { ports := [(0x112, 1)] } } with timeBase := 1000 }
theorem meets_EventsEnterTheHandler_timeout :
    let x := expired.tile 0
    x.level = .task ∧ x.isMonitorTask = false ∧ Numbered x ∧ x.alarms = [] ∧ x.task.isSome = true ∧ x.calm ∧ x.clock ≠ 2
      ∧ x.mayMove (imm 5) (Instr.ctlWait (imm 5)).code
      ∧ fetchCode { expired with cur := 0 }
          = .ready [{ move := imm 5, code := (Instr.ctlWait (imm 5)).code, op := some opCtlWait }] (wordCount (imm 5))
      ∧ waitReserved (x.source (imm 5).src) = false ∧ x.waitMet (x.source (imm 5).src) (x.port 0x111) = false
      ∧ x.waitFault (x.source (imm 5).src) (x.port 0x111) = none ∧ x.port 0x112 ≠ 0
      ∧ (x.port 0x112).toNat * 1000 ≤ (expired.timeBase - x.held.getD expired.timeBase).toNat := by
  unfold Tile.calm Tile.mayMove Numbered
  and_intros <;> first | rfl | decide

/-- A tile whose pre-emption is asked for, with nothing on its way and with a remote write on its way. -/
def asked (w : List Rput) : State :=
  { stateWith { ({} : Tile).loaded [0xFE000000] with matrix := { preempt := true }, rputs := w } with
    dies := [(0, { swapPages := BitVec.allOnes 64 })] }
theorem meets_PreemptionEmptiesTheTile_ask (b : Bool) :
    let s := asked (if b then [] else [remote])
    let x := s.tile 0
    (x.task.map Task.work) = some .dispatched ∧ Between s 0 ∧ x.level = .task ∧ x.alarms = [] ∧ x.done = []
      ∧ x.matrix = { preempt := true } ∧ x.quiet = b := by
  cases b <;> (unfold Between AtFiller; and_intros <;> rfl)

/-- Enough of the swap area of a die for any task without a footprint. -/
theorem fits_all (s : State) (k : Task) (hk : k.foot = [] ∧ k.footEng = 0) (n : Nat) (hd : s.die (n / 64) = { swapPages := BitVec.allOnes 64 }) :
    s.fitsSwap n k = true := by
  have h := (Config.swapBytes (s.tile n).copies.length (((s.tile n).queues.map (fun q => q.2.length)).sum)
    ((s.tile n).units.flights.length + (s.tile n).quires.length + (s.tile n).matrix.shadow.length)).isLt
  have e : ({ swapPages := BitVec.allOnes 64 } : Die).freeSlot.isSome = true := by decide
  have f : ({ swapPages := BitVec.allOnes 64 } : Die).freePages = 2 ^ 64 - 1 := by decide
  have z : ((upFrom 0 6).map (fun i => if (0 : BitVec 6).getLsbD i then (if i < 4 then 65536 else 131072) else 0)).sum = 0 := by decide
  simp only [State.fitsSwap, dieOf, hd, e, f, swapSize, hk.1, hk.2, z, ceilDiv, Bool.true_and, decide_eq_true_eq, List.map_nil, List.sum_nil]
  omega

theorem meets_PreemptionEmptiesTheTile_leave :
    let s : State := { stateWith { tileWith [] [] with phase := .leaving } with dies := [(0, { swapPages := BitVec.allOnes 64 })] }
    (s.tile 0).task = some task ∧ task.work = .dispatched ∧ (s.tile 0).phase = .leaving ∧ (s.tile 0).quiet = true
      ∧ s.fitsSwap 0 task = true ∧ (asked []).fitsSwap 0 { task with clusters := 0xFF } = true :=
  ⟨rfl, rfl, rfl, rfl, fits_all _ _ ⟨rfl, rfl⟩ 0 rfl, fits_all _ _ ⟨rfl, rfl⟩ 0 rfl⟩

/-! ## What the statements suppose, met: engines and accesses on their own -/

theorem meets_CyclesIssueAndDeliver_issue : (atFiller.tile 0).calm ∧ AtFiller atFiller 0 := by
  unfold Tile.calm AtFiller; exact ⟨by decide, rfl⟩
theorem meets_CyclesIssueAndDeliver_leaving :
    let s := stateWith { atFiller.here with matrix := { leaving := [7] }, reserved := [(7, 1), (8, 2)] }
    ({ s.tile 0 with matrix := {}, reserved := [] } : Tile).calm ∧ (s.tile 0).matrix = { leaving := [7] } ∧ AtFiller s 0 := by
  unfold Tile.calm AtFiller; exact ⟨by decide, rfl, rfl⟩
/-- The tile of `atFiller` with one record on its units. -/
def carrying (f : Flight) : State := stateWith { atFiller.here with units := { flights := [f] } }
def storing : Flight := { multiplying with unit := 3, remain := 0, perf := some 0, body := .store 0x1FFFF8 8 5 }
theorem meets_CyclesIssueAndDeliver_deliver :
    let f : Flight := { multiplying with remain := 0 }
    CarriesOne ((carrying f).tile 0) f ∧ AtFiller (carrying f) 0 ∧ f.perf = none ∧ CarriesOne ((carrying storing).tile 0) storing
      ∧ AtFiller (carrying storing) 0 := by
  unfold CarriesOne Tile.calm AtFiller; and_intros <;> rfl
/-- A line of a page that no entry maps, asked for by a bundle and by a prefetch; and one that is mapped. -/
def filling (prefetch : Bool) : State := stateWith { tileWith [] [] with fills := [(16, prefetch)] }
theorem meets_CyclesIssueAndDeliver_fill : ∀ b : Bool,
    ((filling b).tile 0).fills.find? (fun f => f.1 == 16) = some (16, b)
      ∧ (match ((filling b).mapTile 0 (fun t => { t with fills := [] })).readCodeLine (((filling b).tile 0).who 0) 16 with
         | (.error (.fault _ _), _) => true | _ => false) = true
      ∧ (match ((mapped (filling b)).mapTile 0 (fun t => { t with fills := [] })).readCodeLine (((filling b).tile 0).who 0) 16 with
         | (.ok _, u) => u.want.isNone | _ => false) = true := by decide

/-- The copy of `copyTile` as a copy of 512 bytes, before its start and with its one chunk started; the tile runs, or has ended. -/
def restingCopy : CopyCmd :=
  { latchedCopy copyTile 3 20 with shape := BitVec.ofNat 512 (512 * 2 ^ 64 + 0xFFFFFFFF * 2 ^ 128), phase := .waiting, waits := [] }
def runningCopy : CopyCmd := { restingCopy with phase := .running, started := 1 }
set_option exponentiation.threshold 600 in
set_option maxRecDepth 20000 in
theorem meets_CopiesStartAndLand : ∀ ph ∈ [Phase.running, Phase.ended], ∀ c ∈ [restingCopy, runningCopy],
    let x := (stateWith { copyTile with phase := ph, copies := [c] }).tile 0
    x.level = .task ∧ (x.phase = .running ∨ x.phase = .ended) ∧ x.fixed = false ∧ x.copies = [c] ∧ c.doomed = false
      ∧ PlainBytes c.record 512 0 4096 ∧ c.src = BitVec.ofNat 64 (2 ^ 63 + 0) ∧ c.dst = BitVec.ofNat 64 (2 ^ 63 + 4096)
      ∧ x.poisonedAt 0 512 = false ∧ c.map = 0 ∧ c.lost = 0 ∧ c.semv = false ∧ c.cev = false
      ∧ x.task.isSome = true ∧ x.units.flights = [] ∧ x.matrix = {} ∧ x.karm.getLsbD (produced c.ctl) = false := by
  unfold PlainBytes; decide

/-- Two rows of ten 8-byte elements, and two groups of P16 packed into 9 planes, as records. -/
def stridedRecord : Nat := 1 + 3 * 2 ^ 8 + 10 * 2 ^ 64 + 20 * 2 ^ 80 + 0xFFFFFFFF * 2 ^ 128 + 80 * 2 ^ 192 + 96 * 2 ^ 320
def packedRecord : Nat := 2 ^ 12 + 5 * 2 ^ 24 + 9 * 2 ^ 34 + 128 * 2 ^ 64 + 0xFFFFFFFF * 2 ^ 128
/-- A record of bytes in one dimension to a kind of destination; a quire image to a cell. -/
def bytesRecord (kind n : Nat) : Nat := kind * 2 ^ 16 + n * 2 ^ 64 + 0xFFFFFFFE * 2 ^ 128
def cellRecord : Nat := 4 * 2 ^ 8 + 4 * 2 ^ 16 + 1 * 2 ^ 64 + 0xFFFFFFFF * 2 ^ 128
def moving (r src dst started : Nat) (map : BitVec 256) : CopyCmd :=
  { runningCopy with shape := BitVec.ofNat 512 r, src := BitVec.ofNat 64 src, dst := BitVec.ofNat 64 dst, started := started, map := map }
def movingState (c : CopyCmd) : State :=
  pair { copyTile with phase := .ended, copies := [c] } {}
set_option exponentiation.threshold 600 in
set_option maxRecDepth 100000 in
theorem meets_CopiesStartAndLand_moving : ∀ x ∈ [(stridedRecord, 2, 4, (3 : BitVec 256)), (packedRecord, 0, 1, 0)],
    let c := moving x.1 (2 ^ 63) (2 ^ 63 + 8192) x.2.2.1 x.2.2.2
    let t := (movingState c).tile 0
    Moving t c ∧ Open c x.2.1 ∧ bits x.1 18 16 = 0 ∧ c.shape.toNat = x.1 ∧ t.badWords = [] := by
  unfold Moving Open; decide +kernel
set_option exponentiation.threshold 600 in
set_option maxRecDepth 100000 in
theorem meets_CopiesStartAndLand_elements :
    (∀ p, p < 144 → 0 ≤ 8192 + toAt packedRecord p ∧ 8192 + toAt packedRecord p < 2 ^ 21)
      ∧ (∀ n, n < 128 → 0 ≤ fromAt packedRecord n ∧ fromAt packedRecord n + 2 ≤ 256)
      ∧ ((List.range 144).map (toAt packedRecord)).Nodup ∧ sizeOf_ packedRecord = 144 ∧ elementCount packedRecord = 128
      ∧ fromSize packedRecord = 2 := by decide +kernel

/-- A copy to memory, or from it, over the page of `mapped`. -/
def memoryCopy (src dst kind : Nat) : State × CopyCmd :=
  let c := moving (bytesRecord kind 64) src dst 1 0
  (mapped (movingState c), c)
set_option exponentiation.threshold 600 in
set_option maxRecDepth 100000 in
theorem meets_CopiesStartAndLand_places : ∀ x ∈
      [(bytesRecord 2 512, 0x90000004001FFE00, 512), (bytesRecord 3 512, 0xA000000001FFFE00, 512), (cellRecord, 0xA000000001FFFF80, 128),
       (bytesRecord 5 64, 0x40, 64)],
    let c := moving x.1 (2 ^ 63 + 64) x.2.1 1 0
    let s := movingState c
    (s.tile 0).task = some task ∧ task.work = .dispatched ∧ Moving (s.tile 0) c ∧ Open c 0 ∧ Readable (s.tile 0) c 64 x.2.2
      ∧ ((s.part 0).job 0).logged = false ∧ (s.tile 1).semarm.getLsbD 38 = false := by
  unfold Moving Open Readable; decide +kernel
set_option exponentiation.threshold 600 in
theorem meets_CopiesStartAndLand_kinds :
    let s := movingState runningCopy
    Bytes (moving (bytesRecord 2 512) 0 0 1 0) 2 512 ∧ s.resolve 0 task 0x90000004001FFE00 0 512 = .ok (.tile 1, 2 ^ 21 - 512)
      ∧ Bytes (moving (bytesRecord 3 512) 0 0 1 0) 3 512 ∧ s.resolve 0 task 0xA000000001FFFE00 0 512 = .ok (.kiln 0, 2 ^ 25 - 512)
      ∧ s.resolve 0 task 0xA000000001FFFF80 0 128 = .ok (.kiln 0, 2 ^ 25 - 128) ∧ (2 ^ 25 - 128) % 128 = 0
      ∧ (s.die 0).kilnPoison (2 ^ 25 - 128) 128 = false ∧ bits cellRecord 13 12 = 0 ∧ bits cellRecord 10 8 = 4 ∧ bits cellRecord 18 16 = 4
      ∧ bits cellRecord 1 0 = 0 ∧ bits cellRecord 79 64 = 1 ∧ Bytes (moving (bytesRecord 5 64) 0 0 1 0) 5 64
      ∧ Bytes (moving (bytesRecord 0 64) 0 0 1 0) 0 64 := by
  unfold Bytes; decide +kernel
set_option exponentiation.threshold 600 in
set_option maxRecDepth 100000 in
theorem meets_CopiesStartAndLand_target :
    let x := memoryCopy (2 ^ 63 + 64) 0x40 5
    Finds x.1 0 x.2 .write 0x40 walked (leafAt 0x40) ∧ (leafAt 0x40).entry.getLsbD 12 = true :=
  ⟨⟨rfl, rfl, fun m h => walk_mapped _ m _ _ (by decide) (by decide +kernel) rfl
      ((congrArg ofBytes (readBytes_agree (fun i h1 h2 => h i (by simp only [leafAt]; omega)))).trans (by decide +kernel)),
    by decide +kernel, rfl, rfl, rfl, by decide +kernel⟩, by decide⟩
set_option exponentiation.threshold 600 in
set_option maxRecDepth 100000 in
theorem meets_CopiesStartAndLand_source :
    let x := memoryCopy 0x40 (2 ^ 63) 0
    Finds x.1 0 x.2 .read 0x40 walked (leafAt 0x40) :=
  ⟨rfl, rfl, fun m h => walk_mapped _ m _ _ (by decide) (by decide +kernel) rfl
      ((congrArg ofBytes (readBytes_agree (fun i h1 h2 => h i (by simp only [leafAt]; omega)))).trans (by decide +kernel)),
    by decide +kernel, rfl, rfl, rfl, by decide +kernel⟩

/-- What ends a command: a source and a destination that name nothing, a bank outside the set, poison, and a page that no entry maps. -/
theorem meets_CopiesStartAndLand_faults :
    let s := movingState (moving (bytesRecord 0 64) (2 ^ 63) (2 ^ 63) 0 0)
    s.resolve 0 task 0xC000000000000000 0 1 = .error 1 ∧ s.resolve 0 task 0x9000000700000000 0 1 = .error 3
      ∧ (bytesRecord 0 64).testBit 128 = false ∧ (bytesRecord 0 64).testBit 129 = true
      ∧ ({ badWords := [15] } : Tile).poisonedAt 64 64 = true
      ∧ (∀ i, i < 64 → (bytesRecord 0 64).testBit (128 + (64 + i) / 64 % 32) = true) ∧ (s.part 0).stopping = none
      ∧ (s.die 0).cache = [] ∧ (s.tile 0).copyCache = [] ∧ walk s (s.part 0) 0x80 3 1 (s.part 0).root.toNat = .error 5 := by decide +kernel

/-- A matrix command in the channel, before its start and while it runs; its task has ended. -/
def matrixCommand (op : Nat) : MatrixCmd := { latchedMatrix matrixTile op 0 with waits := [], doomed := false }
def matrixState (op : Nat) (left : Option Nat) : State :=
  stateWith { matrixTile with phase := .ended, matrix := { channel := some (matrixCommand op, left), opened := left.map (fun _ => foundBy matrixTile) } }
set_option maxRecDepth 20000 in
theorem meets_MatrixStartsAndRetires :
    (∀ r ∈ matrixRows, let x := (matrixState (r.op (imm 0)).code none).tile 0
      x.level = .task ∧ x.phase = .ended ∧ x.matrix = { channel := some (matrixCommand (r.op (imm 0)).code, none) }
        ∧ (matrixCommand (r.op (imm 0)).code).waits = [] ∧ (matrixCommand (r.op (imm 0)).code).doomed = false)
    ∧ ∀ i ∈ [Instr.mxMclr (imm 0), Instr.mxMload (imm 0)], let x := (matrixState i.code (some 3)).tile 0
      x.matrix = { channel := some (matrixCommand i.code, some 3), opened := some (foundBy x) } ∧ (matrixCommand i.code).op = i.code ∧ x.copies = []
        ∧ x.karm.getLsbD (produced (matrixCommand i.code).ctl) = false ∧ x.units.flights = [] ∧ x.quires = []
        ∧ x.poisonedAt ((matrixCommand i.code).rsd.toNat % 2 ^ 21) 131072 = false := by decide

/-- The fields of a product of P8E0 with P8E0 over KLEN 1, drained in P16E1 into the store, or as 9 planes into ob1. -/
def computing (op : Nat) (dst : Word) (planes : Nat) : MatrixCmd :=
  { matrixCommand op with fmt := BitVec.ofNat 64 (0x20820800 + 5 * 2 ^ 32 + planes * 2 ^ 41), dst := dst }
set_option maxRecDepth 20000 in
theorem meets_MatrixStartsAndRetires_computes :
    ∀ op ∈ [(Instr.mxMma (imm 0)).code, (Instr.mxMmd (imm 0)).code, (Instr.mxMdrn (imm 0)).code, (Instr.mxMsave (imm 0)).code],
    ∀ d ∈ [((0x8000000000000000 : Word), 0), (0xB000000000030000, 9)],
    let c := computing op d.1 d.2
    let t := { matrixTile with phase := .ended }
    let x := (stateWith { t with matrix := { channel := some (c, some 1), opened := some (foundBy t) } }).tile 0
    GoodOperands c ∧ GoodDrain c ∧ c.op = op ∧ x.level = .task ∧ x.phase = .ended ∧ x.copies = [] ∧ x.units.flights = [] ∧ x.quires = []
      ∧ x.badWords = [] ∧ x.karm.getLsbD (produced c.ctl) = false ∧ x.matrix = { channel := some (c, some 1), opened := some (foundBy x) } := by
  unfold GoodOperands GoodDrain; decide +kernel
theorem meets_MatrixStartsAndRetires_drains :
    let c := computing 0x211 0xB000000000030000 9
    c.dst.toNat / 2 ^ 60 = 0xB ∧ bits c.geo.toNat 25 20 + 1 = sideOf c ∧ bits c.geo.toNat 31 26 + 1 = sideOf c ∧ c.dst.toNat % 65536 % 8 = 0
      ∧ c.dst.toNat % 65536 + sideOf c * sideOf c / 64 * 9 * 8 ≤ 65536 ∧ (computing 0x211 0x8000000000000000 0).dst.toNat / 2 ^ 60 = 8
      ∧ bits c.bnk.toNat 47 32 = 0 := by decide +kernel

def message : Outgoing := { dest := 0x4000000F0, data := 5, src := 3, refused := false }
def fullQueue : List Received := List.replicate 64 { data := 1, src := 2, poisoned := false }
theorem meets_RemoteWritesAndMessagesArrive :
    let s := pair { tileWith [] [] with rputs := [remote], sends := [message] } {}
    (s.tile 0).task = some task ∧ s.resolve 0 task remote.addr.toNat 0 remote.n = .ok (.tile 1, 0x1FFFF8) ∧ remote.n ≤ 8
      ∧ remote.tag = none ∧ message.tag = none
      ∧ (s.tile 1).semarm.getLsbD 38 = false ∧ (s.tile 0).sends = [message] ∧ message.due = none
      ∧ s.peer task (message.dest.toNat / 2 ^ 48 % 256) (message.dest.toNat / 2 ^ 32 % 1024) = .ok (some 1, 0)
      ∧ ((s.tile 1).queue (message.dest.toNat / 16 % 16)).length < 64
      ∧ 64 ≤ (((pair {} { queues := [(15, fullQueue)] }).tile 1).queue 15).length := by decide

/-- A remote write of fixed timing whose cycle is the next, and has come (R166). -/
theorem meets_RemoteWritesAndMessagesArrive_timed : ∀ c ∈ [0, 1],
    let s := pair { tileWith [] [] with rputs := [{ remote with ready := some (BitVec.ofNat 64 c) }] } {}
    (s.tile 0).phase = .running
      ∧ decide (((s.tile 0).icyc + (s.tile 0).hcyc + (s.tile 0).fcyc - BitVec.ofNat 64 c).toNat < 2 ^ 63) = decide (c = 0) := by decide +kernel

/-- An operation of each number on the last aligned location of logical kiln 0, of 8 bytes where the operation has them. -/
def kilnOperation (k : Nat) (st : KilnStage) : KilnOp :=
  { k := k, addr := 0xA000000001FFFFF8, b := 3, c := 3 * 2 ^ 40, stage := st, bundle := 4096, bus := 32 }
theorem meets_KilnOperationsPerform : ∀ k ∈ [0, 1, 2, 3, 4, 5, 6, 7, 8, 9, 10, 14, 15],
    let o := kilnOperation k .sent
    let s := stateWith { tileWith [] [] with kiln := [o] }
    (s.tile 0).task = some task ∧ (s.tile 0).postings = [] ∧ (s.tile 0).kiln = [o] ∧ o.due = none
      ∧ bankBytes o.k o.addr o.c = 8 ∧ s.resolve 0 task o.addr.toNat 0 8 = .ok (.kiln 0, 2 ^ 25 - 8)
      ∧ (s.die 0).kilnPoison (2 ^ 25 - 8) 8 = false ∧ ((s.part 0).job 0).logged = false
      ∧ (kilnOperation k (.performed 7 false)).returns = decide (k ≠ 15) := by decide

/-- The last quire cell of logical kiln 0, its last 8 bytes in formats of 8, 16 and 32 bits, and updates that fill 64 bits. -/
theorem meets_KilnOperationsPerform_posits : ∀ x ∈
      [(11, 0, 2 ^ 25 - 1), (11, 10 * 2 ^ 32 + 2 ^ 41, 2 ^ 25 - 4), (12, 5 * 2 ^ 32, 2 ^ 25 - 128), (13, 2 ^ 36 + 8 * 2 ^ 44, 2 ^ 25 - 8),
       (13, 10 * 2 ^ 32 + 2 * 2 ^ 44, 2 ^ 25 - 8)],
    let c : Word := BitVec.ofNat 64 x.2.1
    let o : KilnOp := { k := x.1, addr := BitVec.ofNat 64 (0xA000000000000000 + x.2.2), b := 3, c := c, stage := .sent, bundle := 4096, bus := 32 }
    let s := stateWith { tileWith [] [] with kiln := [o] }
    GoodPosits o.k o.c ∧ o.due = none ∧ (s.tile 0).kiln = [o] ∧ ((s.part 0).job 0).logged = false
      ∧ s.resolve 0 task o.addr.toNat 0 (positBytes o.k o.c) = .ok (.kiln 0, x.2.2) ∧ (s.die 0).kilnPoison x.2.2 (positBytes o.k o.c) = false := by
  unfold GoodPosits; decide

/-- The mapping of `mapped`, and 512 MiB of LPDDR6 at the virtual address 2^42, where a log of three pages lies. -/
def logAt : LogFields := { base := 2 ^ 42, pages := 3, reserve := 1, record := none }
def logMapped (s : State) : State :=
  { mapped s with
    memory := (mapped s).memory ++ cellsOf (2 ^ 40 + 8) (toBytes 8 (1 + 2 ^ 41 + 2 ^ 16))
                ++ cellsOf (2 ^ 40 + 2 ^ 16) (toBytes 8 (0x1702 + 2 ^ 41 + 2 ^ 29)) }
/-- An add of a task whose job writes a log, with its page or without; the last record that has room, and none. -/
def logging (records : Nat) (mapsLog : Bool) : State :=
  let s := stateWith { tileWith [] [] with kiln := [kilnOperation 0 .sent] }
  let m := if mapsLog then logMapped s else mapped s
  { m with parts := [(0, { m.part 0 with jobs := [{ num := 0, state := .open_, log := some logAt, records := records }] })] }
set_option maxRecDepth 100000 in
theorem meets_KilnOperationsPerform_logged : ∀ x ∈ [(0, true), (1637, true), (1638, true), (0, false)],
    let s := logging x.1 x.2
    let o := kilnOperation 0 .sent
    let off := 2 ^ 25 - 8
    let j := (s.part 0).job 0
    let s0 := s.setPart 0 ((s.part 0).setJob { j with filters := mset [] j.filters (bankOfLine 0 off) (addTo (lineKey 0 off) []) })
    (s.tile 0).kiln = [o] ∧ s.resolve 0 task o.addr.toNat 0 8 = .ok (.kiln 0, off) ∧ off / 64 = (off + 8 - 1) / 64
      ∧ (s.part 0).dieList[0]? = some 0 ∧ j.log = some logAt ∧ j.state = .open_ ∧ j.filters = [] ∧ j.records = x.1
      ∧ (x.1 < (logAt.pages - 1) * 65536 / 80 ↔ x.1 ≤ 1637)
      ∧ (match writeLog s0 ((s.tile 0).who 0) (linePieces (logAt.base + 65536 + 80 * j.records) 80) (kilnRecord s 0 0 off) with
         | .ok _ => true | .error _ => false) = x.2 := by decide +kernel
/-- A page of the log, and a page that is no page of a log. -/
theorem meets_KilnOperationsPerform_places :
    let s := logMapped (stateWith {})
    let w := s.dispatcher 0 none
    s.cachedFor w (2 ^ 42) = none ∧ s.cachedFor w 0x80 = none
      ∧ (match walk s (s.part 0) (2 ^ 42) 3 1 (s.part 0).root.toNat with
         | .ok k => (match checkLeaf s { w with user := false } .write (2 ^ 42) k with
           | .ok l => l.entry.getLsbD 8 && decide (2 ^ 41 ≤ l.ppa) && l.grade == 0 && !l.foreign && l.entry.getLsbD 12 && l.key == 0
           | .error _ => false)
         | .error _ => false) = true
      ∧ (match walk s (s.part 0) 0x80 3 1 (s.part 0).root.toNat with
         | .ok k => (match checkLeaf s { w with user := false } .write 0x80 k with | .ok l => decide (l.ppa < 2 ^ 41) | .error _ => false)
         | .error _ => false) = true := by decide +kernel

/-! ## What the statements suppose, met: the dispatcher -/

def object : CodeObject := { addr := 0x200, size := 512, codeBase := 0x280, codeLen := 16, event := none, clusters := 0xFF, sections := [] }
def launchOf (linked : Nat) (st : LaunchState) : Launch :=
  { addr := 0x80, state := st, job := 0, preds := [], record := BitVec.ofNat 1024 (taskRecord linked), object := some object }
def withLaunch (l : Launch) : State :=
  { State.reset with parts := [(0, { partition with launches := [l], objects := [object] })] }

/-- The record of `launchOf` in memory, and its object admitted. -/
def postedState : State :=
  let s := mapped (withLaunch (launchOf 0 .posted))
  { s with memory := cellsOf 0x80 (toBytes 128 (taskRecord 0)) ++ s.memory }
set_option exponentiation.threshold 2000 in
set_option maxRecDepth 100000 in
theorem meets_PostedLaunchesBecomeReady :
    (postedState.part 0).state = .running ∧ (postedState.part 0).launch? 0x80 = some (launchOf 0 .posted)
      ∧ ((postedState.part 0).job 0).stopsTasks = false
      ∧ (match ((tried postedState (.ready 0 0x80)).jobNow 0 (launchOf 0 .posted)).2.readDispatch 0
           (some ((tried postedState (.ready 0 0x80)).jobNow 0 (launchOf 0 .posted)).1.job)
           ((tried postedState (.ready 0 0x80)).jobNow 0 (launchOf 0 .posted)).1.addr 128 with
         | (.ok bs, s1) =>
           (match s1.examine 0 (launchOf 0 .posted) (headAsPosted (launchOf 0 .posted).record.toNat (ofBytes bs)) with
            | (.ok l1, s2) => l1.kind == 0 && l1.tasks == 4 && (s2.part 0).stopping.isNone && (s2.part 0).forced.isNone && s2.control.waiting.isEmpty
            | _ => false)
         | _ => false) = true := by decide +kernel

set_option exponentiation.threshold 2000 in
set_option maxRecDepth 100000 in
theorem meets_DispatcherStartsTasks_dispatch : ∀ g ∈ [0, 1],
    let l := launchOf g .ready
    let s := withLaunch l
    s.headLaunch 0 0x80 = some l ∧ l.kind = 0 ∧ l.linked = decide (g = 1) ∧ l.object = some object ∧ l.cell = none
      ∧ s.vacantTiles 0 = 0 :: upFrom 1 63 ∧ (∀ n ∈ s.vacantTiles 0, s.dieTakes (s.launchFixed 0 l) (n / 64) = true)
      ∧ (s.part 0).imported = [] ∧ l.tasks = 4 ∧ (s.vacantTiles 0).Nodup ∧ s.serves = some 0 ∧ s.decides 0 = true
      ∧ reservedFor s 0 l = [0, 1, 2, 3] := by decide +kernel
/-- A task out of its tile. -/
def swappedTask : Swapped := { slot := 5, pages := 1, launch := 0, part := 0, index := 3, rejoined := 0, tile := (tileWith [] []).captured }
set_option exponentiation.threshold 2000 in
set_option maxRecDepth 100000 in
theorem meets_DispatcherStartsTasks_unhindered :
    let x : State := { State.reset with parts := [(0, partition)], dies := [(0, { shadow := [swappedTask] })] }
    Unhindered (withLaunch (launchOf 0 .ready)) (.dispatch 0 0x80 0) (fun u => u.dispatchStep 0 (launchOf 0 .ready) 0)
      ∧ Unhindered (withLaunch (launchOf 1 .ready)) (.dispatch 0 0x80 0) (fun u => u.gangStep 0 (launchOf 1 .ready) [0, 1, 2, 3])
      ∧ Unhindered x (.dispatch 0 0 3) (fun u => (u.takeTurn 0).resume swappedTask 7)
      ∧ AsksNothing x (fun a => a.dispatches 0) ∧ AsksNothing (withLaunch (launchOf 0 .ready)) (fun a => a.dispatches 0)
      ∧ (withLaunch (launchOf 1 .ready)).requestPreemption 0 = withLaunch (launchOf 1 .ready)
      ∧ Unhindered postedState (.ready 0 0x80) (fun u => (u.readyStep 0 (launchOf 0 .posted)).2) := by
  unfold Unhindered AsksNothing; decide +kernel
set_option maxRecDepth 100000 in
theorem meets_DispatcherStartsTasks_resume :
    let s : State := { State.reset with parts := [(0, partition)], dies := [(0, { shadow := [swappedTask] })] }
    (match s.dispatchHead 0 with | some c => c.swapped && c.addr == 0 && c.index == 3 | none => false) = true
      ∧ (s.die 0).shadow.find? (fun y => y.part == 0 && y.launch == 0 && y.index == 3) = some swappedTask
      ∧ swappedTask.tile.task = some task ∧ (s.tile 7).phase = .idle ∧ 7 ∈ workingTiles s.health 0
      ∧ s.dieTakes swappedTask.tile.fixed 0 = true ∧ s.serves = some 0 := by decide +kernel
/-- The one working tile of the partition runs a task of a launch the dispatcher has no record of. -/
def crowded : State :=
  { withLaunch (launchOf 0 .ready) with
    health := { badTiles := upFrom 1 63 }, tiles := [(0, tileWith [] [])], dies := [(0, { swapPages := BitVec.allOnes 64 })] }
theorem crowded_preemptible : crowded.preemptible 0 0 = true := by
  have h := fits_all crowded task ⟨rfl, rfl⟩ 0 rfl
  simp only [State.fitsSwap, Bool.and_eq_true] at h
  have e : (crowded.tile 0).task = some task := rfl
  simp only [State.preemptible, e, Bool.and_eq_true]
  exact ⟨⟨by decide, h.1⟩, h.2⟩
set_option exponentiation.threshold 2000 in
set_option maxRecDepth 100000 in
theorem meets_DispatcherStartsTasks_rise :
    (match crowded.dispatchHead 0 with | some c => !c.swapped && c.addr == 0x80 && c.eff == 7 | none => false) = true
      ∧ (crowded.part 0).launch? 0x80 = some (launchOf 0 .ready) ∧ (launchOf 0 .ready).linked = false ∧ crowded.vacantTiles 0 = []
      ∧ (∀ n ∈ partitionTiles crowded (crowded.part 0), (crowded.tile n).matrix.preempt = false ∧ (crowded.tile n).phase ≠ .leaving)
      ∧ crowded.bestVictim 0 ((partitionTiles crowded (crowded.part 0)).filter (crowded.preemptible 0)) = some 0
      ∧ (crowded.victimKey 0 0).1 < 7 := by
  have e : (partitionTiles crowded (crowded.part 0)).filter (crowded.preemptible 0) = [0] := by
    have p : partitionTiles crowded (crowded.part 0) = [0] := by decide +kernel
    rw [p, List.filter_cons_of_pos crowded_preemptible, List.filter_nil]
  rw [e]; decide +kernel

/-- Tile 0 holds an ended task that tile 1 started, or one of a launch with three to go. -/
def endedTask (w : Work) : State :=
  { withLaunch { launchOf 0 .running with addr := 0, dispatched := 4 } with
    tiles := [(0, { tileWith [] [] with phase := .ended, task := some { task with work := w, total := 4 } }),
              (1, { tileWith [] [] with task := some { task with index := 2 } })] }
set_option exponentiation.threshold 2000 in
set_option maxRecDepth 100000 in
theorem meets_TasksRetire : ∀ w ∈ [Work.spawned 1, Work.dispatched],
    let s := endedTask w
    let x := s.tile 0
    x.task = some { task with work := w, total := 4 } ∧ x.phase = .ended ∧ x.level = .task ∧ x.alarms = [] ∧ x.quiet = true ∧ x.copies = []
      ∧ (∀ y ∈ s.tiles, ∀ j ∈ y.2.task, j.work ≠ .spawned 0) ∧ Undisturbed s 0
      ∧ ((s.part 0).launch? 0).isSome = true ∧ (∀ l ∈ (s.part 0).launches, l.digtab = 0 ∧ l.finished + 1 < l.tasks)
      ∧ AsksNothing s (fun a => a.fills 0 || a == .task 0)
      ∧ Unhindered s (.task 0) (fun u => u.retireTask 0 { task with work := w, total := 4 }) := by
  unfold Undisturbed Unhindered AsksNothing; decide +kernel

/-- Tile 0 holds the last ended task of a launch of job 0 in memory, whose digest is 77, and the table at a place holds 78 for it. -/
def lastTask (table : Nat) : State :=
  let r := taskRecord 0 + table * 2 ^ 384 + 2 ^ 9
  let l := { launchOf 0 .running with addr := 0x80, dispatched := 4, finished := 3, record := BitVec.ofNat 1024 r }
  let m := mapped (stateWith { tileWith [] [] with phase := .ended, digest := 77, task := some { task with launch := 0x80, total := 4 } })
  { m with
    memory := cellsOf 0x80 (toBytes 128 r) ++ cellsOf 0x820 (toBytes 8 78) ++ m.memory
    parts := [(0, { m.part 0 with launches := [l], objects := [object], jobs := [{ num := 0, state := .open_ }] })] }
set_option exponentiation.threshold 2000 in
set_option maxRecDepth 100000 in
theorem meets_TasksRetire_last : ∀ a ∈ [0, 0x800],
    let s := lastTask a
    let x := s.tile 0
    x.task = some { task with launch := 0x80, total := 4 } ∧ x.phase = .ended ∧ x.level = .task ∧ x.alarms = [] ∧ x.quiet = true ∧ x.copies = []
      ∧ (∀ y ∈ s.tiles, ∀ j ∈ y.2.task, j.work ≠ .spawned 0) ∧ Undisturbed s 0
      ∧ (∀ l ∈ (s.part 0).launches, l.digtab = a ∧ l.digchk = true ∧ l.finished + 1 = l.tasks ∧ l.cell = none ∧ l.succs = [])
      ∧ ((s.part 0).job 0).mismatch = none ∧ ((s.part 0).job 0).serialRun = false
      ∧ AsksNothing s (fun a => a.fills 0 || a == .task 0) := by
  unfold Undisturbed AsksNothing; decide +kernel
set_option exponentiation.threshold 2000 in
set_option maxRecDepth 100000 in
theorem meets_TasksRetire_record :
    let s := lastTask 0
    HoldsRecord s 0 0x80 (taskRecord 0 + 2 ^ 9) (leafAt 0x80) ∧ WalksAround s 0 0x80 0x100 0x80 walked ∧ s.causes = [] := by
  exact ⟨⟨by decide +kernel, by decide, by decide, ⟨walked, by decide +kernel, by decide +kernel, by decide +kernel⟩, by decide, by decide, by decide,
    by decide, by decide +kernel, by decide +kernel⟩, ⟨.inr (by decide), fun m h => walk_mapped _ m _ _ (by decide) (by decide +kernel) rfl
      ((congrArg ofBytes (readBytes_agree (fun i h1 _ => h i (by omega)))).trans (by decide +kernel))⟩, by decide⟩
set_option exponentiation.threshold 2000 in
set_option maxRecDepth 100000 in
theorem meets_TasksRetire_mismatch :
    (match (tried (lastTask 0x800) (.task 0)).readDispatch 0 (some 0) (0x800 + 8 * (1 + 3)) 8 with
      | (.ok bs, s1) => decide (ofBytes bs ≠ ((lastTask 0x800).tile 0).digest.toNat) && !((s1.part 0).job 0).serialRun
          && decide ((s1.part 0).stopping = none ∧ (s1.part 0).forced = none ∧ (s1.part 0).imported = [] ∧ s1.control.waiting = [] ∧ s1.want = none)
      | _ => false) = true := by decide +kernel

/-- Job 5 of partition 0. -/
def withJob (j : Job) : State := { State.reset with parts := [(0, { partition with jobs := [{ j with num := 5 }] })] }
theorem meets_CheckpointsReplaysAndTimeouts_checkpoint :
    let a := logMapped (withJob { num := 5, state := .quiescing, asked := [none], log := some logAt })
    Unhindered a (.job 0 5) (fun u => (u.takeCheckpoints 0 5).requestPreemption 0) ∧ a.jobLive 0 5 = false ∧ Undisturbed a 0 ∧ ((a.part 0).job 5).stopsTasks = false ∧ ((a.part 0).job 5).asked = [none]
      ∧ ((a.part 0).job 5).log = some logAt ∧ listed a 0 5 none = []
      ∧ (match writeLog a (a.dispatcher 0 (some 5)) (linePieces (2 ^ 42) 8) (pageZero []) with | .ok _ => true | _ => false) = true := by
  unfold Undisturbed Unhindered; decide +kernel
/-- The checkpoint record at 0x80 of job 5 waits to take effect, with a POSTED record at 0x100 and a successor at 0x180 or more POSTED ones. -/
def checkpointRecord : Nat := 1 + 2 ^ 34 + 5 * 2 ^ 48 + 2 ^ 42 * 2 ^ 64 + 3 * 2 ^ 192 + 2 ^ 224 + 0x180 * 2 ^ 640
def checkpointLaunch : Launch := { addr := 0x80, state := .ready, job := 5, preds := [], record := BitVec.ofNat 1024 checkpointRecord }
def otherLaunch : Launch := { addr := 0x100, state := .posted, job := 5, preds := [0x80], record := BitVec.ofNat 1024 (taskRecord 0 + 5 * 2 ^ 48) }
def checkpointState (more : List Launch) : State :=
  let s := logMapped (withJob { num := 5, state := .quiescing, asked := [some 0x80], log := some logAt })
  { s with
    memory := cellsOf 0x180 (toBytes 128 (taskRecord 0 + 5 * 2 ^ 48)) ++ s.memory
    parts := [(0, { s.part 0 with launches := checkpointLaunch :: otherLaunch :: more })] }
set_option exponentiation.threshold 2000 in
set_option maxRecDepth 100000 in
theorem meets_CheckpointsReplaysAndTimeouts_explicit :
    let s := checkpointState []
    let u := ((tried s (.job 0 5)).post 0 (some 5) 0x180).2
    Unhindered s (.job 0 5) (fun u => (u.takeCheckpoints 0 5).requestPreemption 0) ∧ s.jobLive 0 5 = false ∧ Undisturbed s 0 ∧ ((s.part 0).job 5).stopsTasks = false
      ∧ ((s.part 0).job 5).asked.filter Option.isSome = [some 0x80] ∧ (s.part 0).launch? 0x80 = some checkpointLaunch
      ∧ checkpointLaunch.succs = [0x180] ∧ listed u 0 5 (some 0x80) = [0x100, 0x180] ∧ (u.part 0).launch? 0x80 = some checkpointLaunch
      ∧ (match writeLog u (u.dispatcher 0 (some 5)) (linePieces (2 ^ 42) 24) (pageZero [0x100, 0x180]) with | .ok _ => true | _ => false) = true := by
  unfold Undisturbed Unhindered; decide +kernel
set_option exponentiation.threshold 2000 in
set_option maxRecDepth 100000 in
theorem meets_CheckpointsReplaysAndTimeouts_long :
    8191 < (listed (((tried (checkpointState (List.replicate 8190 otherLaunch)) (.job 0 5)).post 0 (some 5) 0x180).2) 0 5 (some 0x80)).length := by decide +kernel

/-- Job 5 drains with one record in its log, with addresses in its pending list, and with a record at 0x80. -/
def logPlace : Nat := 2 ^ 40 + 2 ^ 29
def drained (record : List Byte) (pending : List Nat) (status : Nat) : State :=
  let s := logMapped (withJob { num := 5, state := .draining, log := some logAt, records := record.length / 80 })
  { s with
    memory := cellsOf 0x80 (toBytes 128 (taskRecord 0 + 5 * 2 ^ 48 + status * 2 ^ 768)) ++ s.memory ++ cellsOf logPlace (pageZero pending)
                ++ cellsOf (logPlace + 65536) record }
def logRecord (kind addr : Nat) : List Byte := toBytes 16 (kind + addr * 2 ^ 64) ++ List.replicate 64 7
set_option exponentiation.threshold 2000 in
set_option maxRecDepth 100000 in
theorem meets_CheckpointsReplaysAndTimeouts_replay :
    let s := drained (logRecord 3 0x80) [] 0
    Drained_ s 0 5 logAt ∧ Unhindered s (.job 0 5) (fun u => (u.replay 0 5).requestPreemption 0) ∧ (s.part 0).launches = [] ∧ ((s.part 0).job 5).rollbacks < 3 ∧ ((s.part 0).job 5).records = 1
      ∧ (match (tried s (.job 0 5)).replayRecords 0 (ownRank s (s.part 0) 5) (s.dispatcher 0 (some 5)) logAt 1 [] with
         | (.ok [0x80], u) =>
           (match u.readPending (s.dispatcher 0 (some 5)) logAt with
            | (.ok [], v) =>
              let z := reposts (emptied v 0 5) 0 5 [0x80]
              decide ((z.part 0).stopping = none ∧ (z.part 0).forced = none ∧ (z.part 0).imported = [] ∧ z.control.waiting = [])
            | _ => false)
         | _ => false) = true := by
  unfold Drained_ Undisturbed Unhindered; decide +kernel
set_option exponentiation.threshold 2000 in
set_option maxRecDepth 100000 in
theorem meets_CheckpointsReplaysAndTimeouts_pending : ∀ status ∈ [1, 4],
    let s := drained [] [0x80] status
    Drained_ s 0 5 logAt ∧ Unhindered s (.job 0 5) (fun u => (u.replay 0 5).requestPreemption 0)
      ∧ (match (tried s (.job 0 5)).readPending (s.dispatcher 0 (some 5)) logAt with
         | (.ok [0x80], v) =>
           (match (emptied v 0 5).statusAt 0 (some 5) 0x80 with
            | (some w, z) => decide (bits w 3 0 = status)
                && (match z.readDispatch 0 (some 5) 0x80 128 with | (.ok bs, _) => decide (bits (ofBytes bs) 59 48 = 5) | _ => false)
            | _ => false)
         | _ => false) = true
      ∧ (match (tried (drained [] [2 ^ 43] 0) (.job 0 5)).readPending (s.dispatcher 0 (some 5)) logAt with
         | (.ok [_], v) => (((emptied v 0 5).statusAt 0 (some 5) (2 ^ 43)).1).isNone
         | _ => false) = true := by
  unfold Drained_ Undisturbed Unhindered; decide +kernel
set_option exponentiation.threshold 2000 in
set_option maxRecDepth 100000 in
theorem meets_CheckpointsReplaysAndTimeouts_records : ∀ k ∈ [1, 2],
    let s := drained (logRecord k 0x40) [] 0
    let w := s.dispatcher 0 none
    (match s.readVirtual w .read (logAt.base + 65536) 80 with
      | (.ok g, s1) => g.poison.isNone && decide (ofBytes (g.bytes.take 16) % 16 = k) && decide (physicalOf s1.health (s.part 0) 0x40 = some 0x40)
          && decide ((s.part 0).dieList[0]? = some 0)
      | _ => false) = true
      ∧ (match ({ s with badLines := [(logPlace + 65536) / 64] } : State).readVirtual w .read (logAt.base + 65536) 80 with
         | (.ok g, _) => g.poison.isSome | _ => false) = true
      ∧ (match s.replayRecords 0 0 w { logAt with base := 2 ^ 43 } 1 [] with | (.error (.fault _), _) => true | _ => false) = true := by
  decide +kernel
/-- A job that drains while a write of its own, number 9, is unanswered, and one whose write went down with a port. -/
theorem meets_CheckpointsReplaysAndTimeouts_unanswered :
    let s : State := withJob { num := 5, state := .draining, log := some logAt, draining := [9] }
    let t : State := { s with ports := [(15, { failed := true, lost := [9] })] }
    ((s.part 0).job 5).state = .draining ∧ 9 ∈ ((s.part 0).job 5).draining ∧ (∀ q ∈ s.ports, 9 ∉ q.2.lost)
      ∧ Drained_ t 0 5 logAt := by
  unfold Drained_ Undisturbed; decide
/-- A STOP of 1,000 microseconds that began at time 0; a job has not stopped, and its log has reached the reserve or not. -/
def stoppingState (records : Nat) : State :=
  { State.reset with
    timeBase := 1000000
    parts := [(0, { partition with
      jobs := [{ num := 5, state := .quiescing, asked := [none], stopAsked := true, log := some logAt, records := records }]
      stopping := some { request := 0x31, since := 0, limit := 1000 } })] }
theorem meets_CheckpointsReplaysAndTimeouts_timeout : ∀ n ∈ [819, 820],
    let s := stoppingState n
    (s.part 0).forced = none ∧ (s.part 0).imported = [] ∧ (s.part 0).stopping = some { request := 0x31, since := 0, limit := 1000 }
      ∧ 1000 * 1000 ≤ (s.timeBase - 0).toNat ∧ s.control.waiting = [] ∧ s.control.again = []
      ∧ ((s.part 0).job 5).state = .quiescing ∧ reserveReached ((s.part 0).job 5) = decide (n = 820) := by decide +kernel
theorem meets_CheckpointsReplaysAndTimeouts_latch :
    let s : State := { State.reset with timeBase := 1000, snapshot := { due := some 1000, early := some (5, {}) } }
    s.snapshot.due = some 1000 ∧ (1000 : Word).toNat ≤ s.timeBase.toNat := by decide

/-! ## What the statements suppose, met: the control port -/

/-- A message of a type to PART with SEQ 7 and HOLD set or not (R40). -/
def messageOf (ty part hold : Nat) (body : List Byte) : Message :=
  { header := BitVec.ofNat 128 (ty + part * 2 ^ 16 + hold * 2 ^ 42 + 7 * 2 ^ 64 + body.length * 2 ^ 96), payload := body }
def asking (s : State) (ty part : Nat) (body : List Byte) (hold : Nat := 0) : State :=
  { s with control := { s.control with arrived := messageOf ty part hold body, next := some 7 } }
/-- A partition 3 in a state, on die 2. -/
def withPart (st : PartState) : State := { State.reset with parts := [(3, { state := st, dies := 4, begun := true, keyBase := 9, keyCount := 2 })] }

def asksDec (s : State) (ty part : Nat) (body : List Byte) : Decidable (Asks s ty part body) := by
  unfold Asks AsksNothing; infer_instance
/-- Whether a request may execute at once, decided. -/
def asksB (s : State) (ty part : Nat) (body : List Byte) : Bool := @decide _ (asksDec s ty part body)
theorem asks_iff {s : State} {ty part : Nat} {body : List Byte} : Asks s ty part body ↔ asksB s ty part body = true := by
  simp [asksB]

theorem meets_RequestsAreTakenInOrder :
    let s := asking State.reset 1 0xFF []
    let r : Response := { header := 0, payload := [1] }
    let k (x : Option Response) : Control := { s.control with kept := [(7, x)] }
    s.health.noPort = false ∧ s.control.arrived.resp = false ∧ (k (some r)).kept.find? (fun y => y.1 == s.control.arrived.seq) = some (7, some r)
      ∧ (k none).kept.find? (fun y => y.1 == s.control.arrived.seq) = some (7, none)
      ∧ (∀ ty ∈ 0x05 :: assigned, stepOf (messageOf ty 3 0 []) ≠ .filler)
      ∧ 0x05 ∉ assigned ∧ Asks (asking State.reset 0x05 0xFF [1]) 0x05 0xFF [1] ∧ Asks (asking State.reset 0x05 15 []) 0x05 15 []
      ∧ ({ s.control with next := some 5 } : Control).isNext s.control.arrived = false ∧ s.control.isDuplicate s.control.arrived = false := by
  simp only [asks_iff]; decide +kernel

/-- The bytes of the requests of module scope. -/
def imageBody : List Byte :=
  toBytes 4 512 ++ toBytes 4 0 ++ toBytes 4 512 ++ toBytes 4 0 ++ List.replicate 512 3
def snapshotBody : List Byte := toBytes 2 0x3FF ++ toBytes 2 0 ++ toBytes 4 504 ++ toBytes 4 8
def errorBody (n : Nat) : List Byte := toBytes 4 0 ++ toBytes 2 n ++ toBytes 2 0
def moduleBodies : List (Nat × List Byte) :=
  [(0x01, []), (0x02, []), (0x03, toBytes 4 999), (0x03, toBytes 4 1000), (0x03, toBytes 4 4400), (0x03, toBytes 4 4401), (0x04, imageBody),
   (0x40, List.replicate 64 3), (0x50, errorBody 1), (0x50, errorBody 256), (0x51, []), (0x51, toBytes 4 0x80000000), (0x52, snapshotBody)]
set_option maxRecDepth 100000 in
theorem meets_ModuleRequestsAct :
    (∀ x ∈ moduleBodies, Asks (asking State.reset x.1 0xFF x.2) x.1 0xFF x.2) ∧ State.reset.errors = [] ∧ State.reset.errorCount = 0
      ∧ State.reset.snapshot.latched = none ∧ State.reset.control.firmware = none ∧ State.reset.health.noKeys = false := by
  simp only [asks_iff]; decide +kernel

/-- The bodies of the requests of a partition's making. -/
def createBody (flags window : Nat) : List Byte :=
  toBytes 2 0x8000 ++ toBytes 1 flags ++ toBytes 1 0 ++ toBytes 2 4094 ++ toBytes 2 2 ++ toBytes 8 window
def selfBody (d : Nat) : List Byte := toBytes 1 1 ++ toBytes 1 0 ++ toBytes 2 1 ++ toBytes 4 0 ++ sectionBytes 0 (toBytes 8 d)
def rankBody (d job : Nat) : List Byte :=
  toBytes 1 2 ++ toBytes 1 0 ++ toBytes 2 1 ++ toBytes 4 0 ++ sectionBytes 1 (toBytes 2 job ++ toBytes 2 1 ++ toBytes 4 0 ++ toBytes 1 d)
set_option maxRecDepth 100000 in
theorem meets_PartitionRequestsAct_making :
    (∀ x ∈ [(0, 0), (1, 0), (1, 2 ^ 55 - 1)], let s := asking State.reset 0x10 3 (createBody x.1 x.2)
      Asks s 0x10 3 (createBody x.1 x.2) ∧ (s.part 3).state = .free ∧ (∀ d, d < 16 → (0x8000).testBit d = true →
        dieAvailable s.health d = true ∧ (received s).ownedByOther 3 d = false)
        ∧ (∀ x ∈ apartPairs s.health, ((0x8000).testBit x.1 && (0x8000).testBit x.2) = false)
        ∧ (received s).badKeys 3 4094 2 = false ∧ s.health.noKeys = false)
    ∧ Asks (asking (withPart .running) 0x11 3 []) 0x11 3 [] ∧ ((withPart .running).part 3).state = .running := by
  simp only [asks_iff]; decide +kernel
def wrapped : List Byte := List.replicate 512 3
set_option maxRecDepth 100000 in
theorem meets_PartitionRequestsAct_keys :
    let s := withPart .created
    let b := toBytes 2 10 ++ toBytes 6 0
    wrapped.length = 512 ∧ Asks (asking s 0x13 3 (b ++ wrapped)) 0x13 3 (b ++ wrapped) ∧ (s.part 3).ownsSlot 10 = true
      ∧ mfind 10 s.keys = none ∧ Asks (asking s 0x14 3 b) 0x14 3 b := by
  simp only [asks_iff]; decide +kernel
set_option maxRecDepth 100000 in
theorem meets_PartitionRequestsAct_configuration : ∀ st ∈ [PartState.created, PartState.stopped],
    let s := withPart st
    let t : State := { s with parts := [(3, { s.part 3 with staged := some { self := some 255 } })] }
    Asks (asking s 0x15 3 (toBytes 8 0)) 0x15 3 (toBytes 8 0) ∧ (s.part 3).state ≠ .free
      ∧ ((((s.part 3).staged.getD (s.part 3).config).sections).flatMap ConfigSection.bytes).length ≤ 8952
      ∧ Asks (asking s 0x15 3 (selfBody 255)) 0x15 3 (selfBody 255)
      ∧ (received (asking s 0x15 3 (selfBody 255))).selfAgrees 3 { self := some 255 } = true
      ∧ Asks (asking t 0x15 3 (rankBody 255 4095)) 0x15 3 (rankBody 255 4095) ∧ (t.part 3).staged = some { self := some 255 }
      ∧ (received (asking t 0x15 3 (rankBody 255 4095))).selfAgrees 3 { self := some 255 } = true := by
  simp only [asks_iff]; decide +kernel
/-- A monitor of two words at physical 0 of the partition, ENTRY 4. -/
def monitorBody : List Byte :=
  toBytes 8 0 ++ toBytes 8 0 ++ toBytes 8 0x10000 ++ toBytes 4 4 ++ toBytes 4 8 ++ toBytes 4 0 ++ toBytes 4 8 ++ toBytes 8 0 ++ toBytes 8 5
set_option maxRecDepth 100000 in
theorem meets_PartitionRequestsAct_monitor :
    let p0 : State := { State.reset with parts := [(0, { state := .created, dies := 1 })] }
    let s := asking p0 0x12 0 monitorBody 1
    Asks s 0x12 0 monitorBody ∧ s.control.arrived.hold = true ∧ (s.part 0).state = .created ∧ (s.part 0).image = none
      ∧ badMonitorHead s.health (s.part 0) monitorBody = false := by
  simp only [asks_iff]; decide +kernel

/-- The mapping of `mapped`, with the partition in a state. -/
def mappedPart (st : PartState) : State := let s := mapped State.reset; { s with parts := [(0, { s.part 0 with state := st, dies := 1 })] }
def rangeBody (va n : Nat) : List Byte := toBytes 8 va ++ toBytes 4 n ++ toBytes 4 0
set_option maxRecDepth 100000 in
theorem meets_TransferRequestsAct_bytes : ∀ st ∈ [PartState.running, PartState.stopped], ∀ x ∈ [(127, 1), (64, 64)],
    let w := asking (mappedPart st) 0x20 0 (rangeBody x.1 x.2 ++ List.replicate x.2 9)
    let r := asking (mappedPart st) 0x21 0 (rangeBody x.1 x.2)
    (w.part 0).sealed_ = false ∧ Asks w 0x20 0 (rangeBody x.1 x.2 ++ List.replicate x.2 9) ∧ MapsLine (received w) 0 .write x.1 walked (leafAt x.1)
      ∧ (leafAt x.1).entry.getLsbD 12 = true ∧ Asks r 0x21 0 (rangeBody x.1 x.2)
      ∧ MapsLine (received r) 0 .read x.1 walked (leafAt x.1) ∧ (leafAt x.1).phys / 64 ∉ r.badLines := by
  simp only [asks_iff]; unfold MapsLine; decide +kernel
/-- A whole page to write, whose entry is dirty or not, and to read. -/
def cleanState (e : Byte) : State := { mappedPart .running with memory := [(2 ^ 40, 0x02), (2 ^ 40 + 1, e)] }
set_option maxRecDepth 200000 in
theorem meets_TransferRequestsAct_ranges : ∀ e ∈ [(0x17 : Byte), 0x07], ∀ x ∈ [(127, 8944), (65535, 1)],
    let w := asking (cleanState e) 0x20 0 (rangeBody x.1 x.2 ++ List.replicate x.2 9)
    let r := asking (cleanState e) 0x21 0 (rangeBody x.1 x.2)
    let k : Walked := { walked with entry := 2 + 256 * e.toNat }
    let l := { leafAt x.1 with entry := BitVec.ofNat 64 (2 + 256 * e.toNat) }
    (w.part 0).sealed_ = false ∧ Asks w 0x20 0 (rangeBody x.1 x.2 ++ List.replicate x.2 9) ∧ MapsLine (received w) 0 .write x.1 k l
      ∧ (physicalOf w.health (w.part 0) (l.ppa + x.2 - 1)).isSome = true ∧ Asks r 0x21 0 (rangeBody x.1 x.2)
      ∧ MapsLine (received r) 0 .read x.1 k l ∧ r.badLines = [] ∧ r.grades = [] := by
  simp only [asks_iff]; unfold MapsLine; decide +kernel
theorem meets_TransferRequestsAct_around :
    WalksAround (received (asking (mappedPart .running) 0x20 0 (rangeBody 127 2 ++ [8, 9]))) 0 127 129 127 walked :=
  ⟨.inr (by decide), fun m h => walk_mapped _ m _ _ (by decide) (by decide +kernel) rfl
    ((congrArg ofBytes (readBytes_agree (fun i h1 _ => h i (by omega)))).trans (by decide +kernel))⟩
def rawBody (poison : Nat) : List Byte :=
  rangeBody 64 1 ++ List.replicate 64 9 ++ toBytes 7 (2 ^ 56 - 1) ++ toBytes 1 poison ++ toBytes 8 0
set_option maxRecDepth 100000 in
theorem meets_TransferRequestsAct_raw (b : Bool) :
    let poison := if b then 1 else 0
    let w := asking (mappedPart .stopped) 0x22 0 (rawBody poison)
    let r := asking (mappedPart .running) 0x23 0 (rangeBody 64 1)
    Asks w 0x22 0 (rawBody poison) ∧ MapsLine (received w) 0 .write 64 walked (leafAt 64) ∧ Asks r 0x23 0 (rangeBody 64 1)
      ∧ MapsLine (received r) 0 .read 64 walked (leafAt 64) := by
  cases b <;> (simp only [asks_iff]; unfold MapsLine; decide +kernel)
def kilnBody : List Byte := toBytes 1 0 ++ toBytes 3 0 ++ toBytes 4 (2 ^ 25 - 64) ++ toBytes 4 1 ++ toBytes 4 0
set_option maxRecDepth 100000 in
theorem meets_TransferRequestsAct_kiln :
    let s := mappedPart .stopped
    let b := kilnBody ++ List.replicate 64 9 ++ toBytes 16 0
    0 < (s.part 0).dieList.length ∧ Asks (asking s 0x24 0 kilnBody) 0x24 0 kilnBody ∧ Asks (asking s 0x25 0 b) 0x25 0 b := by
  simp only [asks_iff]; decide +kernel
set_option maxRecDepth 100000 in
theorem meets_TransferRequestsAct_scan :
    let s := asking (mappedPart .running) 0x34 0 (rangeBody 0 1)
    let t : State := { s with parts := [(0, { s.part 0 with dirtyMap := [0] })] }
    let b := rangeBody (2 ^ 55 - 65536) 1
    Asks s 0x34 0 (rangeBody 0 1) ∧ (s.part 0).dirtyMap = [] ∧ Asks (asking s 0x34 0 b) 0x34 0 b ∧ Asks t 0x34 0 (rangeBody 0 1)
      ∧ 0 / 2 ^ 29 ∈ (t.part 0).dirtyMap ∧ walk (received t) (t.part 0) 0 3 1 (t.part 0).root.toNat = .ok walked
      ∧ walked.entry.testBit 12 = true := by
  simp only [asks_iff]; decide +kernel

def stopBody (n : Nat) : List Byte := toBytes 4 n ++ toBytes 4 0
def importBody (status : Nat) : List Byte :=
  toBytes 4 1 ++ toBytes 4 0 ++ (toBytes 1 1 ++ toBytes 7 0 ++ toBytes 8 0x80 ++ toBytes 8 status ++ toBytes 8 3 ++ toBytes 32 0)
set_option exponentiation.threshold 2000 in
set_option maxRecDepth 100000 in
theorem meets_WorkRequestsAct_post : ∀ st ∈ [PartState.running, PartState.stopped],
    let s := asking (mappedPart st) 0x30 0 (toBytes 8 0x80)
    Asks s 0x30 0 (toBytes 8 0x80)
      ∧ (match (tried (received s) (.request s.control.arrived.header)).post 0 none 0x80 with
         | (none, v) =>
           (match v.readDispatch 0 none 0x80 128 with
            | (.ok bs, w) => !((w.part 0).job (field (ofBytes bs) 59 48)).logged && decide (v.control = (received s).control)
                && decide (w.control = (received s).control) && decide (w.want = none ∧ w.awaited = [])
            | _ => false)
         | _ => false) = true := by
  simp only [asks_iff]; decide +kernel
set_option exponentiation.threshold 2000 in
set_option maxRecDepth 100000 in
theorem meets_WorkRequestsAct_records : ∀ st ∈ [PartState.running, PartState.stopped],
    let m := mappedPart st
    let s := asking { m with memory := cellsOf 0x80 (toBytes 128 (taskRecord 0)) ++ m.memory } 0x30 0 (toBytes 8 0x80)
    let u := received s
    let e := received (asking (withPart st) 0x30 3 (toBytes 8 0x80))
    Asks s 0x30 0 (toBytes 8 0x80) ∧ (u.die 0).cache = [] ∧ walk u (u.part 0) 0x80 3 1 (u.part 0).root.toNat = .ok walked
      ∧ checkLeaf u (u.dispatcher 0 none) .read 0x80 walked = .ok (leafAt 0x80)
      ∧ checkLeaf u (u.dispatcher 0 none) .write 0x80 walked = .ok (leafAt 0x80) ∧ u.grades = [] ∧ u.badLines = []
      ∧ ofBytes (readBytes u.memory 0x80 128) = taskRecord 0 ∧ ((s.part 0).job 0).logged = false
      ∧ (e.die (e.dispatcher 3 none).die).cache = [] ∧ walk e (e.part 3) 0x80 3 1 (e.part 3).root.toNat = .error 5 := by
  simp only [asks_iff]; decide +kernel
def withOpenJob : State :=
  { State.reset with parts := [(3, { state := .running, dies := 4, begun := true, jobs := [{ num := 5, state := .open_ }] })] }
def stopRequests : List (Nat × List Byte) := [(0x31, stopBody 1000), (0x31, stopBody 60000000), (0x32, [])]
set_option maxRecDepth 100000 in
theorem meets_WorkRequestsAct_stops :
    (∀ s ∈ [withPart .running, withOpenJob], ∀ x ∈ stopRequests, Asks (asking s x.1 3 x.2) x.1 3 x.2)
      ∧ ((withPart .running).part 3).jobs = [] ∧ ((withPart .running).part 3).launches = []
      ∧ (withOpenJob.part 3).jobs = [{ num := 5, state := .open_ }] ∧ (withOpenJob.part 3).launches = [] := by
  simp only [asks_iff]; decide +kernel
set_option maxRecDepth 100000 in
theorem meets_WorkRequestsAct_stopped :
    let s := withPart .stopped
    Asks (asking s 0x33 3 []) 0x33 3 [] ∧ (s.part 3).begun = true ∧ (s.part 3).staged = none ∧ (s.part 3).imported = [] ∧ (s.part 3).jobs = []
      ∧ Asks (asking s 0x35 3 (toBytes 4 0)) 0x35 3 (toBytes 4 0) ∧ ((received (asking s 0x35 3 (toBytes 4 0))).exports 3).flatten.length ≤ 8944
      ∧ (∀ status ∈ [2, 2 ^ 64 - 0xF0F9, 0x12, 0x8002], Asks (asking s 0x36 3 (importBody status)) 0x36 3 (importBody status)) := by
  simp only [asks_iff]; decide +kernel

/-! ## What the statements suppose, met: exact numbers -/

/-- The shortest and longest regimes of P8E0, positive and negative. -/
theorem meets_ExactNumbersAgree_regimes : ∀ x ∈ [(0x40, 1), (0x7F, 7), (0x01, 6), (0x81, 7), (0xC0, 1)],
    RunIs (if x.1.testBit 7 then 2 ^ widthBits 0 - x.1 else x.1) (widthBits 0 - 2) x.2 ∧ x.1 < 2 ^ widthBits 0 ∧ x.1 ≠ 0
      ∧ x.1 ≠ 2 ^ (widthBits 0 - 1) := by unfold RunIs; decide
theorem meets_ExactNumbersAgree_values : positRat 0x60 0 = some 2 ∧ positRat 0x20 0 = some (1 / 2) ∧ OnGrid (rat (decodePosit 0x60 0)) := by
  have h : rat (decodePosit 0x60 0) = some 2 := by rw [show decodePosit 0x60 0 = some { num := 16, exp := -3 } from by decide]; norm_num [rat]
  have k : rat (decodePosit 0x20 0) = some (1 / 2) := by
    rw [show decodePosit 0x20 0 = some { num := 32, exp := -6 } from by decide]; norm_num [rat]
  exact ⟨h, k, fun v hv => ⟨2 ^ 497, by rw [h] at hv; obtain rfl := Option.some.inj hv; norm_num [zpow_neg]; field_simp⟩⟩
/-- The magnitude 2 in a target of 8-bit integers: the scale is 5. -/
theorem meets_ExactNumbersAgree_scale : ∃ v ∈ [decodePosit 0x60 0, none], (rat v).map (fun y => |y|) = some 2
    ∧ (2 : ℚ) * (2 : ℚ) ^ (5 : Int) ≤ targetTop (.int 0) ∧ targetTop (.int 0) < 2 * (2 : ℚ) ^ ((5 : Int) + 1) := by
  refine ⟨_, List.mem_cons_self, ?_, ?_, ?_⟩
  · rw [show rat (decodePosit 0x60 0) = some 2 from meets_ExactNumbersAgree_values.1]; simp
  · norm_num [targetTop, intHigh, intBits]
  · norm_num [targetTop, intHigh, intBits]
/-- A table of 4,095 segments of degree 0 in P32, and one with a segment too many. -/
theorem meets_ExactNumbersAgree_table :
    tableValid (tableHeader (1 + 8 * 2 ^ 44 + 4095 * 2 ^ 64)) = true ∧ tableValid (tableHeader (2 + 8 * 2 ^ 44 + 4095 * 2 ^ 64)) = false := by
  decide

/-! ## What the statements suppose, met: the machine as a whole -/

/-- A tile at the word of a subtraction, and one at a filler, of any number. -/
theorem meets_StepRunsDecodedInstruction :
    let i : Instr := .saSub (imm 5) true
    let s := stateWith (({} : Tile).loaded (encode i))
    s.causes = [] ∧ s.agenda = [] ∧ s.cur < 1024 ∧ s.here.canIssue = true ∧ (decodeWords s.here.start.codeAt.1).map Prod.fst = some i
      ∧ (∀ x ∈ i.parts, x.1.last = true) ∧ (s.tile 0).canIssue = true ∧ State.reset.canCycle = false := by decide +kernel
theorem meets_StepRunsDecodedInstruction_queues :
    let c : Cause := { part := 0, job := 0, addr := 0, what := .rollback .taskFault }
    let h : Happening := { wait := 5, message := none, what := .filler }
    ({ State.reset with causes := [c] } : State).causes = c :: [] ∧ ({ State.reset with agenda := [h] } : State).agenda = h :: [] := by decide
/-- A spawned task that has still to start. -/
theorem meets_StepRunsDecodedInstruction_starting :
    let s := stateWith { tileWith [] [] with phase := .spawning 4096 [] }
    s.causes = [] ∧ s.agenda = [] ∧ s.cur < 1024 ∧ s.here.starting = true ∧ s.startAgain ≠ .early ∧ State.reset.here.starting = false := by
  decide +kernel
theorem meets_MemoryStaysCanonical :
    atFiller.want = none ∧ memoryWf (mapped atFiller).memory = true ∧ (match step atFiller with | .next _ => true | _ => false) = true := by decide +kernel

end Sys2Proof.Tests
end

section
/-! PROOF. Every step keeps the memory canonical and leaves no mark of an access in the making (O59). `Tidy` says both of a state, each where
it is asked for; one lemma per operation of the model says that the operation keeps them, in the order in which the model defines them.
An operation that may find an answer of another module lacking keeps the memory alone, and `State.attempt`, which runs it, keeps both. -/

namespace Sys2Proof.Machine

open Host (Outcome)

/-- A state whose memory is canonical, where `P` is asked, and in which no access is marked as lacking, where `Q` is. An operation that may
mark an access is said to keep it for the memory alone, with `False` for `Q`; every other one for both. -/
def Tidy (P Q : Prop) (s : State) : Prop := (P → memoryWf s.memory = true) ∧ (Q → s.want = none)

section
variable {P Q : Prop} {s t : State}

/-! ### What keeps both parts -/

theorem Tidy.of_same (h : Tidy P Q s) (hm : t.memory = s.memory) (hw : t.want = s.want) : Tidy P Q t := by
  unfold Tidy
  rw [hm, hw]
  exact h

/-- An operation that only reads the memory. -/
theorem Tidy.of_memory (h : Tidy P Q s) (hm : t.memory = s.memory) : Tidy P False t := ⟨fun p => hm ▸ h.1 p, False.elim⟩

/-- An operation that writes the memory and marks no access. -/
theorem Tidy.of_canonical (h : Tidy P Q s) (hm : memoryWf s.memory = true → memoryWf t.memory = true) (hw : t.want = s.want) :
    Tidy P Q t := ⟨fun p => hm (h.1 p), fun q => hw.trans (h.2 q)⟩

theorem Tidy.forMemory (h : Tidy P Q s) : Tidy P False s := h.of_memory rfl

/-- The state of a result that names it. -/
theorem Tidy.snd {α : Type} {r : α × State} {x : α} (h : Tidy P Q r.2) (e : r = (x, t)) : Tidy P Q t := by
  subst e
  exact h

theorem Tidy.ite {c : Prop} [Decidable c] (hs : Tidy P Q s) (ht : Tidy P Q t) : Tidy P Q (if c then s else t) := by
  split
  · exact hs
  · exact ht

/-- A fold of an operation that keeps both. -/
theorem Tidy.foldl {α : Type} {f : State → α → State} (hf : ∀ s a, Tidy P Q s → Tidy P Q (f s a)) (xs : List α) (h : Tidy P Q s) :
    Tidy P Q (xs.foldl f s) := by
  induction xs generalizing s with
  | nil => exact h
  | cons x xs ih => exact ih (hf s x h)

/-! ### Updates of single parts, and the error log -/

theorem Tidy.setTile (h : Tidy P Q s) (n : Nat) (x : Tile) : Tidy P Q (s.setTile n x) := h
theorem Tidy.setHere (h : Tidy P Q s) (x : Tile) : Tidy P Q (s.setHere x) := h
theorem Tidy.setPort (h : Tidy P Q s) (n : Nat) (x : Port) : Tidy P Q (s.setPort n x) := h
theorem Tidy.nextFree (h : Tidy P Q s) : Tidy P Q s.nextFree := h
theorem Tidy.mapPart (h : Tidy P Q s) (n : Nat) (f : Partition → Partition) : Tidy P Q (s.mapPart n f) := h
theorem Tidy.mapTile (h : Tidy P Q s) (n : Nat) (f : Tile → Tile) : Tidy P Q (s.mapTile n f) := h
theorem Tidy.mapHere (h : Tidy P Q s) (f : Tile → Tile) : Tidy P Q (s.mapHere f) := h
theorem Tidy.mapDie (h : Tidy P Q s) (n : Nat) (f : Die → Die) : Tidy P Q (s.mapDie n f) := h
theorem Tidy.addCause (h : Tidy P Q s) (c : Cause) : Tidy P Q (s.addCause c) := h
theorem Tidy.logModule (h : Tidy P Q s) (code info addr part : Nat) : Tidy P Q (s.logModule code info addr part) := h
theorem Tidy.logTile (h : Tidy P Q s) (code info addr part tile : Nat) : Tidy P Q (s.logTile code info addr part tile) := h
theorem Tidy.logDie (h : Tidy P Q s) (code info addr part die : Nat) : Tidy P Q (s.logDie code info addr part die) := h
theorem Tidy.strand (h : Tidy P Q s) (qs : List Awaited) : Tidy P Q (s.strand qs) := Tidy.ite h h

/-! ### Requests to other modules -/

theorem Tidy.sendFlit {f : Flit} (h : Tidy P Q s) (e : s.sendFlit f = some t) : Tidy P Q t :=
  h.of_same (State.sendFlit_memory e) (State.sendFlit_want e).1

theorem Tidy.request {f : Flit} {n : Nat} (h : Tidy P Q s) (e : s.request f = some (n, t)) : Tidy P Q t :=
  h.of_same (State.request_memory e) (State.request_want e).1

theorem Tidy.notifyPoison (h : Tidy P Q s) (part job va : Nat) : Tidy P Q (s.notifyPoison part job va).2 :=
  h.of_same (s.notifyPoison_memory ..) (State.notifyEach_want ..)

theorem Tidy.ask (h : Tidy P Q s) (q : Awaited) : Tidy P Q (s.ask q).2 := h.of_same (s.ask_memory q) (s.ask_want q)

theorem Tidy.giveBack (h : Tidy P Q s) (q : Awaited) (a : Answer) : Tidy P Q (s.giveBack q a) := by
  unfold State.giveBack
  split
  · split
    · dsimp only
      split <;> exact h.ask _
    · exact h
  · exact h

theorem Tidy.leaveBehind (h : Tidy P Q s) (q : Awaited) : Tidy P Q (s.leaveBehind q) := by
  unfold State.leaveBehind
  split
  · exact h
  · exact h
  · exact h.giveBack ..

theorem Tidy.abandon (h : Tidy P Q s) (which : Awaited → Bool) : Tidy P Q (s.abandon which) := by
  unfold State.abandon
  split
  · exact Tidy.foldl (fun _ q k => k.leaveBehind q) _ h
  · exact h

theorem Tidy.forget (h : Tidy P Q s) (a : Asker) : Tidy P Q (s.forget a) := h.abandon _
theorem Tidy.forgetFills (h : Tidy P Q s) (tile : Nat) : Tidy P Q (s.forgetFills tile) := h.abandon _
theorem Tidy.forgetStarts (h : Tidy P Q s) (part : Nat) : Tidy P Q (s.forgetStarts part) := h.abandon _

theorem Tidy.answerAwaited (h : Tidy P Q s) (tag : Nat) (a : Answer) : Tidy P Q (s.answerAwaited tag a) := by
  unfold State.answerAwaited
  split
  · exact h
  · next q _ =>
    split
    · exact Tidy.giveBack (s := { s with awaited := s.awaited.filter (fun q => !q.waitsFor tag) }) h q a
    · exact h

/-- What a trial marks is known to the trial alone: it has to keep the memory, and its outcome keeps both. -/
theorem Tidy.attempt {a : Asker} {f : State → State} (h : Tidy P Q s)
    (hf : ∀ u, Tidy P False u → Tidy P False (f u)) : Tidy P Q ((s.attempt a f).state s) := by
  obtain ⟨-, e⟩ | ⟨q, -, -, e⟩ | e := s.attempt_cases a f <;> rw [e]
  · refine Tidy.forget (s := { f { s with want := none, asker := a } with want := s.want, asker := s.asker }) ⟨?_, h.2⟩ a
    exact (hf { s with want := none, asker := a } (h.of_memory (t := { s with want := none, asker := a }) rfl)).1
  · exact h.ask q
  · exact h

theorem Tidy.made {a : Asker} {f : State → State} (h : Tidy P Q s) (hf : ∀ u, Tidy P False u → Tidy P False (f u))
    (e : s.attempt a f = .made t) : Tidy P Q t := by
  have k := h.attempt (a := a) hf
  rw [e] at k
  exact k

theorem Tidy.asked {a : Asker} {f : State → State} (h : Tidy P Q s) (hf : ∀ u, Tidy P False u → Tidy P False (f u))
    (e : s.attempt a f = .asked t) : Tidy P Q t := by
  have k := h.attempt (a := a) hf
  rw [e] at k
  exact k

/-! ### The memory -/

theorem Tidy.keepEntry (h : Tidy P Q s) (w : Who) (va : Nat) (k : Walked) : Tidy P Q (s.keepEntry w va k) := by
  unfold State.keepEntry
  split <;> exact h

theorem Tidy.entryFor (h : Tidy P Q s) (w : Who) (va : Nat) : Tidy P Q (s.entryFor w va).2 := by
  unfold State.entryFor
  dsimp only
  repeat' split
  all_goals exact h

theorem Tidy.translate (h : Tidy P Q s) (w : Who) (r : Right) (va : Nat) : Tidy P Q (translate s w r va).2 := by
  unfold Machine.translate
  split
  · next e => exact (h.entryFor ..).snd e
  · next e =>
    have h1 := (h.entryFor ..).snd e
    split
    · exact h1
    · exact Tidy.ite (h1.keepEntry ..) h1

theorem Tidy.setDirty (h : Tidy P Q s) (w : Who) (va : Nat) (l : Leaf) : Tidy P Q (s.setDirty w va l) := by
  refine h.of_canonical (memoryWf_setDirty s w va l) ?_
  unfold State.setDirty
  split <;> rfl

theorem Tidy.readLine (h : Tidy P Q s) (l : Leaf) (va : Nat) : Tidy P Q (s.readLine l va).2 := by
  unfold State.readLine
  dsimp only
  split <;> exact h

theorem Tidy.readHere (h : Tidy P Q s) (l : Leaf) (a n : Nat) : Tidy P Q (s.readHere l a n).2 := h.readLine ..

theorem Tidy.storeLine (h : Tidy P Q s) (l : Leaf) (va : Nat) (mask : List Bool) (bs : List Byte) (poison : Bool)
    (glaze : Option Nat) : Tidy P Q (s.storeLine l va mask bs poison glaze) :=
  h.of_canonical (memoryWf_storeLine s l va mask bs poison glaze) rfl

theorem Tidy.logLeaf (h : Tidy P Q s) (w : Who) (va : Nat) : Tidy P Q (logLeaf s w va).2 := by
  unfold Machine.logLeaf
  split
  · next e =>
    have h1 := (h.translate ..).snd e
    split <;> exact h1
  · next e => exact (h.translate ..).snd e

theorem Tidy.writeLog {w : Who} {ps : List (Nat × Nat)} {bs : List Byte} (h : Tidy P Q s) (e : writeLog s w ps bs = .ok t) :
    Tidy P Q t := by
  induction ps generalizing s bs with
  | nil => cases e; exact h
  | cons p ps ih =>
    unfold Machine.writeLog at e
    split at e
    · cases e
    · next e1 => exact ih ((((h.logLeaf ..).snd e1).setDirty ..).storeLine ..) e

theorem Tidy.appendLog (h : Tidy P Q s) (w : Who) (job : Nat) (bs : List Byte) : Tidy P Q (s.appendLog w job bs) := by
  unfold State.appendLog
  dsimp only
  split
  · exact h
  · split
    · exact h
    · split
      · exact h
      · next e => exact (h.writeLog e).mapPart ..

theorem Tidy.logLine (h : Tidy P Q s) (w : Who) (key home : Nat) (bs : List Byte) : Tidy P Q (s.logLine w key home bs) := by
  unfold State.logLine
  dsimp only
  split
  · exact h
  · split
    · exact h
    · exact (h.mapPart ..).appendLog ..

theorem Tidy.writePiece (h : Tidy P Q s) (w : Who) (l : Leaf) (a : Nat) (mask : List Bool) (bs : List Byte) (poison : Bool)
    (glaze : Option Nat) : Tidy P Q (s.writePiece w l a mask bs poison glaze) :=
  ((h.setDirty ..).logLine ..).storeLine ..

theorem Tidy.writeMapped (h : Tidy P Q s) (w : Who) (poison : Bool) (ls : List PageLeaf) (bs : List Byte) :
    Tidy P Q (s.writeMapped w poison ls bs) := by
  induction ls generalizing s bs with
  | nil => exact h
  | cons x xs ih => exact ih (h.writePiece ..) _

theorem Tidy.readMapped (h : Tidy P Q s) (ls : List PageLeaf) : Tidy P Q (s.readMapped ls).2 := by
  induction ls generalizing s with
  | nil => exact h
  | cons x xs ih => exact ih (h.readHere ..)

theorem Tidy.writeKiln (h : Tidy P Q s) (w : Who) (die off : Nat) (bs : List Byte) (poison : Bool) :
    Tidy P Q (s.writeKiln w die off bs poison) :=
  (Tidy.foldl (fun _ _ k => k.logLine ..) _ h).mapDie ..

theorem Tidy.mapPages (h : Tidy P Q s) (w : Who) (r : Right) (as : List (Nat × Nat)) : Tidy P Q (s.mapPages w r as).2 := by
  induction as generalizing s with
  | nil => exact h
  | cons a as ih =>
    unfold State.mapPages
    split
    · next e => exact (h.translate ..).snd e
    · next e =>
      have h1 := (h.translate ..).snd e
      dsimp only
      split
      · exact h1
      · split
        · next e2 => exact (ih h1).snd e2
        · next e2 => exact (ih h1).snd e2

theorem Tidy.checkPages (h : Tidy P Q s) (w : Who) (r : Right) (as : List (Nat × Nat)) : Tidy P Q (s.checkPages w r as).2 := by
  unfold State.checkPages
  split
  · next e => exact (h.mapPages ..).snd e
  · next e => exact (h.mapPages ..).snd e

/-! ### Accesses of other modules' memory -/

theorem Tidy.askHome {w : Who} {l : Leaf} {c : Cargo} {n : Nat} (h : Tidy P Q s) (e : s.askHome w l c = some (n, t)) :
    Tidy P Q t := by
  unfold State.askHome at e
  split at e
  · exact h.request e
  · cases e

theorem Tidy.await (h : Tidy P False s) (q : Awaited) : Tidy P False (s.await q).2 := h.of_memory (s.await_memory q)

/-- An access without a job goes to no other module (log 52), so none is marked. -/
theorem Tidy.awaitHome (h : Tidy P Q s) {w : Who} (hw : Q → w.job = none) (l : Leaf) (c : Cargo) :
    Tidy P Q (s.awaitHome w l c).2 := by
  refine ⟨fun p => (s.awaitHome_memory w l c).symm ▸ h.1 p, fun q => ?_⟩
  have hj : s.homeOf w l = none := by simp [State.homeOf, hw q]
  unfold State.awaitHome
  rw [hj]
  exact h.2 q

theorem Tidy.writePieces (h : Tidy P Q s) {w : Who} (hw : Q → w.job = none) (poison : Bool) (ps : List (Nat × Nat))
    (bs : List Byte) : Tidy P Q (s.writePieces w poison ps bs).2 := by
  induction ps generalizing s bs with
  | nil => exact h
  | cons p ps ih =>
    unfold State.writePieces
    split
    · next e => exact (h.translate ..).snd e
    · next e =>
      have h1 := (h.translate ..).snd e
      split
      · split
        · next e2 =>
          have h2 := (h1.awaitHome hw ..).snd e2
          split
          · exact h2
          · exact ih h2 _
        · next e2 => exact (h1.awaitHome hw ..).snd e2
      · exact ih (h1.writePiece ..) _

theorem Tidy.writeVirtual (h : Tidy P Q s) {w : Who} (hw : Q → w.job = none) (va : Nat) (bs : List Byte) (poison : Bool) :
    Tidy P Q (s.writeVirtual w va bs poison).2 := h.writePieces hw ..

theorem Tidy.writeUnawaited (h : Tidy P Q s) (w : Who) (va : Nat) (bs : List Byte) : Tidy P Q (s.writeUnawaited w va bs) := by
  unfold State.writeUnawaited
  split
  · next e => exact (h.translate ..).snd e
  · next e =>
    have h1 := (h.translate ..).snd e
    dsimp only
    split
    · split
      · next e2 => exact (h1.askHome e2).strand _
      · exact h1
    · exact h1.writePiece ..

theorem Tidy.awaitNotifies (h : Tidy P False s) (w : Who) (as : List Nat) : Tidy P False (s.awaitNotifies w as) :=
  h.of_memory (State.awaitNotifies_memory w as s)

theorem Tidy.readVirtual (h : Tidy P False s) (w : Who) (r : Right) (va n : Nat) : Tidy P False (s.readVirtual w r va n).2 :=
  h.of_memory (s.readVirtual_memory w r va n)
end

section
variable {P Q : Prop} {s t : State}

/-! ### Events, tasks and the matrix engine -/

theorem Tidy.fold (h : Tidy P Q s) (n : Nat) (d : Word) : Tidy P Q (s.fold n d) := h

theorem Tidy.rollTask (h : Tidy P Q s) (n : Nat) (c : RollbackCause) : Tidy P Q (s.rollTask n c) := by
  unfold State.rollTask
  split
  · exact h
  · split <;> exact h

theorem Tidy.logCopyFault (h : Tidy P Q s) (n : Nat) (e : Event) : Tidy P Q (s.logCopyFault n e) := by
  unfold State.logCopyFault
  split <;> exact h

theorem Tidy.snapshotEvent (h : Tidy P Q s) (e : Event) : Tidy P Q (s.snapshotEvent e) := by
  unfold State.snapshotEvent
  split <;> exact h

theorem Tidy.doubleFault (h : Tidy P Q s) (e : Event) : Tidy P Q (s.doubleFault e) :=
  ((h.logTile ..).mapHere _).rollTask ..

theorem Tidy.takeEvent (h : Tidy P Q s) (e : Event) (epc : Word) : Tidy P Q (takeEvent e epc s) := by
  have h1 := (h.logCopyFault s.cur e).snapshotEvent e
  unfold Machine.takeEvent
  dsimp only
  split
  · exact h1.doubleFault e
  · split
    · exact (h1.mapHere ..).rollTask ..
    · exact h1.mapHere ..

theorem Tidy.terminate (h : Tidy P Q s) (n : Nat) : Tidy P Q (s.terminate n) := (h.mapTile ..).rollTask ..

theorem Tidy.returnFromEvent (h : Tidy P Q s) : Tidy P Q (returnFromEvent s) := by
  unfold Machine.returnFromEvent
  dsimp only
  refine Tidy.ite (Tidy.addCause (Tidy.setHere (Tidy.strand (h.setHere _) _) _) _) (Tidy.ite ((h.setHere _).terminate _) (h.setHere _))

theorem Tidy.retireMatrix (h : Tidy P Q s) (n : Nat) (c : MatrixCmd) : Tidy P Q (s.retireMatrix n c) := by
  unfold State.retireMatrix
  dsimp only
  split <;> exact h

theorem Tidy.matrixTick (h : Tidy P Q s) (n : Nat) (before : Tile) : Tidy P Q (s.matrixTick n before) := by
  unfold State.matrixTick
  dsimp only
  have h1 : Tidy P Q (match (s.tile n).matrix.channel with
      | some (c, some left) =>
        if left ≤ 1 then s.retireMatrix n c
        else s.setTile n ({ s.tile n with matrix :=
          { (s.tile n).matrix with channel := some (c, some (left - 1)) } }.firstCount c left)
      | _ => s) := by
    split
    · exact Tidy.ite (h.retireMatrix ..) h
    · exact h
  split <;> exact Tidy.setTile h1 ..

/-! ### Copies -/

theorem Tidy.readMemory (h : Tidy P Q s) (w : Who) (a n : Nat) (glaze : Bool) : Tidy P Q (s.readMemory w a n glaze).2 := by
  unfold State.readMemory
  dsimp only
  split
  · next e => exact (h.translate ..).snd e
  · next e =>
    have h1 := (h.translate ..).snd e
    split
    · split
      · exact h1
      · next e2 => exact h1.askHome e2
    · dsimp only
      split
      · exact (h1.readLine ..).notifyPoison ..
      · exact h1.readLine ..

theorem Tidy.readSource (h : Tidy P Q s) (n : Nat) (k : Task) (c : CopyCmd) (from_ len : Nat) :
    Tidy P Q (s.readSource n k c from_ len).2 := by
  unfold State.readSource
  dsimp only
  split
  · exact h
  · split
    · exact h
    · exact h
    · exact h
    · exact h.readMemory ..
    · exact h
    · split
      · exact h
      · next e => exact h.request e

theorem Tidy.readGrain (h : Tidy P Q s) (n : Nat) (k : Task) (c : CopyCmd) (m : ChunkMove) (g : Nat) (ps : List Piece) :
    Tidy P Q (s.readGrain n k c m g ps).2 := by
  unfold State.readGrain
  dsimp only
  split
  · exact h
  · split
    · next e => exact (h.readSource ..).snd e
    · next e => exact (h.readSource ..).snd e

theorem Tidy.readGrains (h : Tidy P Q s) (n : Nat) (k : Task) (c : CopyCmd) (parts i : Nat) (m : ChunkMove)
    (gs : SMap (List Piece)) : Tidy P Q (s.readGrains n k c parts i m gs).2.2 := by
  induction gs generalizing s i m with
  | nil => exact h
  | cons g gs ih =>
    unfold State.readGrains
    split
    · split
      · next e => exact (h.readGrain ..).snd e
      · next e => exact ih ((h.readGrain ..).snd e) ..
    · exact ih h ..

theorem Tidy.keepGrains (h : Tidy P Q s) (n : Nat) (k : Task) (c : CopyCmd) (vs : List Nat) (kept : SMap GrainRead)
    (saving : List Ask) : Tidy P Q (s.keepGrains n k c vs kept saving).2.2 := by
  induction vs generalizing s kept saving with
  | nil => exact h
  | cons v vs ih =>
    unfold State.keepGrains
    split
    · next e => exact ih ((h.readSource ..).snd e) ..
    · next e =>
      have h1 := (h.readSource ..).snd e
      split <;> exact ih h1 ..

theorem Tidy.addCell (h : Tidy P Q s) (w : Who) (die off : Nat) (image : List Byte) (poison : Bool) :
    Tidy P Q (s.addCell w die off image poison) := h.writeKiln ..

theorem Tidy.lineRuns (h : Tidy P Q s) (w : Who) (l : Leaf) (va : Nat) (poison : Bool) (glaze : Option Nat)
    (rs : List (Nat × List Byte)) : Tidy P Q (s.lineRuns w l va poison glaze rs) :=
  Tidy.foldl (fun _ _ k => k.writePiece ..) _ h

theorem Tidy.performPortion (h : Tidy P Q s) (n : Nat) (k : Task) (c : CopyCmd) (x : Portion) :
    Tidy P Q (s.performPortion n k c x).2 := by
  unfold State.performPortion
  dsimp only
  split
  · exact h
  · split
    · exact h
    · exact h
    · exact h
    · exact Tidy.foldl (fun _ _ k => Tidy.ite (k.addCell ..) (k.writeKiln ..)) _ h
    · split
      · next e => exact (h.translate ..).snd e
      · next e =>
        have h1 := (h.translate ..).snd e
        split
        · split
          · exact h
          · next e2 => exact h1.askHome e2
        · exact h1.lineRuns ..
    · split
      · exact h
      · next e => exact h.request e

theorem Tidy.lineWritten (h : Tidy P Q s) (m : ChunkMove) (ps : List Portion) (x : Portion) : Tidy P Q (s.lineWritten m ps x) := by
  unfold State.lineWritten
  split
  · split <;> exact h
  · exact h

theorem Tidy.portionDone (h : Tidy P Q s) (n : Nat) (k : Task) (c : CopyCmd) (m : ChunkMove) (i : Nat) (place : Place) (x : Portion) :
    Tidy P Q (s.portionDone n k c m i place x) := Tidy.ite h h

theorem Tidy.writePortions (h : Tidy P Q s) (n : Nat) (k : Task) (c : CopyCmd) (ps : List Portion) (m : ChunkMove)
    (xs : List (Nat × Portion)) : Tidy P Q (s.writePortions n k c ps m xs).2.2 := by
  induction xs generalizing s m with
  | nil => exact h
  | cons x xs ih =>
    unfold State.writePortions
    split
    · next e => exact (h.performPortion ..).snd e
    · next e =>
      have h1 := ((h.performPortion ..).snd e).portionDone n k c m x.1
      exact ih (Tidy.ite ((h1 ..).lineWritten ..) (h1 ..)) _

theorem Tidy.countParts (h : Tidy P Q s) (n : Nat) (k : Task) (c : CopyCmd) (ps : List Portion) (rest : List Nat) :
    Tidy P Q (s.countParts n k c ps rest).2 := by
  induction rest generalizing s with
  | nil => exact h
  | cons p rest ih =>
    unfold State.countParts
    dsimp only
    split
    · exact h
    · split
      · exact h
      · next e => exact ih (h.request e)
    · split
      · exact ih (h.mapTile ..)
      · exact h

theorem Tidy.translationFault (h : Tidy P Q s) (n : Nat) (k : Task) (c : CopyCmd) (chunk : Nat) (us : List Nat) :
    Tidy P Q (s.translationFault n k c chunk us).2 := by
  have check (r : Except Nat (Place × Nat)) (w : Who) (right : Right) (len : Nat) {s : State} (h : Tidy P Q s) :
      Tidy P Q ((match r with
        | .ok (.memory, off) =>
          match s.checkPages w right (pagePieces off len) with
          | (some f, s1) => (some (CopyStop.fault (BitVec.ofNat 64 f.addr) f.cause), s1)
          | (none, s1) => (none, s1)
        | _ => (none, s)) : Option CopyStop × State).2 := by
    split
    · split
      · next e => exact (h.checkPages ..).snd e
      · next e => exact (h.checkPages ..).snd e
    · exact h
  induction us generalizing s with
  | nil => exact h
  | cons u us ih =>
    unfold State.translationFault
    dsimp only
    split
    · next e => exact (check _ _ _ _ h).snd e
    · next e =>
      have h1 := (check _ _ _ _ h).snd e
      split
      · next e2 => exact (check _ _ _ _ h1).snd e2
      · next e2 => exact ih ((check _ _ _ _ h1).snd e2)

theorem Tidy.startFault (h : Tidy P Q s) (n : Nat) (k : Task) (c : CopyCmd) (chunk : Nat) (us : List Nat) :
    Tidy P Q (s.startFault n k c chunk us).2 := by
  unfold State.startFault
  split
  · exact h
  · exact h.translationFault ..

theorem Tidy.leaveChunk (h : Tidy P Q s) (n id chunk : Nat) (suspends : Bool) : Tidy P Q (s.leaveChunk n id chunk suspends) := by
  unfold State.leaveChunk
  split
  · refine Tidy.strand ?_ _
    split
    · exact h.countParts ..
    · exact h
  · exact h

theorem Tidy.stopLooks (h : Tidy P Q s) (n : Nat) : Tidy P Q (s.stopLooks n) := by
  unfold State.stopLooks
  split
  · split <;> exact h
  · exact h

theorem Tidy.stopCopy (h : Tidy P Q s) (n id chunk : Nat) (e : CopyStop) : Tidy P Q (s.stopCopy n id chunk e) := by
  have h1 (b : Bool) := (h.leaveChunk n id chunk b).mapTile n (fun t => t.stopCopy id chunk e)
  exact Tidy.ite ((h1 _).stopLooks n) (h1 _)

theorem Tidy.landChunk (h : Tidy P Q s) (n id chunk : Nat) : Tidy P Q (s.landChunk n id chunk) := by
  unfold State.landChunk
  split
  · next c k _ _ =>
    have h1 : Tidy P Q (if (c.semv && !(c.move chunk).counted) = true then
        s.countParts n k c (c.portions (c.move chunk)) (partsOf (c.portions (c.move chunk))) else ([], s)).2 := by
      split
      · exact h.countParts ..
      · exact h
    exact Tidy.ite (Tidy.ite (h1.mapTile ..) (h1.mapTile ..)) h
  · exact h

theorem Tidy.writeNamed (h : Tidy P Q s) (n : Nat) (k : Task) (c : CopyCmd) (m : ChunkMove) (ps : List Portion)
    (todo : List (Nat × Portion)) : Tidy P Q (s.writeNamed n k c m ps todo) := by
  have h1 := (h.nextFree.mapTile n (fun t => t.setCopy (c.setMove m))).writePortions n k c ps m todo
  unfold State.writeNamed
  dsimp only
  split
  · exact (h1.mapTile ..).stopCopy ..
  · exact h1.mapTile ..

theorem Tidy.writeOver (h : Tidy P Q s) (n : Nat) (k : Task) (c : CopyCmd) (m : ChunkMove) (ps : List Portion)
    (todo : List (Nat × Portion)) : Tidy P Q (s.writeOver n k c m ps todo) := by
  unfold State.writeOver
  exact Tidy.ite ((h.keepGrains ..).mapTile ..) ((h.keepGrains ..).writeNamed ..)

theorem Tidy.writeParts (h : Tidy P Q s) (n : Nat) (k : Task) (c : CopyCmd) (m : ChunkMove) (parts : Nat) :
    Tidy P Q (s.writeParts n k c m parts) := by
  unfold State.writeParts
  dsimp only
  split
  · exact (h.mapTile ..).stopCopy ..
  · exact Tidy.ite (h.writeOver ..) (h.writeNamed ..)

theorem Tidy.stepChunk (h : Tidy P Q s) (n : Nat) (c : CopyCmd) (chunk parts : Nat) : Tidy P Q (s.stepChunk n c chunk parts) := by
  have h0 := h.mapTile n (fun t => t.performBefore c.record.banks)
  unfold State.stepChunk
  dsimp only
  split
  · exact h0
  · next k _ =>
    have h1 := h0.readGrains n k c parts 0 ((c.move chunk).begun c.record) (c.sourceGrains chunk)
    split
    · next e => rw [e] at h1; exact (Tidy.mapTile h1 ..).stopCopy ..
    · next e => rw [e] at h1; exact (Tidy.writeParts h1 ..).mapTile ..

theorem Tidy.startChunks (h : Tidy P Q s) (n id chunk fuel : Nat) : Tidy P Q (s.startChunks n id chunk fuel) := by
  induction fuel generalizing s with
  | zero => exact h
  | succ fuel ih =>
    unfold State.startChunks
    split
    · split
      · dsimp only
        split
        · exact ih (h.mapTile ..)
        · split
          · next e => exact ((h.startFault ..).snd e).stopCopy ..
          · next e => exact ih (((h.startFault ..).snd e).mapTile ..)
      · exact h
    · exact h

theorem Tidy.moveChunk (h : Tidy P Q s) (n id chunk parts : Nat) (land : Bool) : Tidy P Q (s.moveChunk n id chunk parts land) := by
  have h1 := h.startChunks n id chunk 257
  unfold State.moveChunk
  dsimp only
  split
  · exact Tidy.ite (Tidy.ite ((h1.stepChunk ..).landChunk ..) (h1.stepChunk ..)) h1
  · exact h1

theorem Tidy.tellHome (h : Tidy P Q s) (n id chunk : Nat) (i : Option Nat) : Tidy P Q (s.tellHome n id chunk i) := by
  unfold State.tellHome
  split
  · dsimp only
    split
    · split
      · next e => exact (h.request e).mapTile ..
      · exact h
    · exact h
  · exact h

theorem Tidy.answerCopy {n tag : Nat} {a : Answer} (h : Tidy P Q s) (e : s.answerCopy n tag a = some t) : Tidy P Q t := by
  unfold State.answerCopy at e
  obtain ⟨x, -, rfl⟩ := Option.map_eq_some_iff.1 e
  split
  · exact h.stopCopy ..
  · exact ((h.mapTile ..).tellHome ..).landChunk ..

theorem Tidy.leaveRedone (h : Tidy P Q s) (n : Nat) : Tidy P Q (s.leaveRedone n) :=
  Tidy.foldl (fun _ _ k => Tidy.foldl (fun _ _ k => k.leaveChunk ..) _ k) _ h

theorem Tidy.moveChunks (h : Tidy P Q s) (n id : Nat) (chunks : List Nat) :
    Tidy P Q (chunks.foldl (fun s i => s.moveChunk n id i allParts true) s) :=
  Tidy.foldl (fun _ _ k => k.moveChunk ..) _ h

theorem Tidy.peerTick (h : Tidy P Q s) (n m : Nat) (c : CopyCmd) : Tidy P Q (s.peerTick n m c) :=
  Tidy.ite (Tidy.ite (h.moveChunks ..) h) (h.mapTile ..)

theorem Tidy.copyTick (h : Tidy P Q s) (n : Nat) : Tidy P Q (s.copyTick n) := by
  unfold State.copyTick
  dsimp only
  split
  · exact h
  · split
    · split
      · refine Tidy.mapTile (Tidy.foldl (fun s c k => ?_) _ (Tidy.foldl (fun _ c k => k.moveChunks n c.id _) _ (h.setTile ..))) ..
        split
        · exact k.peerTick ..
        · exact k
      · exact h
    · exact h

theorem Tidy.engineTick (h : Tidy P Q s) (n : Nat) : Tidy P Q (s.engineTick n) :=
  (((h.setTile ..).copyTick n).matrixTick ..).mapTile ..
end

section
variable {P Q : Prop} {s t : State}

/-! ### Code objects -/

theorem Tidy.readCodeLine (h : Tidy P False s) (w : Who) (line : Nat) : Tidy P False (s.readCodeLine w line).2 := by
  unfold State.readCodeLine
  split
  · exact h
  · split
    · next e => exact (h.readVirtual ..).snd e
    · next e =>
      have h1 := (h.readVirtual ..).snd e
      split <;> exact h1

theorem Tidy.readObject (h : Tidy P False s) (w : Who) (addr : Nat) : Tidy P False (s.readObject w addr).2 := by
  have one {s : State} (n : Nat) (h : Tidy P False s) : Tidy P False
      (match s.readVirtual w .execute addr n with
        | (.error f, s1) => ((.error (10 + 2 ^ 8 * f.cause, f.addr), s1) : Except (Nat × Nat) (List Byte × Nat) × State)
        | (.ok g, s1) => (match g.poison with | some a => .error (11, a) | none => .ok (g.bytes, g.level), s1)).2 := by
    split
    · next e => exact (h.readVirtual ..).snd e
    · next e => exact (h.readVirtual ..).snd e
  unfold State.readObject
  dsimp only
  split
  · next e => exact (one _ h).snd e
  · next e => exact one _ ((one _ h).snd e)

theorem Tidy.checkObject (h : Tidy P False s) (w : Who) (addr : Nat) : Tidy P False (s.checkObject w addr).2 := by
  unfold State.checkObject
  split
  · next e => exact (h.readObject ..).snd e
  · next e =>
    have h1 := (h.readObject ..).snd e
    split <;> exact h1

theorem Tidy.loadFault (h : Tidy P Q s) (part : Nat) (e : Nat × Nat) : Tidy P Q (s.loadFault part e) := h

theorem Tidy.admitObject (h : Tidy P False s) (part : Nat) (job : Option Nat) (addr : Nat) :
    Tidy P False (s.admitObject part job addr).2 := by
  unfold State.admitObject
  split
  · exact h
  · split
    · next e => exact ((h.checkObject ..).snd e).loadFault ..
    · next e => exact ((h.checkObject ..).snd e).mapPart ..

theorem Tidy.moveUse (h : Tidy P Q s) (w : Who) (l : Leaf) (cell : Nat) (up : Bool) : Tidy P Q (s.moveUse w l cell up) :=
  ((h.readLine ..).setDirty ..).storeLine ..

theorem Tidy.addUse (h : Tidy P False s) (part job cell : Nat) (up : Bool) : Tidy P False (s.addUse part job cell up) := by
  unfold State.addUse
  dsimp only
  split
  · next e => exact (h.translate ..).snd e
  · next e =>
    have h1 := (h.translate ..).snd e
    exact Tidy.ite (h1.awaitHome False.elim ..) (h1.moveUse ..)

theorem Tidy.latchHere (h : Tidy P Q s) (w : Who) (l : Leaf) (cell : Nat) : Tidy P Q (s.latchHere w l cell).2 := by
  unfold State.latchHere
  dsimp only
  split
  · exact (h.readHere ..).moveUse ..
  · exact h.readHere ..

theorem Tidy.latchBytes (h : Tidy P False s) (w : Who) (l : Leaf) (cell : Nat) : Tidy P False (s.latchBytes w l cell).2 := by
  unfold State.latchBytes
  split
  · split
    · next e => exact (h.awaitHome False.elim ..).snd e
    · next e =>
      have h1 := (h.awaitHome False.elim ..).snd e
      split <;> exact h1
  · exact (h.latchHere ..).awaitNotifies ..

theorem Tidy.latchCell (h : Tidy P False s) (part job cell : Nat) : Tidy P False (s.latchCell part job cell).2 := by
  unfold State.latchCell
  dsimp only
  split
  · next e => exact ((h.translate ..).snd e).loadFault ..
  · next e =>
    have h1 := (h.translate ..).snd e
    split
    · next e2 => exact ((h1.latchBytes ..).snd e2).loadFault ..
    · next e2 =>
      have h2 := (h1.latchBytes ..).snd e2
      split <;> exact h2

theorem Tidy.objectBytes (h : Tidy P False s) (w : Who) (addr n : Nat) : Tidy P False (s.objectBytes w addr n).2 := by
  unfold State.objectBytes
  split
  · next e => exact (h.readVirtual ..).snd e
  · next e => exact ((h.readVirtual ..).snd e).nextFree

theorem Tidy.placeSection (h : Tidy P False s) (w : Who) (n addr : Nat) (images : Bool) (x : Section) :
    Tidy P False (s.placeSection w n addr images x) := by
  unfold State.placeSection
  exact Tidy.ite ((h.objectBytes ..).mapTile ..) h

theorem Tidy.placeSections (h : Tidy P False s) (w : Who) (n addr : Nat) (images : Bool) (xs : List Section) :
    Tidy P False (xs.foldl (fun s x => s.placeSection w n addr images x) s) :=
  Tidy.foldl (fun _ _ k => k.placeSection ..) _ h

theorem Tidy.pinLines (h : Tidy P False s) (w : Who) (n part : Nat) (ls : List Nat) : Tidy P False (s.pinLines w n part ls) := by
  induction ls generalizing s with
  | nil => exact h
  | cons l ls ih =>
    unfold State.pinLines
    split
    · next e => exact ih ((h.readCodeLine ..).snd e)
    · next e => exact ih (((h.readCodeLine ..).snd e).mapTile ..)

theorem Tidy.pinObject (h : Tidy P False s) (n : Nat) (k : Task) (o : CodeObject) : Tidy P False (s.pinObject n k o) :=
  Tidy.ite h (h.pinLines ..)

theorem Tidy.prepareTile (h : Tidy P False s) (n : Nat) (k : Task) (o : CodeObject) (entry : Nat) :
    Tidy P False (s.prepareTile n k o entry) :=
  ((h.mapTile ..).placeSections ..).pinObject ..

/-! ### Launch records -/

theorem Tidy.writeDispatch (h : Tidy P False s) (part job rec_ va : Nat) (bs : List Byte) :
    Tidy P False (s.writeDispatch part job rec_ va bs) := by
  unfold State.writeDispatch
  split
  · next e => exact (h.writeVirtual False.elim ..).snd e
  · next e => exact ((h.writeVirtual False.elim ..).snd e).addCause _

theorem Tidy.readDispatch (h : Tidy P False s) (part : Nat) (job : Option Nat) (va n : Nat) :
    Tidy P False (s.readDispatch part job va n).2 := by
  unfold State.readDispatch
  split
  · next e => exact (h.readVirtual ..).snd e
  · next e => exact (h.readVirtual ..).snd e

theorem Tidy.statusAt (h : Tidy P False s) (part : Nat) (job : Option Nat) (addr : Nat) :
    Tidy P False (s.statusAt part job addr).2 := by
  unfold State.statusAt
  split
  · next e => exact (h.readDispatch ..).snd e
  · next e => exact (h.readDispatch ..).snd e

theorem Tidy.writeLaunch (h : Tidy P False s) (part : Nat) (l : Launch) : Tidy P False (s.writeLaunch part l) :=
  (h.mapPart ..).writeDispatch ..

theorem Tidy.reject (h : Tidy P False s) (part : Nat) (l : Launch) (info : Nat) : Tidy P False (s.reject part l info) :=
  (h.logModule ..).writeLaunch ..

theorem Tidy.post (h : Tidy P False s) (part : Nat) (job : Option Nat) (addr : Nat) : Tidy P False (s.post part job addr).2 := by
  unfold State.post
  dsimp only
  split
  · next e => exact ((h.readVirtual ..).snd e).logModule ..
  · next e =>
    have h1 := (h.readVirtual ..).snd e
    split
    · next e2 => exact ((h1.translate ..).snd e2).logModule ..
    · next e2 =>
      have h2 := (h1.translate ..).snd e2
      split
      · exact h2
      · dsimp only
        split
        · exact h2.reject ..
        · exact h2.writeLaunch ..

theorem Tidy.logPost (h : Tidy P Q s) (part job addr : Nat) : Tidy P Q (s.logPost part job addr) := Tidy.ite (h.appendLog ..) h

theorem Tidy.duePosts (h : Tidy P Q s) (n k : Nat) : Tidy P Q (s.duePosts n k) := by
  induction k generalizing s with
  | zero => exact h
  | succ k ih =>
    unfold State.duePosts
    split
    · split
      · dsimp only
        split
        · next e => exact ih (h.made (fun _ k => (k.mapTile ..).post ..) e)
        · exact h.attempt (fun _ k => (k.mapTile ..).post ..)
      · exact h
    · exact h

/-! ### Rollbacks and failed jobs -/

theorem Tidy.settleRoutes (h : Tidy P Q s) (part job : Nat) (discard : Bool) : Tidy P Q (s.settleRoutes part job discard) := h

theorem Tidy.dropFlits (h : Tidy P Q s) (part job : Nat) : Tidy P Q (s.dropFlits part job) := h

theorem Tidy.stopTasks (h : Tidy P Q s) (part job : Nat) : Tidy P Q (s.stopTasks part job) := by
  unfold State.stopTasks
  refine Tidy.abandon (Tidy.settleRoutes (Tidy.dropFlits ?_ ..) ..) _
  exact (h.mapPart ..).strand _

theorem Tidy.failRecord (h : Tidy P Q s) (part : Nat) (l : Launch) : Tidy P Q (s.failRecord part l) :=
  Tidy.ite ((h.mapPart ..).writeUnawaited ..) h

theorem Tidy.failJob (h : Tidy P Q s) (part job : Nat) : Tidy P Q (s.failJob part job) := by
  unfold State.failJob
  exact Tidy.ite h ((Tidy.foldl (fun _ _ k => k.failRecord ..) _ ((h.mapPart ..).stopTasks ..)).logModule ..)

theorem Tidy.rollback (h : Tidy P Q s) (part job : Nat) (c : RollbackCause) : Tidy P Q (s.rollback part job c) := by
  have h1 := h.logModule 0x8016 (job + 2 ^ 12 * c.number) 0 part
  unfold State.rollback
  dsimp only
  split
  · exact h
  · exact h
  · exact h
  · exact h.failJob ..
  · exact (h1.mapPart ..).stopTasks ..
  · exact (h1.mapPart ..).stopTasks ..
  · exact (h1.mapPart ..).stopTasks ..

theorem Tidy.act (h : Tidy P Q s) (c : Cause) : Tidy P Q (s.act c) := by
  unfold State.act
  split
  · exact h.rollback ..
  · exact h.failJob ..
  · exact Tidy.ite (h.dropFlits ..) h
  · exact Tidy.ite h ((h.logModule ..).failJob ..)
  · exact Tidy.ite h ((h.logModule ..).failJob ..)

/-! ### Readiness and retirement of launches -/

theorem Tidy.logPages (h : Tidy P Q s) (w : Who) (as : List Nat) : Tidy P Q (s.logPages w as).2 := by
  induction as generalizing s with
  | nil => exact h
  | cons a as ih =>
    unfold State.logPages
    split
    · next e => exact ih ((h.logLeaf ..).snd e)
    · next e => exact (h.logLeaf ..).snd e

theorem Tidy.readyCode (h : Tidy P False s) (part : Nat) (l : Launch) : Tidy P False (s.readyCode part l).2 := by
  unfold State.readyCode
  dsimp only
  split
  · next e => exact ((h.readVirtual ..).snd e).loadFault ..
  · next e =>
    have h1 := (h.readVirtual ..).snd e
    split
    · exact h1
    · split
      · next e2 => exact (h1.admitObject ..).snd e2
      · next e2 => exact (h1.admitObject ..).snd e2
    · split
      · next e2 =>
        have h2 := (h1.latchCell ..).snd e2
        split
        · next e3 => exact (h2.admitObject ..).snd e3
        · next e3 => exact ((h2.admitObject ..).snd e3).addUse ..
      · next e2 =>
        have h2 := (h1.latchCell ..).snd e2
        split
        · next e3 => exact (h2.checkObject ..).snd e3
        · next e3 => exact ((h2.checkObject ..).snd e3).loadFault ..
      · next e2 => exact (h1.latchCell ..).snd e2
    · exact h1

theorem Tidy.checkDigest (h : Tidy P False s) (part : Nat) (l : Launch) (n : Nat) (d : Word) :
    Tidy P False (s.checkDigest part l n d).2 := by
  unfold State.checkDigest
  dsimp only
  split
  · exact h
  · split
    · split
      · next e => exact (h.readDispatch ..).snd e
      · next e => exact ((h.readDispatch ..).snd e).addCause _
    · exact h.writeDispatch ..

theorem Tidy.mismatched (h : Tidy P Q s) (part : Nat) (l : Launch) (info : Word) : Tidy P Q (s.mismatched part l info) := Tidy.ite h h

theorem Tidy.serialMatched (h : Tidy P Q s) (part : Nat) (l : Launch) : Tidy P Q (s.serialMatched part l).1 := by
  unfold State.serialMatched
  dsimp only
  split
  · split <;> exact h
  · exact h

theorem Tidy.postAll (h : Tidy P False s) (part job : Nat) (as : List Nat) : Tidy P False (s.postAll part job as) := by
  induction as generalizing s with
  | nil => exact h
  | cons a as ih => exact ih (h.post ..)

theorem Tidy.predsRetired (h : Tidy P False s) (part job : Nat) (as : List Nat) : Tidy P False (s.predsRetired part job as).2 := by
  induction as generalizing s with
  | nil => exact h
  | cons a as ih =>
    unfold State.predsRetired
    split
    · next e =>
      have h1 := (h.statusAt ..).snd e
      split
      · exact ih h1
      · exact h1
    · next e => exact (h.statusAt ..).snd e
end

section
variable {P Q : Prop} {s t : State}

theorem Tidy.retireLaunch (h : Tidy P False s) (part : Nat) (l : Launch) : Tidy P False (s.retireLaunch part l) := by
  have hd : Tidy P False (if l.kind = 0 then s.checkDigest part l 0 l.lacc else (true, s)).2 := by
    split
    · exact h.checkDigest ..
    · exact h
  unfold State.retireLaunch
  dsimp only
  generalize (if l.kind = 0 then s.checkDigest part l 0 l.lacc else (true, s)) = r at hd ⊢
  obtain ⟨ok, s1⟩ := r
  refine Tidy.ite (Tidy.mismatched (Tidy.mapPart hd ..) ..) ?_
  have hm : Tidy P False (if s1.jobStops part l.job then (s1, l) else s1.serialMatched part l).1 := by
    split
    · exact hd
    · exact Tidy.serialMatched hd ..
  generalize (if s1.jobStops part l.job then (s1, l) else s1.serialMatched part l) = r at hm ⊢
  obtain ⟨s2, l2⟩ := r
  have h3 := Tidy.ite (c := l.kind = 0) (Tidy.writeDispatch hm part l.job l.addr (l.addr + 104) (toBytes 8 l.lacc.toNat)) hm
  have h4 := fun c [Decidable c] => Tidy.ite (c := c) h3 (h3.writeLaunch part { l2 with state := .retired })
  refine Tidy.ite ((h4 _).mapPart ..) (Tidy.postAll ?_ ..)
  have h5 := fun c [Decidable c] => (h4 c).mapPart part (fun p => p.setJob { p.job l.job with rollbacks := 0 })
  split
  · exact Tidy.ite ((h5 _).addUse ..) (h5 _)
  · exact h5 _

theorem Tidy.makeReady (h : Tidy P False s) (part : Nat) (l : Launch) : Tidy P False (s.makeReady part l) := by
  unfold State.makeReady
  exact Tidy.ite ((h.writeLaunch ..).mapPart ..) (Tidy.ite (h.retireLaunch ..) (h.writeLaunch ..))

theorem Tidy.examine (h : Tidy P False s) (part : Nat) (l : Launch) (r : Nat) : Tidy P False (s.examine part l r).2 := by
  unfold State.examine
  dsimp only
  split
  · exact h
  · split
    · split
      · next e => exact (h.readyCode ..).snd e
      · next e =>
        have h1 := (h.readyCode ..).snd e
        rw [apply_ite Prod.snd]
        refine Tidy.ite h1 ?_
        dsimp only
        split
        · exact Tidy.ite (h1.addUse ..) h1
        · exact h1
    · split
      · split
        · next e => exact (h.logPages ..).snd e
        · next e => exact (h.logPages ..).snd e
      · exact h

theorem Tidy.jobNow (h : Tidy P False s) (part : Nat) (l : Launch) : Tidy P False (s.jobNow part l).2 := by
  unfold State.jobNow
  split
  · next e => exact (h.readDispatch ..).snd e
  · next e => exact (h.readDispatch ..).snd e

theorem Tidy.becomeReady (h : Tidy P False s) (part : Nat) (l : Launch) : Tidy P False (s.becomeReady part l) := by
  -- The examination stays opaque: its checks would compute on the fields of a record of 1,024 bits.
  obtain ⟨examine, hex⟩ : ∃ f, State.examine = f := ⟨_, rfl⟩
  have hx {u : State} (hu : Tidy P False u) (r : Nat) : Tidy P False (examine u part l r).2 := hex ▸ hu.examine part l r
  unfold State.becomeReady
  rw [hex]
  split
  · next e => exact ((h.readDispatch ..).snd e).addCause _
  · next e =>
    have h1 := (h.readDispatch ..).snd e
    dsimp only
    split
    · next e2 => exact ((hx h1 _).snd e2).reject ..
    · next e2 => exact ((hx h1 _).snd e2).makeReady ..

/-! ### Bound objects and the start of tasks -/

theorem Tidy.boundObject (h : Tidy P False s) (part : Nat) (l : Launch) (cell : Nat) : Tidy P False (s.boundObject part l cell).2 := by
  unfold State.boundObject
  split
  · exact h
  · split
    · next e =>
      have h1 := (h.latchCell ..).snd e
      split
      · next e2 =>
        have h2 := (h1.admitObject ..).snd e2
        split
        · exact h2.mapPart ..
        · exact h2.addUse ..
      · next e2 => exact ((h1.admitObject ..).snd e2).addUse ..
    · next e => exact (h.latchCell ..).snd e
    · next e => exact (h.latchCell ..).snd e

theorem Tidy.rebindNow (h : Tidy P False s) (n : Nat) : Tidy P False (s.rebindNow n) := by
  have gone {s : State} (c : Cause) (h : Tidy P False s) : Tidy P False (((s.forgetFills n).mapTile n Tile.released).addCause c) :=
    ((h.forgetFills n).mapTile ..).addCause c
  unfold State.rebindNow
  split
  · exact h
  · split
    · dsimp only
      split
      · exact gone _ h
      · split
        · next e => exact (((h.boundObject ..).snd e).forgetFills n).prepareTile ..
        · next e => exact ((h.boundObject ..).snd e).terminate n
        · next e => exact gone _ (((h.boundObject ..).snd e).reject ..)
    · exact h

theorem Tidy.rebind (h : Tidy P Q s) (n : Nat) : Tidy P Q (s.rebind n) := by
  have h0 := h.forget (.task n)
  unfold State.rebind
  dsimp only
  split
  · next e => exact h0.made (fun _ k => k.rebindNow n) e
  · exact (h0.attempt (fun _ k => k.rebindNow n)).mapTile ..

theorem Tidy.reserve (h : Tidy P Q s) (part : Nat) : Tidy P Q (s.reserve part) := Tidy.ite h h

theorem Tidy.takeTurn (h : Tidy P Q s) (part : Nat) : Tidy P Q (s.takeTurn part) := Tidy.ite h h

theorem Tidy.startTask (h : Tidy P False s) (part : Nat) (l : Launch) (n i : Nat) : Tidy P False (s.startTask part l n i) := by
  unfold State.startTask
  split
  · exact h
  · exact (Tidy.mapPart (Tidy.ite (h.mapDie ..) h) ..).prepareTile ..

theorem Tidy.requestPreemption (h : Tidy P Q s) (part : Nat) : Tidy P Q (s.requestPreemption part) := by
  unfold State.requestPreemption
  dsimp only
  split
  · exact h
  · refine Tidy.ite h ?_
    split
    · exact Tidy.ite h h
    · exact h

/-! ### Kiln operations, remote writes and messages -/

theorem Tidy.kilnPerform (h : Tidy P Q s) (w : Who) (o : KilnOp) (die off : Nat) : Tidy P Q (s.kilnPerform w o die off).2.2 :=
  Tidy.ite h (h.writeKiln ..)

theorem Tidy.refuseAccess (h : Tidy P Q s) (n : Nat) (drop : Tile → Tile) (cause : Nat) (a : Word) :
    Tidy P Q (s.refuseAccess n drop cause a) := (h.mapTile ..).duePosts ..

theorem Tidy.accessDone (h : Tidy P Q s) (n : Nat) (drop : Tile → Tile) : Tidy P Q (s.accessDone n drop) :=
  (h.mapTile ..).duePosts ..

theorem Tidy.kilnPerformed (h : Tidy P Q s) (n k : Nat) (o : KilnOp) (v : Word) (poisoned : Bool) :
    Tidy P Q (s.kilnPerformed n k o v poisoned) := Tidy.ite (h.mapTile ..) (h.accessDone ..)

theorem Tidy.performKiln {tile k : Nat} (h : Tidy P Q s) (e : s.performKiln tile k = some t) : Tidy P Q t := by
  unfold State.performKiln at e
  dsimp only at e
  split at e
  · split at e
    · cases e
    · split at e
      · cases e; exact h.refuseAccess ..
      · cases e; exact (h.kilnPerform ..).kilnPerformed ..
      · split at e
        · cases e; exact h.refuseAccess ..
        · next e2 => cases e; exact (h.request e2).mapTile ..
      · cases e; exact h.refuseAccess ..
  · cases e

theorem Tidy.returnKiln {tile : Nat} (h : Tidy P Q s) (e : s.returnKiln tile = some t) : Tidy P Q t := by
  unfold State.returnKiln at e
  split at e
  · split at e
    · cases e; exact h.accessDone ..
    · cases e
    · cases e
  · cases e

theorem Tidy.deliverMessage {tile k : Nat} (h : Tidy P Q s) (e : s.deliverMessage tile k = some t) : Tidy P Q t := by
  unfold State.deliverMessage at e
  dsimp only at e
  split at e
  · split at e
    · cases e
    · split at e
      · split at e
        · cases e; exact h.mapTile ..
        · cases e; exact (h.mapTile ..).accessDone ..
      · split at e
        · cases e; exact h.mapTile ..
        · cases e; exact h.refuseAccess ..
      · split at e
        · cases e; exact h.refuseAccess ..
        · next e2 => cases e; exact (h.request e2).mapTile ..
  · cases e

theorem Tidy.answerKiln {n tag : Nat} {a : Answer} (h : Tidy P Q s) (e : s.answerKiln n tag a = some t) : Tidy P Q t := by
  obtain ⟨k, -, e2⟩ := Option.bind_eq_some_iff.1 e
  obtain ⟨o, -, rfl⟩ := Option.map_eq_some_iff.1 e2
  exact Tidy.ite (h.refuseAccess ..) (h.kilnPerformed ..)

theorem Tidy.answerRput {n tag : Nat} {a : Answer} (h : Tidy P Q s) (e : s.answerRput n tag a = some t) : Tidy P Q t := by
  obtain ⟨k, -, e2⟩ := Option.bind_eq_some_iff.1 e
  obtain ⟨r, -, rfl⟩ := Option.map_eq_some_iff.1 e2
  exact Tidy.ite (h.refuseAccess ..) (h.accessDone ..)

theorem Tidy.answerSend {n tag : Nat} {a : Answer} (h : Tidy P Q s) (e : s.answerSend n tag a = some t) : Tidy P Q t := by
  obtain ⟨k, -, e2⟩ := Option.bind_eq_some_iff.1 e
  obtain ⟨m, -, rfl⟩ := Option.map_eq_some_iff.1 e2
  exact Tidy.ite (h.refuseAccess ..) (Tidy.ite (h.mapTile ..) (h.accessDone ..))

theorem Tidy.getD {o : Option State} (h : Tidy P Q s) (ho : ∀ t, o = some t → Tidy P Q t) : Tidy P Q (o.getD s) := by
  cases o with
  | none => exact h
  | some t => exact ho t rfl

theorem Tidy.takeAnswer (h : Tidy P Q s) (tag : Nat) (a : Answer) : Tidy P Q (s.takeAnswer tag a) := by
  refine h.getD (fun t e => ?_)
  obtain ⟨n, -, e2⟩ := List.exists_of_findSome?_eq_some e
  split at e2
  · next e3 => cases e2; exact h.answerKiln e3
  · next e3 => cases e2; exact h.answerRput e3
  · next e3 => cases e2; exact h.answerSend e3
  · exact h.answerCopy e2

theorem Tidy.dueTransfers (h : Tidy P Q s) (n fuel : Nat) : Tidy P Q (s.dueTransfers n fuel) := by
  induction fuel generalizing s with
  | zero => exact h
  | succ fuel ih =>
    unfold State.dueTransfers
    dsimp only
    split
    · next e =>
      obtain ⟨k, -, e2⟩ := List.exists_of_findSome?_eq_some e
      split at e2
      · split at e2
        · exact ih (h.performKiln e2)
        · cases e2
      · cases e2
    · next e =>
      split at e
      · split at e
        · exact ih (h.returnKiln e)
        · cases e
      · cases e
    · next e =>
      split at e
      · split at e
        · exact ih (h.deliverMessage e)
        · cases e
      · cases e
    · exact h

theorem Tidy.transferTick (h : Tidy P Q s) (n : Nat) : Tidy P Q (s.transferTick n) := Tidy.ite h ((h.mapTile ..).dueTransfers ..)

theorem Tidy.transferTicks (h : Tidy P Q s) (n k : Nat) : Tidy P Q (s.transferTicks n k) := by
  induction k generalizing s with
  | zero => exact h
  | succ k ih => exact ih (h.transferTick n)
end

section
variable {P Q : Prop} {s t : State}

/-! ### System registers and spawned tasks -/

theorem Tidy.writeJobctl (h : Tidy P Q s) (v : Word) : Tidy P Q (s.writeJobctl v) := by
  have ask (c : Cause) (u : State) (hu : Tidy P Q u) (b : Prop) [Decidable b] : Tidy P Q (if b then u.addCause c else u) :=
    Tidy.ite hu hu
  unfold State.writeJobctl
  exact Tidy.ite (ask _ _ (h.mapHere _) _) (Tidy.ite (ask _ _ (h.mapHere _) _) (h.mapHere _))

theorem Tidy.writeRankdat (h : Tidy P Q s) (v : Word) : Tidy P Q (s.writeRankdat v) := by
  unfold State.writeRankdat
  dsimp only
  split
  · exact h
  · split <;> exact h

theorem Tidy.writeSysreg (h : Tidy P Q s) (n : Nat) (v : Word) : Tidy P Q (s.writeSysreg n v) := by
  unfold State.writeSysreg
  exact Tidy.ite h <| Tidy.ite h <| Tidy.ite h <| Tidy.ite h <| Tidy.ite h <| Tidy.ite h <| Tidy.ite h <| Tidy.ite h <|
    Tidy.ite (h.writeJobctl v) <| Tidy.ite h <| Tidy.ite h <| Tidy.ite h <| Tidy.ite h <| Tidy.ite h <| Tidy.ite h <|
    Tidy.ite (h.writeRankdat v) h

theorem Tidy.beginSpawned (h : Tidy P False s) (n : Nat) (child : Task) (entry : Word) (window : List Word) :
    Tidy P False (s.beginSpawned n child entry window) := (h.prepareTile ..).mapTile ..

theorem Tidy.startSpawned (h : Tidy P Q s) (k : Task) (n : Nat) (entry : Word) (window : List Word) :
    Tidy P Q (s.startSpawned k n entry window) := by
  have h0 := h.forget (.task n)
  unfold State.startSpawned
  dsimp only
  split
  · next e => exact h0.made (fun _ k => k.beginSpawned ..) e
  · exact (h0.attempt (fun _ k => k.beginSpawned ..)).mapTile ..

/-- An effect in each cluster that a trigger reaches. -/
theorem Tidy.each (h : Tidy P Q s) (tr : Trigger) {f : Nat → Vec → BitVec 16 → State → State}
    (hf : ∀ c v lanes s, Tidy P Q s → Tidy P Q (f c v lanes s)) : Tidy P Q (tr.each f s) :=
  Tidy.foldl (fun s p k => hf p.1 p.2.1 p.2.2 s k) _ h
end

/-! ### Operations -/

/-- An operation whose effects keep both. -/
structure Operation.Tidies (op : Operation) : Prop where
  act : ∀ {P Q : Prop} {s : State} (tr : Trigger), Tidy P Q s → Tidy P Q (op.act tr s)
  late : ∀ {P Q : Prop} {s : State} (tr : Trigger), Tidy P Q s → Tidy P Q (op.late tr s)

theorem opCtlLoop_tidies : opCtlLoop.Tidies := ⟨fun _ h => Tidy.ite h (Tidy.ite h h), fun _ h => h⟩

theorem opCtlPref_tidies : opCtlPref.Tidies := ⟨fun _ h => Tidy.ite h h, fun _ h => h⟩

theorem opCtlSpawn_tidies : opCtlSpawn.Tidies := by
  refine ⟨fun tr h => ?_, fun _ h => h⟩
  unfold opCtlSpawn
  dsimp only
  split
  · exact h.startSpawned ..
  · exact h

theorem opCtlPost_tidies : opCtlPost.Tidies := ⟨fun _ h => Tidy.ite h ((h.mapHere _).duePosts ..), fun _ h => h⟩

theorem opCtlRsr_tidies : opCtlRsr.Tidies := by
  refine ⟨fun tr h => ?_, fun _ h => h⟩
  have h1 (c : Prop) [Decidable c] := Tidy.ite (c := c) (h.mapHere (fun t => { t with detRead := true })) h
  exact Tidy.ite (h1 _) (h1 _)

theorem opCtlWsr_tidies : opCtlWsr.Tidies := ⟨fun _ h => h, fun _ h => h.writeSysreg ..⟩

theorem opSyRput_tidies : opSyRput.Tidies := ⟨fun _ h => Tidy.ite h h, fun _ h => h⟩

theorem opSyClk_tidies : opSyClk.Tidies := ⟨fun _ h => Tidy.ite h h, fun _ h => h⟩

theorem opSyIdn_tidies : opSyIdn.Tidies := ⟨fun _ h => Tidy.ite h h, fun _ h => h⟩

theorem opLkRecv_tidies : opLkRecv.Tidies := by
  refine ⟨fun tr h => ?_, fun _ h => h⟩
  unfold opLkRecv
  dsimp only
  split <;> exact h

theorem opVcMxsc_tidies : opVcMxsc.Tidies := ⟨fun tr h => h.each tr fun _ _ _ _ k => Tidy.ite k k, fun _ h => h⟩

theorem opVfFeval_tidies : opVfFeval.Tidies := ⟨fun tr h => h.each tr fun _ _ _ _ k => k, fun _ h => h⟩

theorem alu_tidies {u : Bool} {latency : Nat} {f : Word → Word → Word → Word} : (alu u latency f).Tidies :=
  ⟨fun _ h => h, fun _ h => h⟩
theorem multiplier_tidies {f : Word → Word → Word} : (multiplier f).Tidies := ⟨fun _ h => h, fun _ h => h⟩
theorem divider_tidies {f : Word → Word → Word} : (divider f).Tidies := ⟨fun _ h => h, fun _ h => h⟩
theorem load_tidies {n : Nat} {sign : Bool} : (load n sign).Tidies := ⟨fun _ h => h, fun _ h => h⟩
theorem store_tidies {n : Nat} : (store n).Tidies := ⟨fun _ h => h, fun _ h => h⟩
theorem matrixOp_tidies : matrixOp.Tidies := ⟨fun _ h => h, fun _ h => h⟩
theorem kilnTrigger_tidies {k : Nat} : (kilnTrigger k).Tidies := ⟨fun _ h => h, fun _ h => h⟩
theorem vectorOp_tidies {latency : Nat} {f : Vec → Vec → Vec → Vec} : (vectorOp latency f).Tidies :=
  ⟨fun tr h => h.each tr fun _ _ _ _ k => k, fun _ h => h⟩
theorem positOp_tidies {latency : Nat} {g : Nat → Nat → Nat → Nat → Nat} : (positOp latency g).Tidies :=
  ⟨fun tr h => h.each tr fun _ _ _ _ k => k, fun _ h => h⟩
theorem convertOp_tidies {upper : Bool} {ok : Lane → Bool} {conv : Lane → Int → Nat → Nat} : (convertOp upper ok conv).Tidies :=
  ⟨fun tr h => h.each tr fun _ _ _ _ k => k, fun _ h => h⟩
theorem crossCopy_tidies {source : Nat → Nat → Nat} : (crossCopy source).Tidies :=
  ⟨fun tr h => h.each tr fun _ _ _ _ k => k, fun _ h => h⟩
theorem quireOp_tidies {op : QuireOp} {q remain : Nat} {perf : Option Nat} {bad : Lane → Bool} :
    (quireOp op q remain perf bad).Tidies := ⟨fun tr h => h.each tr fun _ _ _ _ k => k, fun _ h => h⟩
theorem quireMemory_tidies {op : QuireOp} {q remain : Nat} : (quireMemory op q remain).Tidies :=
  ⟨fun tr h => h.each tr fun _ _ _ _ k => k, fun _ h => h⟩
theorem vectorLoad_tidies {p : Pattern} : (vectorLoad p).Tidies := ⟨fun tr h => h.each tr fun _ _ _ _ k => k, fun _ h => h⟩
theorem vectorStore_tidies {p : Pattern} : (vectorStore p).Tidies := ⟨fun tr h => h.each tr fun _ _ _ _ k => k, fun _ h => h⟩

/-- The operation of a trigger, where there is one. -/
def AllTidy (o : Option Operation) : Prop := ∀ op, o = some op → op.Tidies

theorem AllTidy.of_some {op : Operation} (h : op.Tidies) : AllTidy (some op) := fun _ e => Option.some.inj e ▸ h

theorem AllTidy.of_none : AllTidy none := fun _ e => nomatch e

theorem operationOf_tidies (i : Instr) : AllTidy (operationOf i) := by
  cases i with
  | saAdd | saSub | saAnd | saOr | saXor | saAndn | saOrn | saXnor | saSll | saSrl | saSra | saRor | saMin |
    saMax | saMinu | saMaxu | saCeq | saCne | saClt | saCle | saCltu | saCleu | saCtst | saSel | saBext |
    saBexts | saBins | saPopc | saClz | saCtz | saAddsh | saMov => exact .of_some alu_tidies
  | smMul | smMulh | smMulhu | smMulw => exact .of_some multiplier_tidies
  | smDiv | smDivu | smRem | smRemu => exact .of_some divider_tidies
  | lsLd8 | lsLd8s | lsLd16 | lsLd16s | lsLd32 | lsLd32s | lsLd64 => exact .of_some load_tidies
  | lsSt8 | lsSt16 | lsSt32 | lsSt64 => exact .of_some store_tidies
  | mxMma | mxMmd | mxMdrn | mxMclr | mxMsave | mxMload => exact .of_some matrixOp_tidies
  | knAdd | knMin | knMinu | knMax | knMaxu | knAnd | knOr | knXor | knSwap | knCas | knTick | knPadd |
    knQadd | knUpd | knLd | knSt => exact .of_some kilnTrigger_tidies
  | vaAddb | vaAddh | vaAddw | vaSubb | vaSubh | vaSubw | vaMinb | vaMinh | vaMinw | vaMaxb | vaMaxh |
    vaMaxw | vaCeqb | vaCeqh | vaCeqw | vaCltb | vaClth | vaCltw | vaAnd | vaOr | vaXor | vaAndn | vaSllw |
    vaSrlw | vaSraw | vaSel | vaClmul | vaXscan | vaAscan | vaPerm | vaRsum | vaRxor | vaRmax | vaRany => exact .of_some vectorOp_tidies
  | vpPadd | vpPsub | vpPmul | vpPfma | vpPfms | vpPmin | vpPmax | vpPabs | vpPneg | vpPceq | vpPclt |
    vpPcle => exact .of_some positOp_tidies
  | vcCvt | vcCvth | vcCvi | vcCvih | vcCvo | vcQuan | vcDequ => exact .of_some convertOp_tidies
  | vxXrot | vxXbc => exact .of_some crossCopy_tidies
  | vqQclr0 | vqQmac0 | vqQadd0 | vqQsub0 | vqQrnd0 | vqQxadd0 | vqQred0 | vqQovf0 | vqQclr1 | vqQmac1 |
    vqQadd1 | vqQsub1 | vqQrnd1 | vqQxadd1 | vqQred1 | vqQovf1 => exact .of_some quireOp_tidies
  | vqQsav0 | vqQld0 | vqQsav1 | vqQld1 => exact .of_some quireMemory_tidies
  | vmLd | vmLds | vmLdg => exact .of_some vectorLoad_tidies
  | vmSt | vmSts | vmSct => exact .of_some vectorStore_tidies
  | ctlJmp | ctlCall | ctlRet | ctlEnd | ctlTrap | ctlRfe | ctlWait | sySemrd | sySemwr | sySemadd |
    syDrain | syFence | cpDefs | cpCancel | cpMap | cpGo | lkSend | lkProbe | lkPeek => exact .of_some ⟨fun _ h => h, fun _ h => h⟩
  | vcMxsc => exact .of_some opVcMxsc_tidies
  | vfFeval => exact .of_some opVfFeval_tidies
  | ctlLoop => exact .of_some opCtlLoop_tidies
  | ctlPref => exact .of_some opCtlPref_tidies
  | ctlRsr => exact .of_some opCtlRsr_tidies
  | ctlSpawn => exact .of_some opCtlSpawn_tidies
  | ctlPost => exact .of_some opCtlPost_tidies
  | ctlWsr => exact .of_some opCtlWsr_tidies
  | syRput => exact .of_some opSyRput_tidies
  | syClk => exact .of_some opSyClk_tidies
  | syIdn => exact .of_some opSyIdn_tidies
  | lkRecv => exact .of_some opLkRecv_tidies
  | _ => exact .of_none

section
variable {P Q : Prop} {s t : State}

/-! ### A tile's cycle -/

/-- A plan whose states keep both parts and whose triggers have operations that do. -/
def Plan.Tidies (P Q : Prop) : Plan → Prop
  | .event _ _ base => Tidy P Q base
  | .issue as _ _ ready => Tidy P Q ready ∧ ∀ a ∈ as, AllTidy a.slot.op
  | _ => True

/-- What a fetch finds, with operations that keep both parts. -/
def Fetched.Tidies : Fetched → Prop
  | .ready slots _ => ∀ x ∈ slots, AllTidy x.op
  | _ => True

theorem fetchCode_tidies (s : State) : (fetchCode s).Tidies := by
  unfold fetchCode
  dsimp only
  split
  · intro x hx
    obtain ⟨y, -, hy⟩ := List.mem_filterMap.1 hx
    cases hi : y.2 with
    | reserved m d =>
      rw [hi] at hy
      cases hy
      exact .of_none
    | op i =>
      rw [hi] at hy
      obtain ⟨z, -, rfl⟩ := Option.map_eq_some_iff.1 hy
      exact operationOf_tidies i
  · trivial
  · split
    · split <;> trivial
    · trivial

theorem asynchronous_tidies {epc : Word} {p : Plan} (h : Tidy P Q s) (e : asynchronous s epc = some p) : p.Tidies P Q := by
  unfold asynchronous at e
  dsimp only at e
  split at e
  · split at e
    · cases e
    · cases e; exact h
  · split at e
    · cases e
    · split at e
      · cases e; exact h
      · obtain ⟨-, e1⟩ := Option.ite_none_right_eq_some.1 e
        cases Option.some.inj e1
        trivial

/-- An asynchronous cause, or else a plan that keeps both. -/
theorem asynchronous_getD_tidies {epc : Word} {p : Plan} (h : Tidy P Q s) (hp : p.Tidies P Q) :
    ((asynchronous s epc).getD p).Tidies P Q := by
  cases e : asynchronous s epc with
  | none => exact hp
  | some q => exact asynchronous_tidies h e

theorem heldPlan_tidies (h : Tidy P Q s) (epc : Word) (hs : List Hold) (lines : List Nat) :
    (heldPlan s epc hs lines).Tidies P Q := by
  unfold heldPlan
  dsimp only
  split
  · split
    · exact h
    · split
      · exact h
      · exact asynchronous_getD_tidies h trivial
  · trivial

theorem planCycle_tidies {fetch : State → Fetched} (hf : ∀ u, (fetch u).Tidies) (h : Tidy P Q s) :
    (planCycle fetch s).Tidies P Q := by
  unfold planCycle
  dsimp only
  split
  · exact h
  · split
    · trivial
    · split
      · exact h
      · exact h
      · split
        · exact h
        · exact heldPlan_tidies h ..
      · next slots words e =>
        have hr : ∀ x ∈ slots, AllTidy x.op := by
          have k := hf (s.mapHere Tile.start)
          rw [e] at k
          exact k
        have ha : ∀ a ∈ activeSlots (s.mapHere Tile.start).here slots, AllTidy a.slot.op := by
          intro a ha
          obtain ⟨x, hx, hy⟩ := List.mem_filterMap.1 ha
          obtain ⟨v, -, rfl⟩ := Option.map_eq_some_iff.1 hy
          exact hr x hx
        split
        · exact h
        · split
          · exact h
          · split
            · exact asynchronous_getD_tidies h ⟨Tidy.foldl (fun _ _ k => k.mapHere _) _ (h.mapHere _), ha⟩
            · exact heldPlan_tidies h ..

theorem Tidy.holdCycle (h : Tidy P Q s) (hs : List Hold) (lines : List Nat) (advance : Bool) :
    Tidy P Q (holdCycle hs lines advance s) := Tidy.ite ((h.setHere _).engineTick _) (h.setHere _)

theorem Tidy.afterBundle (h : Tidy P Q s) (as : List After) : Tidy P Q (afterBundle as s) := by
  unfold Machine.afterBundle
  dsimp only
  split
  · exact (h.setHere _).takeEvent ..
  · split
    · exact h.mapHere _
    · split
      · have h1 (u : State) (hu : Tidy P Q u) (c : Prop) [Decidable c] : Tidy P Q (Machine.returnFromEvent (if c then u.leaveRedone u.cur else u)) :=
          (Tidy.ite (hu.leaveRedone _) hu).returnFromEvent
        exact Tidy.ite ((h1 _ (h.mapHere _) _).rebind _) (h1 _ (h.mapHere _) _)
      · exact h

theorem Tidy.issueBundle {as : List Active} (h : Tidy P Q s) (ha : ∀ a ∈ as, AllTidy a.slot.op) (words : Nat) (bundle : Word) :
    Tidy P Q (issueBundle as words bundle s) := by
  have hops : ∀ x ∈ as.filterMap (fun a => a.slot.op.map (fun o => (o, a.trigger bundle (vxValues as)))), x.1.Tidies := by
    intro x hx
    obtain ⟨a, hm, hy⟩ := List.mem_filterMap.1 hx
    obtain ⟨o, ho, rfl⟩ := Option.map_eq_some_iff.1 hy
    exact ha a hm o ho
  have each (f : Operation → Trigger → State → State) (hf : ∀ op tr u, op.Tidies → Tidy P Q u → Tidy P Q (f op tr u))
      (xs : List (Operation × Trigger)) (hx : ∀ x ∈ xs, x.1.Tidies) {u : State} (hu : Tidy P Q u) :
      Tidy P Q (xs.foldl (fun s x => f x.1 x.2 s) u) := by
    induction xs generalizing u with
    | nil => exact hu
    | cons x xs ih => exact ih (fun y hy => hx y (List.mem_cons_of_mem _ hy)) (hf x.1 x.2 u (hx x List.mem_cons_self) hu)
  have hacts := each (fun op tr u => op.act tr u) (fun _ tr _ ho hu => ho.act tr hu) _ hops h
  refine Tidy.afterBundle (each (fun op tr u => op.late tr u) (fun _ tr _ ho hu => ho.late tr hu) _ hops ?_) _
  exact Tidy.ite ((hacts.mapHere _).engineTick _) (hacts.mapHere _)

theorem Tidy.runPlan {p : Plan} (h : Tidy P Q s) (hp : p.Tidies P Q) : Tidy P Q (runPlan p s) := by
  refine Tidy.transferTicks ?_ ..
  unfold enactPlan
  split
  · exact Tidy.takeEvent hp ..
  · exact (h.snapshotEvent _).mapHere _
  · exact h.holdCycle ..
  · exact Tidy.issueBundle hp.1 hp.2 ..
  · exact h.mapHere _

/-! ### Steps -/

/-- A step that keeps both parts in every state that it can lead to. -/
def Tidied (P Q : Prop) (o : Outcome State Fault Refusal) : Prop := ∀ t, o = .next t → Tidy P Q t

theorem Tidied.next (h : Tidy P Q s) : Tidied P Q (.next s) := fun _ e => Outcome.next.inj e ▸ h
theorem Tidied.fault {f : Fault} : Tidied P Q (.fault f) := fun _ e => nomatch e
theorem Tidied.refused {r : Refusal} : Tidied P Q (.refused r) := fun _ e => nomatch e

theorem Tidied.ite {c : Prop} [Decidable c] {a b : Outcome State Fault Refusal} (ha : Tidied P Q a) (hb : Tidied P Q b) :
    Tidied P Q (if c then a else b) := by
  split
  · exact ha
  · exact hb

/-- The guard of a step on what its number must lie below. -/
theorem Tidied.unless {c : Prop} [Decidable c] {f : Fault} {o : Outcome State Fault Refusal} (h : Tidied P Q o) :
    Tidied P Q (if c then .fault f else o) := .ite .fault h

theorem Tidied.whenDue {c : Prop} [Decidable c] {r : Refusal} (h : Tidy P Q s) :
    Tidied P Q (if c then .next s else .refused r) := .ite (.next h) .refused

theorem Tidied.unlessLate {c : Prop} [Decidable c] {r : Refusal} {o : Outcome State Fault Refusal} (h : Tidied P Q o) :
    Tidied P Q (if c then .refused r else o) := .ite .refused h

theorem cycle_tidied {name : String} {fetch : State → Fetched} (hf : ∀ u, (fetch u).Tidies) (h : Tidy P Q s) :
    Tidied P Q (cycle name fetch s) := by
  unfold cycle
  dsimp only
  split
  · exact .next (h.runPlan (planCycle_tidies hf h))
  · split
    · split
      · exact .next ((h.setHere _).takeEvent ..)
      · exact .refused
    · exact .refused

theorem issueOne_tidied {name : String} {i : Instr} {m : Move} {op : Operation} (ho : op.Tidies) (h : Tidy P Q s) :
    Tidied P Q (issueOne name i m op s) := by
  refine cycle_tidied (fun u x hx => ?_) h
  rw [List.mem_singleton.1 hx]
  exact .of_some ho

/-- The outcomes of a step tried for the dispatcher or the code fetch. -/
theorem Tidied.outcome {a : Asker} {f after : State → State} {name : String} (h : Tidy P Q s)
    (hf : ∀ u, Tidy P False u → Tidy P False (f u)) (ha : ∀ u, Tidy P Q u → Tidy P Q (after u)) :
    Tidied P Q ((s.attempt a f).outcome name after) := by
  have h1 := h.attempt (a := a) hf
  cases e : s.attempt a f with
  | made t => rw [e] at h1; exact .next (ha _ h1)
  | asked t => rw [e] at h1; exact .next h1
  | early => exact .refused

theorem Tidy.startAgain (h : Tidy P Q s) : Tidy P Q (s.startAgain.state s) := by
  unfold State.startAgain
  split
  · exact h.attempt (fun _ k => k.beginSpawned ..)
  · exact h.attempt (fun _ k => (k.mapHere _).rebindNow _)
  · exact h

theorem execBundleIssue_tidied (tile : Nat) (h : Tidy P Q s) : Tidied P Q (execBundleIssue tile s) := by
  have h1 := Tidy.startAgain (s := { s with cur := tile }) h
  unfold execBundleIssue
  refine .unless (.ite ?_ (cycle_tidied fetchCode_tidies h))
  split
  · next e => rw [e] at h1; exact .next h1
  · next e => rw [e] at h1; exact .next h1
  · exact .refused

theorem tileCycle_tidied (h : Tidy P Q s) : Tidied P Q (tileCycle s) := by
  have h1 := h.startAgain
  unfold tileCycle
  refine .ite (execBundleIssue_tidied _ h) (.ite ?_ (.next h))
  split
  · next e => rw [e] at h1; exact .next h1
  · next e => rw [e] at h1; exact .next h1
  · exact .next h

theorem cycleWhen_tidied (tile : Nat) (name : String) (due : State → Bool) (h : Tidy P Q s) :
    Tidied P Q (cycleWhen tile name due s) := .unless (.ite (execBundleIssue_tidied tile h) .refused)
end

section
variable {P Q : Prop} {s t : State}

/-! ### Requests that make, load, configure and destroy partitions -/

/-- A guarded request: what denies it changes nothing. -/
theorem Tidy.guarded (cs : List (Bool × Status)) {k : State → Reply} (h : Tidy P Q s) (hk : Tidy P Q (k s).2) :
    Tidy P Q (guarded cs s k).2 := by
  unfold Machine.guarded
  split
  · exact h
  · exact hk

theorem Tidy.done (h : Tidy P Q s) : Tidy P Q (done s).2 := h

theorem Tidy.setPart (h : Tidy P Q s) (n : Nat) (p : Partition) : Tidy P Q (s.setPart n p) := h

theorem Tidy.zeroDies (h : Tidy P Q s) (dies : BitVec 16) : Tidy P Q (s.zeroDies dies) :=
  h.of_canonical (memoryWf_zeroDies s dies) rfl

theorem Tidy.releaseDomain (h : Tidy P Q s) : Tidy P Q s.releaseDomain := Tidy.ite h h

theorem Tidy.partCreateReply (h : Tidy P Q s) (m : Message) : Tidy P Q (partCreateReply m s).2 := h.guarded _ h

theorem Tidy.partDestroyReply (h : Tidy P Q s) (m : Message) : Tidy P Q (partDestroyReply m s).2 := by
  unfold Machine.partDestroyReply
  dsimp only
  refine h.guarded _ (Tidy.done (Tidy.releaseDomain (Tidy.setPart ?_ _ _)))
  exact (h.zeroDies (s.part m.part).dies).of_same rfl rfl

theorem Tidy.flushRoute (h : Tidy P Q s) (r : Route) : Tidy P Q (s.flushRoute r) := Tidy.ite h h

theorem Tidy.activate (h : Tidy P Q s) (n : Nat) : Tidy P Q (s.activate n) := by
  unfold State.activate
  dsimp only
  split
  · exact h
  · refine Tidy.setPart (Tidy.foldl (fun _ _ k => k.flushRoute _) _ ?_) ..
    exact h

theorem Tidy.startMonitor (h : Tidy P False s) (n : Nat) : Tidy P False (s.startMonitor n) := by
  unfold State.startMonitor
  dsimp only
  split
  · exact h
  · exact (h.mapPart ..).prepareTile ..

theorem Tidy.writePhysical (h : Tidy P Q s) (p : Partition) (xs : List (Nat × Nat)) (bs : List Byte) :
    Tidy P Q (s.writePhysical p xs bs) := by
  induction xs generalizing s bs with
  | nil => exact h
  | cons x xs ih =>
    unfold State.writePhysical
    split
    · exact ih h _
    · exact ih (h.storeLine ..) _

theorem Tidy.loadMonitor (h : Tidy P False s) (n : Nat) (b image : List Byte) (hold : Bool) :
    Tidy P False (s.loadMonitor n b image hold) :=
  Tidy.ite (h.mapPart ..) (((h.mapPart ..).activate n).startMonitor n)

theorem Tidy.monitorLoadReply (h : Tidy P False s) (m : Message) : Tidy P False (monitorLoadReply m s).2 := by
  unfold Machine.monitorLoadReply
  dsimp only
  split
  · exact h.mapPart ..
  · split
    · exact ((h.mapPart ..).writePhysical ..).loadMonitor ..
    · exact (h.mapPart ..).writePhysical ..

theorem Tidy.keyInstallReply (h : Tidy P Q s) (m : Message) : Tidy P Q (keyInstallReply m s).2 := by
  refine h.guarded _ ?_
  split <;> exact h

theorem Tidy.keyClearReply (h : Tidy P Q s) (m : Message) : Tidy P Q (keyClearReply m s).2 := h.guarded _ h

theorem Tidy.configWrite (h : Tidy P Q s) (m : Message) (base : PartConfig) : Tidy P Q (configWrite m base s).2 := by
  unfold Machine.configWrite
  dsimp only
  split
  · exact h
  · split
    · exact h
    · split
      · split
        · exact h.mapPart ..
        · exact h
      · exact h

theorem Tidy.partConfigReply (h : Tidy P Q s) (m : Message) : Tidy P Q (partConfigReply m s).2 := by
  unfold Machine.partConfigReply
  dsimp only
  split
  · split
    · exact h
    · exact h.guarded _ h
  · exact h.configWrite ..
  · exact h.configWrite ..
  · exact h

/-! ### Requests that report on the module or set what belongs to it -/

theorem Tidy.infoReply (h : Tidy P Q s) (m : Message) : Tidy P Q (infoReply m s).2 := h.guarded _ h
theorem Tidy.recordClearReply (h : Tidy P Q s) (m : Message) : Tidy P Q (recordClearReply m s).2 := h.guarded _ h
theorem Tidy.powerCapReply (h : Tidy P Q s) (m : Message) : Tidy P Q (powerCapReply m s).2 := h.guarded _ h
theorem Tidy.errorReadReply (h : Tidy P Q s) (m : Message) : Tidy P Q (errorReadReply m s).2 := h.guarded _ h
theorem Tidy.snapshotTriggerReply (h : Tidy P Q s) (m : Message) : Tidy P Q (snapshotTriggerReply m s).2 := h.guarded _ h

theorem Tidy.attestReply (h : Tidy P Q s) (m : Message) : Tidy P Q (attestReply m s).2 := by
  unfold Machine.attestReply
  refine h.guarded _ ?_
  exact h

theorem Tidy.takeFirmware (h : Tidy P Q s) (image : List Byte) : Tidy P Q (s.takeFirmware image).2 := by
  unfold State.takeFirmware
  dsimp only
  split <;> exact h

theorem Tidy.firmwareImageReply (h : Tidy P Q s) (m : Message) : Tidy P Q (firmwareImageReply m s).2 := by
  unfold Machine.firmwareImageReply
  dsimp only
  split
  · exact h
  · split
    · exact h.takeFirmware _
    · exact h

theorem Tidy.snapshotReadReply (h : Tidy P Q s) (m : Message) : Tidy P Q (snapshotReadReply m s).2 := by
  refine h.guarded _ ?_
  dsimp only
  split
  · exact h
  · exact Tidy.ite h h

/-! ### Requests that move memory and kiln lines -/

theorem Tidy.checkedPages (h : Tidy P Q s) (w : Who) (r : Right) (va n : Nat) {k : List PageLeaf → State → Reply}
    (hk : ∀ ls u, Tidy P Q u → Tidy P Q (k ls u).2) : Tidy P Q (s.checkedPages w r va n k).2 := by
  unfold State.checkedPages
  split
  · exact h
  · next e => exact hk _ _ ((h.mapPages ..).snd e)

theorem Tidy.memWriteReply (h : Tidy P Q s) (m : Message) : Tidy P Q (memWriteReply m s).2 :=
  h.guarded _ (h.checkedPages _ _ _ _ (fun _ _ k => k.writeMapped ..))

theorem Tidy.memReadReply (h : Tidy P False s) (m : Message) : Tidy P False (memReadReply m s).2 := by
  refine h.guarded _ (h.checkedPages _ _ _ _ (fun ls u k => ?_))
  dsimp only
  split <;> exact (k.readMapped ..).awaitNotifies ..

theorem Tidy.storeRaws (h : Tidy P Q s) (w : Who) (xs : List PageLeaf) (rs : List (List Byte)) : Tidy P Q (s.storeRaws w xs rs) := by
  induction xs generalizing s rs with
  | nil => exact h
  | cons x xs ih =>
    cases rs with
    | nil => exact h
    | cons r rs => exact ih ((h.setDirty ..).storeLine ..) rs

theorem Tidy.memWriteRawReply (h : Tidy P Q s) (m : Message) : Tidy P Q (memWriteRawReply m s).2 :=
  h.guarded _ (h.checkedPages _ _ _ _ (fun _ _ k => k.storeRaws ..))

theorem Tidy.rawRecord (h : Tidy P Q s) (l : Leaf) : Tidy P Q (s.rawRecord l).2 := by
  unfold State.rawRecord
  dsimp only
  split
  · exact h.nextFree
  · exact h

theorem Tidy.rawRecords (h : Tidy P Q s) (xs : List PageLeaf) : Tidy P Q (s.rawRecords xs).2 := by
  induction xs generalizing s with
  | nil => exact h
  | cons x xs ih => exact ih (h.rawRecord x.leaf)

theorem Tidy.memReadRawReply (h : Tidy P False s) (m : Message) : Tidy P False (memReadRawReply m s).2 :=
  h.guarded _ (h.checkedPages _ _ _ _ (fun ls _ k => (k.rawRecords ls).awaitNotifies ..))

theorem Tidy.kilnReadReply (h : Tidy P Q s) (m : Message) : Tidy P Q (kilnReadReply m s).2 := by
  unfold Machine.kilnReadReply
  refine h.guarded _ ?_
  exact h

theorem Tidy.kilnWriteReply (h : Tidy P Q s) (m : Message) : Tidy P Q (kilnWriteReply m s).2 :=
  h.guarded _ (Tidy.foldl (fun _ _ k => k.writeKiln ..) _ h)

theorem Tidy.clearDirty (h : Tidy P Q s) (place : Nat) : Tidy P Q (s.clearDirty place) :=
  h.of_canonical (memoryWf_clearDirty s place) rfl

theorem Tidy.dirtyScanReply (h : Tidy P Q s) (m : Message) : Tidy P Q (dirtyScanReply m s).2 := by
  refine h.guarded _ (Tidy.mapPart (Tidy.foldl (fun _ _ k => k.clearDirty _) _ h) ..)
end

section
variable {P Q : Prop} {s t : State}

/-! ### Checkpoints and replays -/

theorem Tidy.reinstate (h : Tidy P False s) (part : Nat) (job : Option Nat) (addr status : Nat) (lacc : Option Word)
    (old : Option Launch) : Tidy P False (s.reinstate part job addr status lacc old) := by
  -- The examination stays opaque: its checks would compute on the fields of a record of 1,024 bits.
  obtain ⟨examine, hex⟩ : ∃ f, State.examine = f := ⟨_, rfl⟩
  have again {u : State} (hu : Tidy P False u) (v : State) (hv : Tidy P False v) (l : Launch) (r : Nat) : Tidy P False
      (match examine u part l r with
        | (.ok l2, s2) => s2.mapPart part (fun p => p.setLaunch l2)
        | (.error info, s2) => s2.reject part l info) := by
    have hx := hu.examine part l r
    rw [hex] at hx
    split
    · next e => exact (hx.snd e).mapPart ..
    · next e => exact (hx.snd e).reject ..
  unfold State.reinstate
  rw [hex]
  split
  · next e => exact ((h.readDispatch ..).snd e).logModule ..
  · next e =>
    have h1 := (h.readDispatch ..).snd e
    dsimp only
    split
    · split
      · split
        · exact h1.mapPart ..
        · exact again (h1.mapPart ..) _ h1 ..
      · exact again (h1.mapPart ..) _ h1 ..
    · exact Tidy.ite ((h1.mapPart ..).mapPart ..) (h1.mapPart ..)

theorem Tidy.returnCell (h : Tidy P False s) (part : Nat) (l : Launch) : Tidy P False (s.returnCell part l) := by
  unfold State.returnCell
  split
  · exact Tidy.ite (h.addUse ..) h
  · exact h

theorem Tidy.takeCheckpoint (h : Tidy P False s) (part job : Nat) (rec_ : Option Nat) :
    Tidy P False (s.takeCheckpoint part job rec_) := by
  have h1 := h.postAll part job (((rec_.bind (s.part part).launch?).map Launch.succs).getD [])
  unfold State.takeCheckpoint
  dsimp only
  split
  · exact h1
  · split
    · split
      · exact h.nextFree.reject ..
      · exact h
    · split
      · exact h1.addCause _
      · next e =>
        have h2 := h1.writeLog e
        split
        · exact (h2.writeLaunch ..).mapPart ..
        · exact h2.mapPart ..

theorem Tidy.takeCheckpoints (h : Tidy P False s) (part job : Nat) : Tidy P False (s.takeCheckpoints part job) :=
  ((Tidy.foldl (fun _ _ k => k.takeCheckpoint ..) _ h).mapPart ..).settleRoutes ..

theorem Tidy.restoreLine (h : Tidy P Q s) (p : Partition) (own addr glaze : Nat) (poison : Bool) (bs : List Byte) :
    Tidy P Q (s.restoreLine p own addr glaze poison bs) := by
  refine h.of_canonical (memoryWf_restoreLine s p own addr glaze poison bs) ?_
  unfold State.restoreLine
  split <;> rfl

theorem Tidy.restoreKiln (h : Tidy P Q s) (p : Partition) (addr : Nat) (poison : Bool) (bs : List Byte) :
    Tidy P Q (s.restoreKiln p addr poison bs) := by
  unfold State.restoreKiln
  split
  · exact h
  · exact h.mapDie ..

theorem Tidy.applyRecord (h : Tidy P Q s) (p : Partition) (own : Nat) (posts : List Nat) (bs : List Byte) :
    Tidy P Q (s.applyRecord p own posts bs).2 := by
  unfold State.applyRecord
  dsimp only
  split
  · exact h.restoreLine ..
  · exact h.restoreKiln ..
  · exact h
  · exact h

theorem Tidy.replayRecords (h : Tidy P False s) (part own : Nat) (w : Who) (f : LogFields) (n : Nat) (posts : List Nat) :
    Tidy P False (s.replayRecords part own w f n posts).2 := by
  induction n generalizing s posts with
  | zero => exact h
  | succ n ih =>
    unfold State.replayRecords
    split
    · next e => exact (h.readVirtual ..).snd e
    · next e =>
      have h1 := (h.readVirtual ..).snd e
      split
      · exact h1
      · exact ih (h1.applyRecord ..) _

theorem Tidy.readList (h : Tidy P False s) (w : Who) (va n : Nat) : Tidy P False (s.readList w va n).2 := by
  unfold State.readList
  split
  · next e => exact (h.readVirtual ..).snd e
  · next e =>
    have h1 := (h.readVirtual ..).snd e
    split <;> exact h1

theorem Tidy.readPending (h : Tidy P False s) (w : Who) (f : LogFields) : Tidy P False (s.readPending w f).2 := by
  unfold State.readPending
  split
  · next e => exact (h.readList ..).snd e
  · next e =>
    have h1 := (h.readList ..).snd e
    dsimp only
    split
    · next e2 => exact (h1.readList ..).snd e2
    · next e2 => exact (h1.readList ..).snd e2

theorem Tidy.restorePending (h : Tidy P False s) (part job : Nat) (list : List Nat) :
    Tidy P False (s.restorePending part job list) := by
  unfold State.restorePending
  dsimp only
  refine Tidy.foldl (fun u a k => ?_) _ (Tidy.mapPart (Tidy.foldl (fun _ _ k => Tidy.ite (k.returnCell ..) k) _ h) ..)
  split
  · next e => exact ((k.statusAt ..).snd e).reinstate ..
  · next e => exact ((k.statusAt ..).snd e).logModule ..

theorem Tidy.markMismatch (h : Tidy P False s) (part job : Nat) : Tidy P False (s.markMismatch part job) := by
  unfold State.markMismatch
  dsimp only
  split
  · split
    · exact h
    · split
      · exact (h.writeLaunch ..).mapPart ..
      · split
        · next e => exact (((h.statusAt ..).snd e).writeDispatch ..).mapPart ..
        · next e => exact ((h.statusAt ..).snd e).mapPart ..
  · exact h

theorem Tidy.repost (h : Tidy P False s) (part job : Nat) (as : List Nat) : Tidy P False (s.repost part job as) := by
  induction as generalizing s with
  | nil => exact h
  | cons a as ih => exact ih ((h.post ..).logPost ..)

theorem Tidy.replay (h : Tidy P False s) (part job : Nat) : Tidy P False (s.replay part job) := by
  unfold State.replay
  dsimp only
  split
  · exact h.failJob ..
  · split
    · next e =>
      have h1 := (h.replayRecords ..).snd e
      split
      · exact (h1.logDie ..).failJob ..
      · exact (h1.logModule ..).failJob ..
    · next e =>
      have h1 := (h.replayRecords ..).snd e
      split
      · next e2 =>
        have h2 := (h1.readPending ..).snd e2
        split
        · exact (h2.logDie ..).failJob ..
        · exact (h2.logModule ..).failJob ..
      · next e2 =>
        have h2 := (h1.readPending ..).snd e2
        refine Tidy.ite (Tidy.failJob ?_ ..) (Tidy.mapPart ?_ ..) <;>
          exact (((h2.mapPart ..).restorePending ..).repost ..).markMismatch ..

/-! ### Requests that post work, stop and resume a partition, and move its state out and in -/

theorem Tidy.chainPostReply (h : Tidy P False s) (m : Message) : Tidy P False (chainPostReply m s).2 := by
  refine h.guarded _ ?_
  split
  · next e => exact (h.post ..).snd e
  · next e =>
    have h1 := (h.post ..).snd e
    split
    · next e2 => exact ((h1.readDispatch ..).snd e2).logPost ..
    · next e2 => exact (h1.readDispatch ..).snd e2

theorem Tidy.respond (h : Tidy P Q s) (x : BitVec 128) (st : Status) (bs : List Byte) : Tidy P Q (s.respond x st bs) := h

theorem Tidy.completeStop (h : Tidy P Q s) (part : Nat) : Tidy P Q (s.completeStop part) := by
  unfold State.completeStop
  dsimp only
  split
  · exact Tidy.ite (((h.setPart ..).forgetStarts part).respond ..) h
  · exact h

theorem Tidy.completeForce (h : Tidy P Q s) (part : Nat) : Tidy P Q (s.completeForce part) := by
  unfold State.completeForce
  dsimp only
  split
  · exact Tidy.ite (((h.setPart ..).forgetStarts part).respond ..) h
  · exact h

theorem Tidy.stopReply (h : Tidy P Q s) (m : Message) : Tidy P Q (stopReply m s).2 :=
  h.guarded _ ((h.mapPart ..).completeStop _)

theorem Tidy.forceStopReply (h : Tidy P Q s) (m : Message) : Tidy P Q (forceStopReply m s).2 :=
  h.guarded _ ((Tidy.foldl (fun _ _ k => k.rollback ..) _ (h.mapPart ..)).completeForce _)

theorem Tidy.stateExportReply (h : Tidy P Q s) (m : Message) : Tidy P Q (stateExportReply m s).2 := h.guarded _ h

theorem Tidy.stateImportReply (h : Tidy P Q s) (m : Message) : Tidy P Q (stateImportReply m s).2 := by
  unfold Machine.stateImportReply
  dsimp only
  split
  · exact h
  · split
    · exact h
    · split
      · exact h
      · exact h.setPart ..

theorem Tidy.installCopy (h : Tidy P Q s) (n : Nat) (x : List Byte) : Tidy P Q (s.installCopy n x) :=
  (h.mapTile ..).startChunks ..

theorem Tidy.installCopies (h : Tidy P Q s) (n : Nat) : Tidy P Q (s.installCopies n) := by
  unfold State.installCopies
  dsimp only
  split
  · exact h
  · exact Tidy.foldl (fun _ _ k => k.installCopy ..) _ (h.mapPart ..)

theorem Tidy.tileFor {n : Nat} {part : Nat} {l : Launch} {i : Nat} (h : Tidy P False s) (e : s.tileFor part l i = some (n, t)) :
    Tidy P False t := by
  unfold State.tileFor at e
  dsimp only at e
  split at e
  · cases e; exact h
  · obtain ⟨x, -, e2⟩ := Option.map_eq_some_iff.1 e
    cases e2
    exact (h.startTask ..).mapTile ..

theorem Tidy.takeCopy (h : Tidy P False s) (part : Nat) (x : List Byte) : Tidy P False (s.takeCopy part x) := by
  unfold State.takeCopy
  dsimp only
  split
  · split
    · next e => exact (h.tileFor e).installCopy ..
    · exact h.mapPart ..
  · exact h.mapPart ..

theorem Tidy.retakeCopies (h : Tidy P Q s) (part : Nat) : Tidy P Q (s.retakeCopies part) :=
  Tidy.ite (h.attempt (fun _ k => Tidy.foldl (fun _ _ k => k.takeCopy ..) _ (k.mapPart ..))) h

theorem Tidy.takeImports (h : Tidy P False s) (part : Nat) : Tidy P False (s.takeImports part) :=
  Tidy.foldl (fun _ _ k => k.takeCopy ..) _ (Tidy.mapPart (Tidy.foldl (fun _ _ k => k.reinstate ..) _ h) ..)

theorem Tidy.resumeReply (h : Tidy P False s) (m : Message) : Tidy P False (resumeReply m s).2 := by
  have h1 := (h.mapPart m.part (fun p => { p.freeJobs with state := .running })).activate m.part
  exact h.guarded _ (Tidy.done ((Tidy.ite h1 (h1.startMonitor _)).takeImports _))

/-! ### The execution of requests -/

theorem Tidy.handle (h : Tidy P False s) (m : Message) : Tidy P False (handle m s).2 := by
  generalize e : Machine.handle m = f
  unfold Machine.handle at e
  split at e <;> subst e
  · exact h.infoReply m
  · exact h.recordClearReply m
  · exact h.powerCapReply m
  · exact h.firmwareImageReply m
  · exact h.partCreateReply m
  · exact h.partDestroyReply m
  · exact h.monitorLoadReply m
  · exact h.keyInstallReply m
  · exact h.keyClearReply m
  · exact h.partConfigReply m
  · exact h.memWriteReply m
  · exact h.memReadReply m
  · exact h.memWriteRawReply m
  · exact h.memReadRawReply m
  · exact h.kilnReadReply m
  · exact h.kilnWriteReply m
  · exact h.chainPostReply m
  · exact h.stopReply m
  · exact h.forceStopReply m
  · exact h.resumeReply m
  · exact h.dirtyScanReply m
  · exact h.stateExportReply m
  · exact h.stateImportReply m
  · exact h.attestReply m
  · exact h.errorReadReply m
  · exact h.snapshotTriggerReply m
  · exact h.snapshotReadReply m
  · exact h

theorem Tidy.dropImages (h : Tidy P Q s) (m : Message) : Tidy P Q (s.dropImages m) :=
  Tidy.ite (Tidy.ite h h) (Tidy.ite h (h.mapPart ..))

theorem Tidy.dropImage (h : Tidy P Q s) (m : Message) : Tidy P Q (s.dropImage m) := Tidy.ite h (Tidy.ite (h.mapPart ..) h)

theorem Tidy.perform (h : Tidy P False s) (m : Message) : Tidy P False (s.perform m).2 := by
  unfold State.perform
  dsimp only
  split
  · exact h
  · split
    · exact h
    · split
      · exact h
      · split
        · exact h.dropImages m
        · split
          · exact (h.dropImages m).dropImage m
          · exact (h.dropImages m).handle m

theorem Tidy.answerRequest (h : Tidy P False s) (m : Message) : Tidy P False (s.answerRequest m) := by
  unfold State.answerRequest
  split
  · next e => exact ((h.perform m).snd e).respond ..
  · next e => exact (h.perform m).snd e

theorem Tidy.runRequest (h : Tidy P Q s) (m : Message) : Tidy P Q (s.runRequest m).2 := by
  unfold State.runRequest
  split
  · next e => exact h.made (fun _ k => k.answerRequest m) e
  · exact h.attempt (fun _ k => k.answerRequest m)

theorem Tidy.forgetTime (h : Tidy P Q s) (m : Message) : Tidy P Q (s.forgetTime m) := h

theorem Tidy.releaseFrom (h : Tidy P Q s) (before ms : List Message) : Tidy P Q (State.releaseFrom before ms s) := by
  induction ms generalizing s before with
  | nil => exact h
  | cons m ms ih =>
    unfold State.releaseFrom
    split
    · exact ih h _
    · split
      · next e => exact ih (((h.runRequest m).snd e).forgetTime m) _
      · next e => exact ih ((h.runRequest m).snd e) _

theorem Tidy.release (h : Tidy P Q s) : Tidy P Q s.release := h.releaseFrom ..

theorem Tidy.takeRequest (h : Tidy P Q s) (m : Message) : Tidy P Q (s.takeRequest m) := by
  unfold State.takeRequest
  dsimp only
  split
  · exact h
  · split
    · next e => exact ((Tidy.runRequest (s := { s with control := s.control.accept m }) h m).snd e).release
    · next u e =>
      have h1 : Tidy P Q u := (Tidy.runRequest (s := { s with control := s.control.accept m }) h m).snd e
      exact h1

theorem arriveRequest_tidied (name : String) (due : Message → Bool) (h : Tidy P Q s) : Tidied P Q (arriveRequest name due s) :=
  .unlessLate (.ite (.next (h.takeRequest _)) (.next h))

theorem arriveType_tidied (name : String) (ty : Nat) (h : Tidy P Q s) : Tidied P Q (arriveType name ty s) :=
  arriveRequest_tidied _ _ h

/-! ### What ends a partition's waiting -/

theorem Tidy.settle (h : Tidy P Q s) (part : Nat) : Tidy P Q (s.settle part) :=
  ((((h.completeStop part).completeForce part).retakeCopies part).reserve part).release

theorem Tidy.goOn (h : Tidy P Q s) : Tidy P Q s.goOn :=
  (Tidy.foldl (fun _ _ k => k.retakeCopies _) _ (Tidy.foldl (fun _ _ k => k.duePosts ..) _ h)).release

theorem execStopTimeout_tidied (part : Nat) (h : Tidy P Q s) : Tidied P Q (execStopTimeout part s) := by
  have h1 := h.settle part
  unfold execStopTimeout
  dsimp only
  refine .unless ?_
  split
  · exact .unlessLate (.next ((h1.setPart ..).respond ..).release)
  · exact .whenDue h1

theorem execSnapshotLatch_tidied (h : Tidy P Q s) : Tidied P Q (execSnapshotLatch s) := by
  unfold execSnapshotLatch
  dsimp only
  split
  · exact .unlessLate (.next h)
  · exact .refused

theorem execDuplicateRequest_tidied (h : Tidy P Q s) : Tidied P Q (execDuplicateRequest s) := by
  unfold execDuplicateRequest
  dsimp only
  refine .unlessLate ?_
  split
  · exact .next h
  · exact .next h
  · exact .refused
end

section
variable {P Q : Prop} {s t : State}

/-! ### What leaves a tile -/

theorem whenDue_tidied {name : String} {r : Option State} (h : ∀ t, r = some t → Tidy P Q t) : Tidied P Q (whenDue name r) := by
  unfold whenDue
  split
  · exact .next (h _ rfl)
  · exact .refused

theorem execKilnOperationPerform_tidied (tile k : Nat) (h : Tidy P Q s) : Tidied P Q (execKilnOperationPerform tile k s) :=
  .unless (.unlessLate (whenDue_tidied (fun _ e => h.performKiln e)))

theorem execKnResultReturn_tidied (tile : Nat) (h : Tidy P Q s) : Tidied P Q (execKnResultReturn tile s) :=
  .unless (.unlessLate (whenDue_tidied (fun _ e => h.returnKiln e)))

theorem execLinkMessageArrive_tidied (tile k : Nat) (h : Tidy P Q s) : Tidied P Q (execLinkMessageArrive tile k s) :=
  .unless (.unlessLate (whenDue_tidied (fun _ e => h.deliverMessage e)))

theorem execRemoteWritePerform_tidied (tile k : Nat) (h : Tidy P Q s) : Tidied P Q (execRemoteWritePerform tile k s) := by
  unfold execRemoteWritePerform
  refine .unless ?_
  dsimp only
  split
  · refine .unlessLate ?_
    split
    · exact .next (h.refuseAccess ..)
    · exact .next ((h.mapTile ..).accessDone ..)
    · refine .unlessLate ?_
      split
      · exact .next (h.refuseAccess ..)
      · next e => exact .next ((h.request e).mapTile ..)
    · exact .next (h.refuseAccess ..)
  · exact .refused

theorem execLinkResend_tidied (tile k : Nat) (h : Tidy P Q s) : Tidied P Q (execLinkResend tile k s) := by
  unfold execLinkResend
  refine .unless ?_
  dsimp only
  split
  · exact .whenDue (h.mapTile ..)
  · exact .refused

/-! ### What a flit asks of the module -/

theorem Tidy.homePages (h : Tidy P Q s) (w : Who) (r : Right) (ps : List (Nat × Nat)) : Tidy P Q (s.homePages w r ps).2 := by
  induction ps generalizing s with
  | nil => exact h
  | cons p ps ih =>
    unfold State.homePages
    split
    · next e => exact (h.translate ..).snd e
    · next e =>
      have h1 := (h.translate ..).snd e
      split
      · exact h1
      · split
        · exact h1
        · split
          · next e2 => exact (ih h1).snd e2
          · next e2 => exact (ih h1).snd e2

theorem Tidy.writeHome (h : Tidy P Q s) (w : Who) (ls : List PageLeaf) (off : Nat) (rs : List (Nat × List Byte))
    (glaze : Option Nat) (poison : Bool) : Tidy P Q (s.writeHome w ls off rs glaze poison) := by
  unfold State.writeHome
  split
  · exact h.writePiece ..
  · exact Tidy.foldl (fun _ _ k => k.writeMapped ..) _ h

theorem Tidy.foreignWrite (h : Tidy P Q s) (part job launch : Nat) (a : Word) (rs : List (Nat × List Byte)) (user : Bool)
    (glaze : Option Nat) (add poison : Bool) (sem : Option (Nat × Nat)) :
    Tidy P Q (s.foreignWrite part job launch a rs user glaze add poison sem).2 := by
  unfold State.foreignWrite
  dsimp only
  split
  · exact h
  · split
    · exact h
    · split
      · next e => exact (h.homePages ..).snd e
      · next e => exact ((h.homePages ..).snd e).writeHome ..
    · exact Tidy.foldl (fun _ _ k => Tidy.ite (k.addCell ..) (k.writeKiln ..)) _ h
    · split
      · exact h
      · exact h.mapTile ..
    · split
      · exact h
      · exact h.mapTile ..
    · exact h

theorem Tidy.fullLine (h : Tidy P Q s) (line grade : Nat) (poison : Bool) : Tidy P Q (s.fullLine line grade poison) := h

theorem Tidy.foreignLine (h : Tidy P Q s) (part job line grade : Nat) (poison : Bool) :
    Tidy P Q (s.foreignLine part job line grade poison).2 := by
  unfold State.foreignLine
  split
  · exact h
  · exact h.fullLine ..

theorem Tidy.notifyLines (h : Tidy P Q s) (part job : Nat) (as : List Nat) : Tidy P Q (s.notifyLines part job as).2 := by
  induction as generalizing s with
  | nil => exact h
  | cons a as ih => exact ih (h.notifyPoison ..)

theorem Tidy.readHome (h : Tidy P Q s) (part job : Nat) (ls : List PageLeaf) (glaze : Bool) :
    Tidy P Q (s.readHome part job ls glaze).2 := (h.readMapped ls).notifyLines ..

theorem Tidy.foreignRead (h : Tidy P Q s) (part job launch : Nat) (a : Word) (n : Nat) (user glaze code : Bool) :
    Tidy P Q (s.foreignRead part job launch a n user glaze code).2 := by
  unfold State.foreignRead
  dsimp only
  split
  · exact h
  · split
    · next e => exact (h.homePages ..).snd e
    · next e => exact ((h.homePages ..).snd e).readHome ..
  · exact h
  · exact h
  · exact h

theorem Tidy.foreignLatch (h : Tidy P Q s) (part job : Nat) (cell : Word) (up : Bool) :
    Tidy P Q (s.foreignLatch part job cell up).2 := by
  unfold State.foreignLatch
  dsimp only
  split
  · exact h
  · split
    · next e =>
      have h1 := (h.homePages ..).snd e
      split
      · exact (h1.latchHere ..).notifyLines ..
      · exact h1.moveUse ..
    · next e => exact (h.homePages ..).snd e
    · next e => exact (h.homePages ..).snd e

theorem Tidy.foreignKiln (h : Tidy P Q s) (part job launch : Nat) (o : KilnOp) : Tidy P Q (s.foreignKiln part job launch o).2 := by
  unfold State.foreignKiln
  dsimp only
  split
  · exact h
  · split
    · exact h.kilnPerform ..
    · exact h
    · exact h

theorem Tidy.foreignMessage (h : Tidy P Q s) (part job launch : Nat) (m : Outgoing) :
    Tidy P Q (s.foreignMessage part job launch m).2 := by
  unfold State.foreignMessage
  dsimp only
  split
  · split
    · exact h
    · exact h.mapTile ..
  · split <;> exact h

theorem Tidy.hearPoison (h : Tidy P Q s) (part : Nat) (va : Word) : Tidy P Q (s.hearPoison part va) := by
  unfold State.hearPoison
  dsimp only
  split <;> exact h

/-- A flit that leaves unless its port is gone. -/
theorem Tidy.sendFlit_getD (h : Tidy P Q s) (f : Flit) : Tidy P Q ((s.sendFlit f).getD s) := h.getD (fun _ e => h.sendFlit e)

theorem Tidy.sendAnswer (h : Tidy P Q s) (f : Flit) (owed : List Nat) : Tidy P Q (s.sendAnswer f owed) :=
  Tidy.ite (h.sendFlit_getD f) h

theorem Tidy.hearAnswer (h : Tidy P Q s) (tag : Nat) (a : Answer) : Tidy P Q (s.hearAnswer tag a) := by
  have h1 := h.takeAnswer tag a
  refine Tidy.ite h (Tidy.ite (Tidy.goOn (Tidy.answerAwaited ?_ ..)) ?_)
  · exact h1
  · exact h1

theorem Tidy.takeCargo (h : Tidy P Q s) (src part job launch tag : Nat) (c : Cargo) :
    Tidy P Q (s.takeCargo src part job launch tag c) := by
  unfold State.takeCargo
  dsimp only
  split
  · exact h.hearPoison ..
  · exact (h.foreignWrite ..).sendAnswer ..
  · exact (h.foreignLine ..).sendAnswer ..
  · exact (h.foreignRead ..).sendAnswer ..
  · exact (h.foreignLatch ..).sendAnswer ..
  · exact (h.foreignKiln ..).sendAnswer ..
  · exact (h.foreignMessage ..).sendAnswer ..
  · exact h.hearAnswer ..

/-! ### Acknowledgements, and ports that fail -/

theorem Tidy.acknowledged (h : Tidy P Q s) (tags : List Nat) : Tidy P Q (s.acknowledged tags) := by
  unfold State.acknowledged
  have h1 (xs ys : List Held) (qs : List Awaited) (ts : SMap Tile) : Tidy P Q
      (xs.foldl (fun s x => (s.sendFlit x.flit).getD s) { s with answers := ys, awaited := qs, tiles := ts }) :=
    Tidy.foldl (fun _ _ k => k.sendFlit_getD _) xs h
  exact Tidy.ite (h1 ..) (h1 ..).goOn

theorem Tidy.hearFlit (h : Tidy P Q s) (port f : Nat) : Tidy P Q (s.hearFlit port f) :=
  Tidy.ite (h.setPort ..) ((h.setPort ..).acknowledged _)

theorem Tidy.mapPort (h : Tidy P Q s) (n : Nat) (f : Port → Port) : Tidy P Q (s.mapPort n f) := h

theorem Tidy.acceptFlit (h : Tidy P Q s) (port f : Nat) : Tidy P Q (s.acceptFlit port f) := by
  unfold State.acceptFlit
  dsimp only
  split
  · exact (h.mapPort ..).mapPort ..
  · split
    · split
      · exact (h.mapPort ..).takeCargo ..
      · exact h.mapPort ..
    · exact h.mapPort ..

theorem execFlitReceive_tidied (port : Nat) (flit : BitVec 2048) (h : Tidy P Q s) : Tidied P Q (execFlitReceive port flit s) := by
  have h1 := h.hearFlit port flit.toNat
  exact .unless (.unlessLate (.ite (.next (h.mapPort ..)) (.ite (.next (h.mapPort ..)) (.ite (.next h1)
    (.ite (.next (h1.mapPort ..)) (.next (h1.acceptFlit ..)))))))

theorem execAckOnlyFlit_tidied (port : Nat) (h : Tidy P Q s) : Tidied P Q (execAckOnlyFlit port s) :=
  .unless (.whenDue (h.mapPort ..))

theorem Tidy.failPort (h : Tidy P Q s) (port : Nat) : Tidy P Q (s.failPort port) := h

theorem execPortRetrain_tidied (port : Nat) (trained : Bool) (h : Tidy P Q s) : Tidied P Q (execPortRetrain port trained s) :=
  .unless (.unlessLate (.ite (.next (h.setPort ..)) (.ite (.next (h.setPort ..)) (.next (h.failPort port)))))

theorem execRouteSwitch_tidied (part dst cls : Nat) (h : Tidy P Q s) : Tidied P Q (execRouteSwitch part dst cls s) := by
  unfold execRouteSwitch
  refine .unless ?_
  dsimp only
  split
  · split
    · exact .whenDue ((h.mapPart ..).setPort ..)
    · exact .refused
  · exact .refused

/-! ### The module -/

/-- A start leaves a memory of zeros and nothing in the making. -/
theorem Tidy.started (s : State) (b : BringUp) : Tidy P Q (s.started b) := by
  have fresh {u : State} (hm : u.memory = []) (hw : u.want = none) : Tidy P Q u := ⟨fun _ => by rw [hm]; rfl, fun _ => hw⟩
  unfold State.started
  dsimp only
  refine Tidy.ite (fresh rfl rfl) ?_
  unfold State.bringUpReport
  exact Tidy.ite (fresh rfl rfl) (fresh rfl rfl)

theorem Tidy.moduleFault (h : Tidy P Q s) (ds : List Nat) : Tidy P Q (s.moduleFault ds) :=
  Tidy.foldl (fun _ _ k => (k.rollback ..).settle _) _ h

theorem execEdgeDown_tidied (edge : Nat) (h : Tidy P Q s) : Tidied P Q (execEdgeDown edge s) := by
  refine .unless (.unlessLate (.next (Tidy.moduleFault ?_ _)))
  exact h

theorem execThermalCeilingLower_tidied (die : Nat) (h : Tidy P Q s) : Tidied P Q (execThermalCeilingLower die s) :=
  .unless (.next (h.mapDie ..))

theorem execThermalDispatchStop_tidied (heat : DieHeat) (h : Tidy P Q s) : Tidied P Q (execThermalDispatchStop heat s) :=
  .unless (.unlessLate (.next (h.mapDie ..)))

theorem execThermalForceStop_tidied (heat : DieHeat) (h : Tidy P Q s) : Tidied P Q (execThermalForceStop heat s) :=
  .unless (.unlessLate (.next (h.moduleFault _)))

theorem execDroopStretch_tidied (tile n : Nat) (h : Tidy P Q s) : Tidied P Q (execDroopStretch tile n s) :=
  .unless (.unlessLate (.next (h.mapTile ..)))

theorem execEmergencyDroopStretch_tidied (die n : Nat) (h : Tidy P Q s) : Tidied P Q (execEmergencyDroopStretch die n s) :=
  .unless (.whenDue (h.mapDie ..))

theorem Tidy.logFinding (h : Tidy P Q s) (x : Scrubbed) (code info : Nat) : Tidy P Q (s.logFinding x code info) := by
  unfold State.logFinding
  split <;> exact h

theorem Tidy.countCorrected (h : Tidy P Q s) (x : Scrubbed) : Tidy P Q (s.countCorrected x) := by
  refine Tidy.ite (Tidy.logFinding ?_ ..) ?_
  · exact h
  · exact h

theorem Tidy.poisonLine (h : Tidy P Q s) (unit : Store) (line : Nat) : Tidy P Q (s.poisonLine unit line) := by
  unfold State.poisonLine
  split <;> exact h

theorem Tidy.uncorrectable (h : Tidy P Q s) (unit : Store) (line : Nat) (byRead : Bool) :
    Tidy P Q (s.uncorrectable unit line byRead) := (h.poisonLine ..).logFinding ..

theorem Tidy.garble (h : Tidy P Q s) (unit : Store) (line : Nat) : Tidy P Q (s.garble unit line) := by
  unfold State.garble
  dsimp only
  split
  · exact h.of_canonical (memoryWf_writeBytes _ _ _) rfl
  · exact h
  · exact h

theorem Tidy.flipBits (h : Tidy P Q s) (line : Nat) (wrong : List Nat) : Tidy P Q (s.flipBits line wrong) :=
  h.of_canonical (memoryWf_writeBytes _ _ _) rfl

theorem execMemoryScrub_tidied (unit : Store) (line : Nat) (found : Finding) (h : Tidy P Q s) :
    Tidied P Q (execMemoryScrub unit line found s) := by
  unfold execMemoryScrub
  refine .unless (.ite (.next h) ?_)
  dsimp only
  split
  · exact .next h
  · exact .next (h.countCorrected _)
  · exact .next (h.uncorrectable ..)
  · exact .next (h.flipBits ..)
  · exact .ite (.next (h.nextFree.uncorrectable ..)) (.next (h.garble ..))

/-! ### Pre-emption and resumption -/

/-- The swap area is written for no job, so that no line of it is another module's (log 52). -/
theorem Tidy.writeSwap (h : Tidy P Q s) (part die : Nat) : Tidy P Q (s.writeSwap part die) :=
  h.nextFree.writeVirtual (fun _ => rfl) ..

theorem Tidy.switchOut (h : Tidy P Q s) (n : Nat) : Tidy P Q (s.switchOut n) := by
  unfold State.switchOut
  dsimp only
  split
  · exact h
  · exact Tidy.ite ((((h.forgetFills n).mapDie ..).mapTile ..).writeSwap ..) (h.mapTile ..)

theorem Tidy.resume (h : Tidy P False s) (x : Swapped) (n : Nat) : Tidy P False (s.resume x n) := by
  have h1 (o : CodeObject) (w : Who) (k : Task) {u : State} (hu : Tidy P False u) : Tidy P False
      ((((o.sections.map sectionOf).foldl (fun s y => s.placeSection w n o.addr false y) u).mapTile n
        (fun t => t.withDefined x.tile)).pinObject n k o) := ((hu.placeSections ..).mapTile ..).pinObject ..
  unfold State.resume
  dsimp only
  split
  · exact h
  · split
    · exact h1 _ _ _ ((h.mapDie ..).setTile ..)
    · exact h1 _ _ _ ((h.mapDie ..).setTile ..)
    · exact (h.mapDie ..).setTile ..

theorem execPreemption_tidied (tile : Nat) (h : Tidy P Q s) : Tidied P Q (execPreemption tile s) := by
  have h1 : Tidy P Q
      (match ({ s with cur := tile } : State).nextPlan with
        | some .switchOut => runPlan .switchOut { s with cur := tile }
        | _ => { s with cur := tile }) := by
    split
    · exact Tidy.runPlan (s := { s with cur := tile }) h trivial
    · exact h
  exact .unless (.ite (.next ((h1.switchOut tile).reserve _)) (.whenDue h1))

/-! ### The dispatcher -/

theorem ofPartition_tidied (part : Nat) {o : Outcome State Fault Refusal} (h : Tidied P Q o) : Tidied P Q (ofPartition part o) :=
  .unless h

theorem dispatcherStep_tidied (name : String) (part : Nat) (a : Asker) {f : State → State} (h : Tidy P Q s)
    (hf : ∀ u, Tidy P False u → Tidy P False (f u)) : Tidied P Q (dispatcherStep name part a f s) :=
  .outcome h hf (fun _ k => k.settle part)

theorem startingStep_tidied (name : String) (part addr index : Nat) {f : State → State} (h : Tidy P Q s)
    (hf : ∀ u, Tidy P False u → Tidy P False (f u)) : Tidied P Q (startingStep name part addr index f s) :=
  .outcome (h.abandon _) hf (fun _ k => k.reserve part)

theorem Tidy.readyStep (h : Tidy P False s) (part : Nat) (l : Launch) : Tidy P False (s.readyStep part l).2 := by
  unfold State.readyStep
  split
  next e =>
  have h1 := (h.predsRetired ..).snd e
  split
  next e2 =>
  have h2 := (h1.jobNow ..).snd e2
  split
  · exact (h2.becomeReady ..).requestPreemption part
  · exact h2

theorem execLaunchReady_tidied (part addr : Nat) (h : Tidy P Q s) : Tidied P Q (execLaunchReady part addr s) := by
  unfold execLaunchReady
  refine ofPartition_tidied part ?_
  split
  · next l _ =>
    dsimp only
    have h1 := h.attempt (a := .ready part addr) (f := fun s => (s.readyStep part l).2) (fun _ k => k.readyStep part l)
    generalize s.attempt (.ready part addr) (fun s => (s.readyStep part l).2) = a at h1 ⊢
    cases a with
    | made t => exact .ite (.next (Tidy.settle h1 part)) (.whenDue (h.forget _))
    | asked t => exact .next h1
    | early => exact .refused
  · exact .refused

theorem Tidy.dispatchOne (h : Tidy P False s) (part : Nat) (l : Launch) (n i : Nat) : Tidy P False (s.dispatchOne part l n i) :=
  (h.startTask ..).installCopies n

theorem Tidy.dispatched (h : Tidy P False s) (part : Nat) (l : Launch) (count : Nat) : Tidy P False (s.dispatched part l count) :=
  (h.writeLaunch ..).requestPreemption part

theorem Tidy.dispatchStep (h : Tidy P False s) (part : Nat) (l : Launch) (n : Nat) : Tidy P False (s.dispatchStep part l n) :=
  ((h.takeTurn part).dispatchOne ..).dispatched ..

theorem Tidy.startGang (h : Tidy P False s) (part : Nat) (l : Launch) (i : Nat) (ns : List Nat) :
    Tidy P False (s.startGang part l i ns) := by
  induction ns generalizing s i with
  | nil => exact h
  | cons n ns ih => exact ih (h.dispatchOne ..) _

theorem Tidy.gangStep (h : Tidy P False s) (part : Nat) (l : Launch) (tiles : List Nat) : Tidy P False (s.gangStep part l tiles) :=
  ((h.takeTurn part).startGang ..).dispatched ..

theorem execTaskDispatch_tidied (part addr : Nat) (h : Tidy P Q s) : Tidied P Q (execTaskDispatch part addr s) := by
  unfold execTaskDispatch
  refine ofPartition_tidied part ?_
  split
  · split
    · exact .ite (startingStep_tidied _ _ _ _ h (fun _ k => k.dispatchStep ..)) .refused
    · exact .refused
  · exact .refused

theorem execGangStart_tidied (part addr : Nat) (h : Tidy P Q s) : Tidied P Q (execGangStart part addr s) := by
  unfold execGangStart
  refine ofPartition_tidied part ?_
  split
  · split
    · exact .ite (startingStep_tidied _ _ _ _ h (fun _ k => k.gangStep ..)) .refused
    · exact .refused
  · exact .refused

theorem execFabricClockUnpin_tidied (die : Nat) (h : Tidy P Q s) : Tidied P Q (execFabricClockUnpin die s) :=
  .unless (.whenDue h)

theorem execTaskResume_tidied (part addr index tile : Nat) (h : Tidy P Q s) : Tidied P Q (execTaskResume part addr index tile s) := by
  unfold execTaskResume
  refine .unless (ofPartition_tidied part ?_)
  split
  · exact .ite (startingStep_tidied _ _ _ _ h (fun _ k => (k.takeTurn part).resume ..)) .refused
  · exact .refused

theorem execEffectivePriorityRise_tidied (part : Nat) (h : Tidy P Q s) : Tidied P Q (execEffectivePriorityRise part s) :=
  ofPartition_tidied part (.next ((h.requestPreemption part).reserve part))

theorem Tidy.retireDispatched (h : Tidy P False s) (n : Nat) (k : Task) (l : Launch) : Tidy P False (s.retireDispatched n k l) := by
  unfold State.retireDispatched
  dsimp only
  split
  · next e => exact ((h.checkDigest ..).snd e).mismatched ..
  · next e =>
    have h1 := ((h.checkDigest ..).snd e).mapTile n Tile.released
    exact Tidy.ite (((h1.writeDispatch ..).writeLaunch ..).retireLaunch ..) ((h1.writeDispatch ..).writeLaunch ..)

theorem Tidy.retireTask (h : Tidy P False s) (n : Nat) (k : Task) : Tidy P False (s.retireTask n k) := by
  unfold State.retireTask
  dsimp only
  split
  · exact (h.mapTile ..).mapTile ..
  · exact h.mapTile ..
  · split
    · exact h.retireDispatched ..
    · exact h.mapTile ..

theorem execTaskRetire_tidied (tile : Nat) (h : Tidy P Q s) : Tidied P Q (execTaskRetire tile s) := by
  unfold execTaskRetire
  refine .unless ?_
  split
  · exact .ite (dispatcherStep_tidied _ _ _ h (fun _ k => (k.forgetFills tile).retireTask ..)) .refused
  · exact .refused

theorem execCheckpointTakeEffect_tidied (part job : Nat) (h : Tidy P Q s) : Tidied P Q (execCheckpointTakeEffect part job s) :=
  ofPartition_tidied part
    (.ite (dispatcherStep_tidied _ _ _ h (fun _ k => (k.takeCheckpoints part job).requestPreemption part)) .refused)

theorem execLogReplay_tidied (part job : Nat) (h : Tidy P Q s) : Tidied P Q (execLogReplay part job s) :=
  ofPartition_tidied part
    (.ite (dispatcherStep_tidied _ _ _ h (fun _ k => (k.replay part job).requestPreemption part)) .refused)

/-! ### Steps of system registers and of tiles -/

theorem writeRegister_tidied (name : String) (n : Nat) (v : Word) (h : Tidy P Q s) : Tidied P Q (writeRegister name n v s) := by
  unfold writeRegister
  dsimp only
  split
  · split
    · exact .next (h.takeEvent ..)
    · exact .next (h.writeSysreg ..)
  · exact .refused

theorem writeSelected_tidied (name : String) (n : Nat) (v : Word) (selected : Bool) (h : Tidy P Q s) :
    Tidied P Q (writeSelected name n v selected s) := .ite (writeRegister_tidied _ _ _ h) .refused

theorem Tidy.invalidate (h : Tidy P Q s) (part : Nat) (v : Word) : Tidy P Q (s.invalidate part v) := h

theorem execTlbiComplete_tidied (part : Nat) (h : Tidy P Q s) : Tidied P Q (execTlbiComplete part s) := by
  unfold execTlbiComplete
  refine .unless ?_
  split
  · exact .whenDue ((h.invalidate ..).mapPart ..)
  · exact .refused

theorem execMxCommandStart_tidied (tile : Nat) (h : Tidy P Q s) : Tidied P Q (execMxCommandStart tile s) :=
  .unless (.ite (.whenDue (h.setTile ..)) (cycleWhen_tidied _ _ _ h))

theorem execMxCommandRetire_tidied (tile : Nat) (h : Tidy P Q s) : Tidied P Q (execMxCommandRetire tile s) := by
  unfold execMxCommandRetire
  refine .unless (.ite ?_ (cycleWhen_tidied _ _ _ h))
  split
  · exact .next ((h.retireMatrix ..).mapTile ..)
  · exact .refused

theorem execCodeFillComplete_tidied (tile line : Nat) (h : Tidy P Q s) : Tidied P Q (execCodeFillComplete tile line s) := by
  unfold execCodeFillComplete
  refine .unless ?_
  dsimp only
  split
  · have hf : ∀ u, Tidy P False u → Tidy P False
        (((u.mapTile tile (fun t => { t with fills := t.fills.filter (fun f => f.1 != line) })).readCodeLine
          ((u.tile tile).who tile) line).2) := fun _ k => (k.mapTile ..).readCodeLine ..
    split
    · next e => exact .next (h.made (fun _ k => Tidy.mapTile (hf _ k) ..) e)
    · next e => exact .next (h.asked (fun _ k => Tidy.mapTile (hf _ k) ..) e)
    · exact .refused
  · exact .refused
end

section
variable {P Q : Prop} {s t : State}

/-! ### Every step of the table -/

theorem execCopyStart_tidied (tile cmd : Nat) (h : Tidy P Q s) : Tidied P Q (execCopyStart tile cmd s) := by
  unfold execCopyStart
  refine .unless ?_
  dsimp only
  split
  · exact .whenDue (h.setTile ..)
  · exact .refused

theorem execChunkLanded_tidied (tile cmd : Nat) (step : ChunkStep) (h : Tidy P Q s) :
    Tidied P Q (execChunkLanded tile cmd step s) := by
  unfold execChunkLanded
  refine .unless ?_
  dsimp only
  split
  · exact .whenDue (h.moveChunk ..)
  · exact .refused

theorem execResultArrival_tidied (tile : Nat) (h : Tidy P Q s) : Tidied P Q (execResultArrival tile s) := cycleWhen_tidied _ _ _ h
theorem execTileStorePerform_tidied (tile : Nat) (h : Tidy P Q s) : Tidied P Q (execTileStorePerform tile s) := cycleWhen_tidied _ _ _ h
theorem execCopyFault_tidied (tile : Nat) (h : Tidy P Q s) : Tidied P Q (execCopyFault tile s) := cycleWhen_tidied _ _ _ h
theorem execPoisonConsumed_tidied (tile : Nat) (h : Tidy P Q s) : Tidied P Q (execPoisonConsumed tile s) := cycleWhen_tidied _ _ _ h
theorem execWaitTimeout_tidied (tile : Nat) (h : Tidy P Q s) : Tidied P Q (execWaitTimeout tile s) := cycleWhen_tidied _ _ _ h
theorem execUserCompletion_tidied (tile : Nat) (h : Tidy P Q s) : Tidied P Q (execUserCompletion tile s) := cycleWhen_tidied _ _ _ h
theorem execKarmWrite_tidied (v : Word) (h : Tidy P Q s) : Tidied P Q (execKarmWrite v s) := writeRegister_tidied _ _ _ h
theorem execSemarmWrite_tidied (v : Word) (h : Tidy P Q s) : Tidied P Q (execSemarmWrite v s) := writeRegister_tidied _ _ _ h
theorem execUnassignedType_tidied (h : Tidy P Q s) : Tidied P Q (execUnassignedType s) := arriveRequest_tidied _ _ h
theorem execPartConfigRead_tidied (h : Tidy P Q s) : Tidied P Q (execPartConfigRead s) := arriveRequest_tidied _ _ h
theorem execPartConfigReplace_tidied (h : Tidy P Q s) : Tidied P Q (execPartConfigReplace s) := arriveRequest_tidied _ _ h
theorem execPartConfigAppend_tidied (h : Tidy P Q s) : Tidied P Q (execPartConfigAppend s) := arriveRequest_tidied _ _ h
theorem execSnapshotTrigger_tidied (h : Tidy P Q s) : Tidied P Q (execSnapshotTrigger s) := arriveRequest_tidied _ _ h
theorem execSnapshotArm_tidied (h : Tidy P Q s) : Tidied P Q (execSnapshotArm s) := arriveRequest_tidied _ _ h

/-- A bundle whose slots perform nothing at a unit. -/
theorem cycle_tidied_of_ready {name : String} {xs : List Slot} {words : Nat} (hx : ∀ x ∈ xs, x.op = none) (h : Tidy P Q s) :
    Tidied P Q (cycle name (fun _ => .ready xs words) s) :=
  cycle_tidied (fun _ x m => (hx x m).symm ▸ .of_none) h

/-- A move into a trigger port, in a bundle of its own. -/
theorem issueOne_operationOf_tidied {name : String} {i : Instr} {m : Move} {op : Operation} (e : operationOf i = some op)
    (h : Tidy P Q s) : Tidied P Q (issueOne name i m op s) := issueOne_tidied (operationOf_tidies i op e) h

theorem exec_tidied (i : Instr) (h : Tidy P Q s) : Tidied P Q (exec i s) := by
  cases i with
  | moduleStart b | coldPowerCycle b => exact .next (.started ..)
  | edgeDown edge => exact execEdgeDown_tidied _ h
  | flitReceive port flit => exact execFlitReceive_tidied _ _ h
  | ackOnlyFlit port => exact execAckOnlyFlit_tidied _ h
  | portRetrain port trained => exact execPortRetrain_tidied _ _ h
  | routeSwitch part dst cls => exact execRouteSwitch_tidied _ _ _ h
  | thermalCeilingLower die => exact execThermalCeilingLower_tidied _ h
  | thermalDispatchStop heat => exact execThermalDispatchStop_tidied _ h
  | thermalForceStop heat => exact execThermalForceStop_tidied _ h
  | droopStretch tile n => exact execDroopStretch_tidied _ _ h
  | emergencyDroopStretch die n => exact execEmergencyDroopStretch_tidied _ _ h
  | memoryScrub unit line found => exact execMemoryScrub_tidied _ _ _ h
  | stopTimeout part => exact execStopTimeout_tidied _ h
  | snapshotLatch => exact execSnapshotLatch_tidied h
  | launchReady part addr => exact execLaunchReady_tidied _ _ h
  | taskDispatch part addr => exact execTaskDispatch_tidied _ _ h
  | fabricClockUnpin die => exact execFabricClockUnpin_tidied _ h
  | gangStart part addr => exact execGangStart_tidied _ _ h
  | taskRetire tile => exact execTaskRetire_tidied _ h
  | checkpointTakeEffect part job => exact execCheckpointTakeEffect_tidied _ _ h
  | logReplay part job => exact execLogReplay_tidied _ _ h
  | copyStart tile cmd => exact execCopyStart_tidied _ _ h
  | chunkLanded tile cmd step => exact execChunkLanded_tidied _ _ _ h
  | remoteWritePerform tile k => exact execRemoteWritePerform_tidied _ _ h
  | linkMessageArrive tile k => exact execLinkMessageArrive_tidied _ _ h
  | linkResend tile k => exact execLinkResend_tidied _ _ h
  | kilnOperationPerform tile k => exact execKilnOperationPerform_tidied _ _ h
  | knResultReturn tile => exact execKnResultReturn_tidied _ h
  | mxCommandStart tile => exact execMxCommandStart_tidied _ h
  | mxCommandRetire tile => exact execMxCommandRetire_tidied _ h
  | bundleIssue tile => exact execBundleIssue_tidied _ h
  | codeFillComplete tile line => exact execCodeFillComplete_tidied _ _ h
  | resultArrival tile => exact execResultArrival_tidied _ h
  | tileStorePerform tile => exact execTileStorePerform_tidied _ h
  | copyFault tile => exact execCopyFault_tidied _ h
  | poisonConsumed tile => exact execPoisonConsumed_tidied _ h
  | waitTimeout tile => exact execWaitTimeout_tidied _ h
  | userCompletion tile => exact execUserCompletion_tidied _ h
  | preemption tile => exact execPreemption_tidied _ h
  | taskResume part addr index tile => exact execTaskResume_tidied _ _ _ _ h
  | karmWrite value => exact execKarmWrite_tidied _ h
  | semarmWrite value => exact execSemarmWrite_tidied _ h
  | sysregWrite | ctxdatWrite | rankdatWrite | xwinWrite => exact writeRegister_tidied _ _ _ h
  | tlbiPage | tlbiPartition | jobctlSelect | jobctlRollback | jobctlFail => exact writeSelected_tidied _ _ _ _ h
  | tlbiComplete part => exact execTlbiComplete_tidied _ h
  | move m d => exact cycle_tidied_of_ready (fun _ hx => List.mem_singleton.1 hx ▸ rfl) h
  | filler => exact cycle_tidied_of_ready (fun _ hx => nomatch hx) h
  | effectivePriorityRise part => exact execEffectivePriorityRise_tidied _ h
  | duplicateRequest => exact execDuplicateRequest_tidied h
  | unassignedType => exact execUnassignedType_tidied h
  | partConfigRead => exact execPartConfigRead_tidied h
  | partConfigReplace => exact execPartConfigReplace_tidied h
  | partConfigAppend => exact execPartConfigAppend_tidied h
  | snapshotTrigger => exact execSnapshotTrigger_tidied h
  | snapshotArm => exact execSnapshotArm_tidied h
  | info | recordClear | powerCap | firmwareImage | partCreate | partDestroy | monitorLoad | keyInstall | keyClear | memWrite |
    memRead | memWriteRaw | memReadRaw | kilnRead | kilnWrite | chainPost | stop | forceStop | resume | dirtyScan | stateExport |
    stateImport | attest | errorRead | snapshotRead => exact arriveType_tidied _ _ h
  | _ => exact issueOne_operationOf_tidied rfl h

theorem Tidy.actOn (h : Tidy P Q s) (c : Cause) (rest : List Cause) : Tidy P Q (s.actOn c rest) :=
  (Tidy.act (s := { s with causes := rest }) h c).settle _

theorem step_tidied (h : Tidy P Q s) : Tidied P Q (step s) := by
  unfold step
  split
  · exact .next (h.actOn ..)
  · split
    · next x xs _ => exact exec_tidied (s := arrive x { s with agenda := xs }) x.what h
    · exact tileCycle_tidied h
end

/-- Settles O59: each part of `Tidy` is kept by every operation that a step is made of; the steps that may mark an access are tried
first, and what a trial marks is taken up by its end (`Tidy.attempt`). -/
theorem memoryStaysCanonical : Obligations.MemoryStaysCanonical := fun _ t e =>
  ⟨fun hm => (step_tidied (P := True) (Q := False) ⟨fun _ => hm, False.elim⟩ t e).1 trivial,
    fun hw => (step_tidied (P := False) (Q := True) ⟨False.elim, fun _ => hw⟩ t e).2 trivial⟩

end Sys2Proof.Machine
end

section
/-! PROOF. A tile with several records in flight that stand at one point: what fillers make of them while they wait, as they read the
tile store and as one writes it, and what a store leaves there. -/

namespace Sys2Proof.Machine

open Host (Outcome)

section

/-! ### Fillers, one after another -/

theorem OnlyHere.cur {s t : State} (h : OnlyHere s t) : t.cur = s.cur := by
  have := congrArg State.cur h.2
  exact this

theorem OnlyHere.trans {s t u : State} (h : OnlyHere s t) (k : OnlyHere t u) : OnlyHere s u := by
  refine ⟨fun n hn => (k.1 n (by rw [h.cur]; exact hn)).trans (h.1 n hn), ?_⟩
  have e : { u with tiles := s.tiles } = { t with tiles := s.tiles } := by
    have := congrArg (fun x : State => { x with tiles := s.tiles }) k.2
    exact this
  exact e.trans h.2

theorem fillers_trans {s t u : State} {m n : Nat} (h : Claims.Fillers m s t) (k : Claims.Fillers n t u) :
    Claims.Fillers (m + n) s u := by
  induction m generalizing s with
  | zero => rw [Nat.zero_add, show s = t from h]; exact k
  | succ m ih =>
    obtain ⟨v, hv, ht⟩ := h
    rw [Nat.succ_add]
    exact ⟨v, hv, ih ht⟩

theorem fillers_one {s t : State} (h : exec .filler s = .next t) : Claims.Fillers 1 s t := ⟨t, h, rfl⟩

/-! ### A tile with records in flight that all stand at one point -/

variable {t : Tile} {fs : List Flight}

/-- A tile with other records in flight. -/
def Tile.withFlights (t : Tile) (fs : List Flight) : Tile := t.setUnitsAt t.level { t.unitsAt t.level with flights := fs }

@[simp] theorem Tile.withFlights_level : (t.withFlights fs).level = t.level := by simp [Tile.withFlights]
@[simp] theorem Tile.withFlights_quires : (t.withFlights fs).quires = t.quires := by simp [Tile.withFlights]
@[simp] theorem Tile.withFlights_flying : (t.withFlights fs).flying = fs := by
  cases h : t.level <;> simp [Tile.withFlights, Tile.flying, Tile.unitsAt, Tile.setUnitsAt, h]
@[simp] theorem Tile.withFlights_bare : (t.withFlights fs).bare = t.bare := by
  cases h : t.level <;> simp [Tile.withFlights, Tile.bare, Tile.unitsAt, Tile.setUnitsAt, h]
theorem Tile.withFlights_nil : t.withFlights [] = t.cleared := rfl

theorem Tile.withFlights_flights : ((t.withFlights fs).unitsAt t.level).flights = fs := by
  have h := Tile.withFlights_flying (t := t) (fs := fs)
  rwa [Tile.flying, Tile.withFlights_level] at h

theorem Tile.unitsAt_self (hf : t.flying = fs) : { t.unitsAt t.level with flights := fs } = t.unitsAt t.level := by
  subst hf; rfl

theorem Tile.withFlights_self (hf : t.flying = fs) : t.withFlights fs = t := by
  rw [Tile.withFlights, Tile.unitsAt_self hf, Tile.setUnitsAt_unitsAt]

/-- A record that brings no event and changes no pc. -/
def Flight.plain (f : Flight) : Prop := (∀ i, f.body ≠ .poisoned i) ∧ f.body ≠ .ending ∧ ∀ a b, f.body ≠ .redirect a b

theorem Flight.plain.notSequence {f : Flight} (h : f.plain) : f.isSequence = false := by
  obtain ⟨-, h2, h3⟩ := h
  unfold Flight.isSequence
  split
  · next e => exact absurd e (h3 _ _)
  · next e => exact absurd e h2
  · rfl

theorem Flight.plain.linked {f : Flight} (h : f.plain) (pc : Word) : f.counted.linked pc = f.counted := by
  unfold Flight.linked
  split
  · next e => exact absurd e (h.2.2 _ _)
  · rfl

theorem Tile.dueRedirects_plain (hf : t.flying = fs) (hp : ∀ f ∈ fs, f.plain) : t.dueRedirects = [] := by
  unfold Tile.dueRedirects
  rw [show (t.unitsAt t.level).flights = fs from hf, List.filter_eq_nil_iff]
  intro f m
  split
  · next e => exact absurd e ((hp f m).2.2 _ _)
  · simp

/-- Nothing performs. -/
theorem Tile.perform_waits (hf : t.flying = fs) (hq : t.quires = []) (hd : ∀ f ∈ fs, f.due = false) : t.perform t.level = t := by
  have h1 : fs.filter Flight.due = [] := List.filter_eq_nil_iff.2 (fun f m => by simp [hd f m])
  have h2 : (fs.filter (fun f => !(f.due && f.run.isSome))).map (fun f => if f.due then f.loaded t else f) = fs := by
    rw [List.filter_eq_self.2 (fun f m => by simp [hd f m])]
    exact (List.map_congr_left (fun f m => by simp [hd f m])).trans (List.map_id fs)
  have hu : (t.unitsAt t.level).flights = fs := hf
  unfold Tile.perform
  simp only [hu, hq, h1, h2, List.length_nil, List.range_zero, List.filterMap_nil, List.map_nil, ite_self, List.append_nil,
    List.foldl_nil]
  rw [show t.setUnitsAt t.level { t.unitsAt t.level with flights := fs } = t from Tile.withFlights_self hf]
  exact Tile.noQuires hq

/-- Of records with cycles to go none arrives. -/
theorem Tile.arrive_waits {x : Tile} (hp : t.perform t.level = x) (hl : x.level = t.level) (hf : x.flying = fs) (hq : x.quires = [])
    (hr : ∀ f ∈ fs, f.remain ≠ 0) : t.arrive t.level = x := by
  have hu : (x.unitsAt t.level).flights = fs := by rw [← hl]; exact hf
  have hi (f : Flight) (m : f ∈ fs) : (f.remain == 0 && f.perf.isNone && !f.isSequence) = false := by simp [hr f m]
  have h1 : fs.filter (fun f => f.remain == 0 && f.perf.isNone && !f.isSequence) = [] :=
    List.filter_eq_nil_iff.2 (fun f m => by rw [hi f m]; exact Bool.false_ne_true)
  have h2 : fs.filter (fun f => !(f.remain == 0 && f.perf.isNone && !f.isSequence)) = fs :=
    List.filter_eq_self.2 (fun f m => by rw [hi f m]; rfl)
  have hs : x.setUnitsAt t.level { x.unitsAt t.level with flights := fs } = x := by
    rw [← hl]; exact Tile.withFlights_self hf
  unfold Tile.arrive
  simp only [hp, hu, h1, h2, prevailing_nil, List.foldl_nil, hs, hq, List.length_nil, upFrom, Tile.commit_quiet hq, ite_self]

/-- A start whose arrivals leave plain records. -/
theorem Tile.start_of_plain {x : Tile} (h : t.arrive t.level = x) (hf : x.flying = fs) (hp : ∀ f ∈ fs, f.plain) : t.start = x := by
  have hu : (x.unitsAt x.level).flights = fs := hf
  unfold Tile.start
  rw [h]
  simp only [Tile.dueRedirects_plain hf hp, List.foldl_nil, hu]
  rw [List.filter_eq_self.2]
  · exact Tile.withFlights_self hf
  · intro f m
    split
    · next e => exact absurd e ((hp f m).2.2 _ _)
    · simp

theorem Tile.start_waits (hf : t.flying = fs) (hq : t.quires = []) (hp : ∀ f ∈ fs, f.plain) (hd : ∀ f ∈ fs, f.due = false)
    (hr : ∀ f ∈ fs, f.remain ≠ 0) : t.start = t :=
  Tile.start_of_plain (Tile.arrive_waits (Tile.perform_waits hf hq hd) rfl hf hq hr) hf hp

/-- Loads at their perform point read the store. -/
theorem Tile.perform_reads (hf : t.flying = fs) (hq : t.quires = []) (hd : ∀ f ∈ fs, f.perf = some 0) (hn : ∀ f ∈ fs, f.run = none) :
    t.perform t.level = t.withFlights (fs.map (Flight.loaded t)) := by
  have hdue (f : Flight) (m : f ∈ fs) : f.due = true := by simp [Flight.due, hd f m]
  have h1 : (fs.filter Flight.due).filterMap Flight.run = [] :=
    List.filterMap_eq_nil_iff.2 (fun f m => hn f (List.mem_of_mem_filter m))
  have h2 : (fs.filter (fun f => !(f.due && f.run.isSome))).map (fun f => if f.due then f.loaded t else f)
      = fs.map (Flight.loaded t) := by
    rw [List.filter_eq_self.2 (fun f m => by simp [hn f m])]
    exact List.map_congr_left (fun f m => by simp [hdue f m])
  have hu : (t.unitsAt t.level).flights = fs := hf
  unfold Tile.perform
  simp only [hu, hq, h1, h2, List.length_nil, List.range_zero, List.filterMap_nil, List.map_nil, ite_self, List.append_nil,
    List.foldl_nil]
  exact Tile.noQuires (t := t.withFlights (fs.map (Flight.loaded t))) (by simp [hq])

theorem Flight.loaded_remain (t : Tile) (f : Flight) : (f.loaded t).remain = f.remain := by
  unfold Flight.loaded
  split <;> rfl

theorem Tile.start_reads (hf : t.flying = fs) (hq : t.quires = []) (hd : ∀ f ∈ fs, f.perf = some 0) (hn : ∀ f ∈ fs, f.run = none)
    (hr : ∀ f ∈ fs, f.remain ≠ 0) (hp : ∀ f ∈ fs, (f.loaded t).plain) : t.start = t.withFlights (fs.map (Flight.loaded t)) := by
  refine Tile.start_of_plain (Tile.arrive_waits (Tile.perform_reads hf hq hd hn) Tile.withFlights_level Tile.withFlights_flying
    (by simp [hq]) ?_) Tile.withFlights_flying ?_
  · intro g m
    obtain ⟨f, hm, rfl⟩ := List.mem_map.1 m
    rw [Flight.loaded_remain]
    exact hr f hm
  · intro g m
    obtain ⟨f, hm, rfl⟩ := List.mem_map.1 m
    exact hp f hm

/-- A store at its perform point writes the store and its record goes. -/
theorem Tile.start_run {f : Flight} {r : StoreRun} (hf : t.flying = [f]) (hq : t.quires = []) (hd : f.perf = some 0)
    (hr : f.run = some r) : t.start = t.cleared.performRun r := by
  have hdue : f.due = true := by simp [Flight.due, hd]
  have hkeep (x : Tile) : ∀ ys : List (Nat × List Byte), (ys.foldl (fun t y => t.storeBytes y.1 y.2) x).level = x.level
      ∧ (ys.foldl (fun t y => t.storeBytes y.1 y.2) x).quires = x.quires
      ∧ (ys.foldl (fun t y => t.storeBytes y.1 y.2) x).flying = x.flying := by
    intro ys
    induction ys generalizing x with
    | nil => exact ⟨rfl, rfl, rfl⟩
    | cons y ys ih => exact ih (x.storeBytes y.1 y.2)
  obtain ⟨hl, hq2, hfl⟩ := hkeep t.cleared r.runs
  have hp : t.perform t.level = t.cleared.performRun r := by
    have hu : (t.unitsAt t.level).flights = [f] := hf
    unfold Tile.perform
    simp only [hu, hq, hdue, hr, List.filter_cons, List.filter_nil, List.length_nil, List.range_zero,
      List.filterMap_cons, List.filterMap_nil, List.map_nil, ite_self, if_true, List.append_nil, List.foldl_cons,
      List.foldl_nil, insertRun, Option.isSome_some, Bool.and_true, Bool.not_true, Bool.false_eq_true, if_false]
    exact congrArg (fun x => Tile.performRun x r) (Tile.noQuires (t := t.cleared) (by simp [hq]))
  refine Tile.start_of_plain (fs := []) (Tile.arrive_waits (fs := []) hp ?_ ?_ ?_ ?_) ?_ ?_
  · exact hl.trans Tile.cleared_level
  · exact hfl.trans Tile.cleared_flying
  · exact hq2.trans (Tile.cleared_quires.trans hq)
  · simp
  · exact hfl.trans Tile.cleared_flying
  · simp

/-! ### No event and no hold -/

theorem Tile.deferred_plain (hf : t.flying = fs) (hq : t.quires = []) (hp : ∀ f ∈ fs, f.plain) : t.deferred = none := by
  have h1 : t.deferredFlights t.level = [] := by
    have hu : (t.unitsAt t.level).flights = fs := hf
    unfold Tile.deferredFlights
    simp only [hu]
    rw [List.filterMap_eq_nil_iff]
    intro i _
    split
    · next f e =>
      split
      · next e2 => exact absurd e2 ((hp f (List.mem_of_getElem? e)).1 _)
      · rfl
    · rfl
  simp [Tile.deferred, h1, Tile.deferredQuires, hq, leastDeferred]

theorem Tile.endingDue_plain (hf : t.flying = fs) (hp : ∀ f ∈ fs, f.plain) : t.endingDue = false := by
  unfold Tile.endingDue
  by_cases h : t.level = .task
  · have hu : t.units.flights = fs := by rw [← hf, Tile.flying, h]; rfl
    simp only [h, hu, beq_self_eq_true, Bool.true_and, List.any_eq_false]
    intro f m
    have h2 := (hp f m).2.1
    split
    · next e => exact absurd e h2
    · simp
  · simp [h]

theorem Tile.spillRow_plain (hf : t.flying = fs) (hp : ∀ f ∈ fs, f.plain) : t.spillRow = [] := by
  simp [Tile.spillRow, Tile.spillHold, Tile.dueRedirects_plain hf hp]

/-- A filler while every record is plain: the start of the cycle makes the tile x, and one cycle passes. -/
theorem filler_plain {s : State} {x : Tile} (hi : s.here.Idles) (hf : s.here.flying = fs) (hp : ∀ f ∈ fs, f.plain)
    (hx : s.here.start = x) (kx : x.Idles) : exec .filler s = .next (s.setHere (x.issued x.pc 1)) :=
  filler_cycle hi.issues (Tile.deferred_plain hf hi.quires hp) (Tile.endingDue_plain hf hp) (Tile.spillRow_plain hf hp)
    hi.alarms hi.done hi.matrix hx kx.quires kx.newest kx.matrix kx.kiln kx.sends kx.copies

/-- A filler after whose start of the cycle the records are plain again. -/
theorem filler_flights {s : State} {x : Tile} {gs : List Flight} (hi : s.here.Idles) (hf : s.here.flying = fs)
    (hp : ∀ f ∈ fs, f.plain) (hx : s.here.start = x) (kx : x.Idles) (hg : x.flying = gs) (hgp : ∀ g ∈ gs, g.plain) :
    ∃ t, exec .filler s = .next t ∧ OnlyHere s t ∧ t.here.flying = gs.map Flight.counted ∧ t.here.bare = x.bare := by
  refine ⟨_, filler_plain hi hf hp hx kx, OnlyHere.setHere .., ?_, ?_⟩
  · rw [State.here_setHere, Tile.issued_flying kx.quires, hg]
    exact List.map_congr_left (fun g m => (hgp g m).linked _)
  · rw [State.here_setHere, Tile.issued_bare kx.quires]

/-! ### Counting down -/

/-- A record n issue cycles later. -/
def Flight.passed (n : Nat) (f : Flight) : Flight := { f with remain := f.remain - n, perf := f.perf.map (fun p => p - n) }

theorem Flight.passed_zero (f : Flight) : f.passed 0 = f := by
  cases f with
  | mk unit clus op remain perf bundle bus body => cases perf <;> rfl

theorem Flight.passed_counted (n : Nat) (f : Flight) : f.counted.passed n = f.passed (n + 1) := by
  cases f with
  | mk unit clus op remain perf bundle bus body =>
    cases perf <;> simp [Flight.passed, Flight.counted, Nat.sub_sub, Nat.add_comm]

/-- A record that for n cycles neither performs nor arrives. -/
def Flight.waits (n : Nat) (f : Flight) : Prop := f.plain ∧ n ≤ f.remain ∧ ∀ p ∈ f.perf, n ≤ p

theorem Flight.waits.counted {n : Nat} {f : Flight} (h : f.waits (n + 1)) : f.counted.waits n := by
  obtain ⟨hp, hr, hq⟩ := h
  refine ⟨hp, ?_, ?_⟩
  · simp only [Flight.counted]; omega
  · intro p m
    simp only [Flight.counted, Option.mem_def, Option.map_eq_some_iff] at m
    obtain ⟨q, hm, rfl⟩ := m
    have := hq q hm
    omega

theorem Flight.waits.notDue {n : Nat} {f : Flight} (h : f.waits (n + 1)) : f.due = false := by
  obtain ⟨-, -, hq⟩ := h
  cases e : f.perf with
  | none => simp [Flight.due, e]
  | some p =>
    have := hq p e
    simp only [Flight.due, e, beq_eq_false_iff_ne, ne_eq, Option.some.injEq]
    omega

/-- Fillers while every record waits. -/
theorem fillers_wait {s : State} (n : Nat) (hi : s.here.Idles) (hf : s.here.flying = fs) (hw : ∀ f ∈ fs, f.waits n) :
    ∃ t, Claims.Fillers n s t ∧ OnlyHere s t ∧ t.here.flying = fs.map (Flight.passed n) ∧ t.here.bare = s.here.bare := by
  induction n generalizing s fs with
  | zero =>
    refine ⟨s, rfl, ⟨fun _ _ => rfl, rfl⟩, ?_, rfl⟩
    rw [hf]
    exact ((List.map_congr_left (fun f _ => f.passed_zero)).trans (List.map_id fs)).symm
  | succ n ih =>
    have hp : ∀ f ∈ fs, f.plain := fun f m => (hw f m).1
    have hs := Tile.start_waits hf hi.quires hp (fun f m => (hw f m).notDue)
      (fun f m => Nat.pos_iff_ne_zero.1 (Nat.lt_of_lt_of_le (Nat.succ_pos n) (hw f m).2.1))
    obtain ⟨u, hu, ou, fu, bu⟩ := filler_flights hi hf hp hs hi hf hp
    obtain ⟨t, ht, ot, ft, bt⟩ := ih (hi.of_bare bu) fu (fun g m => by
      obtain ⟨f, hm, rfl⟩ := List.mem_map.1 m
      exact (hw f hm).counted)
    refine ⟨t, ⟨u, hu, ht⟩, ou.trans ot, ?_, bt.trans bu⟩
    rw [ft, List.map_map]
    exact List.map_congr_left (fun f _ => f.passed_counted n)

/-! ### Loads on their way -/

theorem Tile.store_of_bare {a b : Tile} (h : a.bare = b.bare) : a.store = b.store := by
  have := congrArg Tile.store h
  simpa [Tile.bare] using this

theorem Tile.badWords_of_bare {a b : Tile} (h : a.bare = b.bare) : a.badWords = b.badWords := by
  have := congrArg Tile.badWords h
  simpa [Tile.bare] using this

/-- What a load reads depends on the tile store and its poison alone. -/
theorem Flight.loaded_congr {a b : Tile} (h : a.bare = b.bare) (f : Flight) : f.loaded a = f.loaded b := by
  unfold Flight.loaded Tile.poisonedAt Tile.poisonLine
  rw [Tile.store_of_bare h, Tile.badWords_of_bare h]

/-- Loads that have one cycle to go to their perform point and n more than that to their arrival: after the cycles before it their
records hold what the store held. -/
theorem fillers_read {s : State} (n : Nat) (hi : s.here.Idles) (hf : s.here.flying = fs) (hd : ∀ f ∈ fs, f.perf = some 1)
    (hr : ∀ f ∈ fs, f.remain = n + 2) (hn : ∀ f ∈ fs, f.run = none) (hp : ∀ f ∈ fs, f.plain)
    (hl : ∀ f ∈ fs, ((f.passed 1).loaded s.here).plain ∧ ((f.passed 1).loaded s.here).perf = none) :
    ∃ t, Claims.Fillers (n + 2) s t ∧ OnlyHere s t ∧ t.here.bare = s.here.bare
      ∧ t.here.flying = fs.map (fun f => ((f.passed 1).loaded s.here).passed (n + 1)) := by
  obtain ⟨u, hu, ou, fu, bu⟩ := fillers_wait 1 hi hf (fun f m => ⟨hp f m, by rw [hr f m]; omega, by simp [hd f m]⟩)
  have iu := hi.of_bare bu
  have of_mem {q : Flight → Prop} {φ : Flight → Flight} {gs : List Flight}
      (k : ∀ f ∈ gs, q (φ f)) : ∀ g ∈ gs.map φ, q g := fun g m => by
    obtain ⟨f, hm, rfl⟩ := List.mem_map.1 m
    exact k f hm
  have hlu : ∀ f ∈ fs, ((f.passed 1).loaded u.here).plain ∧ ((f.passed 1).loaded u.here).perf = none := fun f m => by
    rw [Flight.loaded_congr bu]; exact hl f m
  have hpu : ∀ g ∈ fs.map (Flight.passed 1), g.plain := of_mem (fun f m => hp f m)
  have hs := Tile.start_reads fu iu.quires (of_mem (fun f m => by simp [Flight.passed, hd f m])) (of_mem (fun f m => hn f m))
    (of_mem (fun f m => by simp [Flight.passed, hr f m])) (of_mem (fun f m => (hlu f m).1))
  obtain ⟨v, hv, ov, fv, bv⟩ := filler_flights iu fu hpu hs (iu.of_bare Tile.withFlights_bare) Tile.withFlights_flying
    (by rw [List.map_map]; exact of_mem (fun f m => (hlu f m).1))
  rw [Tile.withFlights_bare] at bv
  rw [List.map_map, List.map_map] at fv
  obtain ⟨t, ht, ot, ft, bt⟩ := fillers_wait n (iu.of_bare bv) fv (of_mem (fun f m => by
    refine ⟨(hlu f m).1, ?_, ?_⟩
    · simp only [Function.comp_apply, Flight.counted, Flight.loaded_remain, Flight.passed, hr f m]; omega
    · intro p hm
      have h0 := (hlu f m).2
      simp only [Function.comp_apply, Flight.counted, h0, Option.map_none] at hm
      exact nomatch hm))
  refine ⟨t, ?_, (ou.trans ov).trans ot, bt.trans (bv.trans bu), ?_⟩
  · have := fillers_trans (fillers_trans hu (fillers_one hv)) ht
    rwa [show 1 + 1 + n = n + 2 by omega] at this
  · rw [ft, List.map_map]
    refine List.map_congr_left (fun f _ => ?_)
    simp only [Function.comp_apply, Flight.passed_counted, Flight.loaded_congr bu]

/-! ### A store on its way -/

/-- The bytes of the tile store after a store, and the poisoned words. -/
def StoreRun.stored (r : StoreRun) (m : Memory) : Memory := r.runs.foldl (fun m x => writeBytes m x.1 x.2) m

def StoreRun.cleaned (r : StoreRun) (bad : List Nat) : List Nat :=
  (r.runs.foldl (fun b x => wordsAfter b x.1 x.2.length false) bad).filter (fun w => !r.covers w)

theorem foldl_storeBytes (xs : List (Nat × List Byte)) (t : Tile) :
    xs.foldl (fun t x => t.storeBytes x.1 x.2) t
      = { t with store := xs.foldl (fun m x => writeBytes m x.1 x.2) t.store
                 badWords := xs.foldl (fun b x => wordsAfter b x.1 x.2.length false) t.badWords } := by
  induction xs generalizing t with
  | nil => rfl
  | cons x xs ih => rw [List.foldl_cons, ih]; rfl

theorem Tile.performRun_eq (t : Tile) (r : StoreRun) :
    t.performRun r = { t with store := r.stored t.store, badWords := r.cleaned t.badWords } := by
  unfold Tile.performRun
  rw [foldl_storeBytes]
  rfl

theorem Tile.performRun_bare (t : Tile) (r : StoreRun) :
    (t.performRun r).bare = { t.bare with store := r.stored t.store, badWords := r.cleaned t.badWords } := by
  rw [Tile.performRun_eq]
  cases h : t.level <;> simp [Tile.bare, Tile.unitsAt, Tile.setUnitsAt, h]

/-- What a store writes depends on the tile beyond its bookkeeping alone. -/
theorem Tile.performRun_congr {a b : Tile} (h : a.bare = b.bare) (r : StoreRun) : (a.performRun r).bare = (b.performRun r).bare := by
  rw [Tile.performRun_bare, Tile.performRun_bare, h, Tile.store_of_bare h, Tile.badWords_of_bare h]

theorem Tile.performRun_idles (h : t.Idles) (r : StoreRun) : (t.performRun r).Idles := by
  rw [Tile.performRun_eq]
  exact ⟨h.issues, h.quires, h.newest, h.copies, h.matrix, h.kiln, h.sends, h.alarms, h.done⟩

theorem Tile.performRun_flying (t : Tile) (r : StoreRun) : (t.performRun r).flying = t.flying := by
  rw [Tile.performRun_eq]
  rfl

/-- A store alone in flight that has one cycle to go to its perform point. -/
theorem fillers_store {s : State} {f : Flight} {r : StoreRun} (hi : s.here.Idles) (hf : s.here.flying = [f]) (hd : f.perf = some 1)
    (hr : f.remain = 1) (hrun : f.run = some r) (hp : f.plain) :
    ∃ t, Claims.Fillers 2 s t ∧ OnlyHere s t ∧ t.here.flying = [] ∧ t.here.bare = (s.here.performRun r).bare := by
  obtain ⟨u, hu, ou, fu, bu⟩ := fillers_wait 1 hi hf (fun g m => by
    obtain rfl := List.mem_singleton.1 m
    exact ⟨hp, by rw [hr], by simp [hd]⟩)
  have iu := hi.of_bare bu
  have hs := Tile.start_run fu iu.quires (by simp [Flight.passed, hd]) (r := r) hrun
  obtain ⟨t, ht, ot, ft, bt⟩ := filler_flights iu fu (fun g m => by obtain rfl := List.mem_singleton.1 m; exact hp) hs
    (Tile.performRun_idles (iu.of_bare Tile.cleared_bare) r) ((Tile.performRun_flying ..).trans Tile.cleared_flying) (by simp)
  exact ⟨t, fillers_trans hu (fillers_one ht), ou.trans ot, ft,
    bt.trans (Tile.performRun_congr (Tile.cleared_bare.trans bu) r)⟩

/-! ### What a store leaves in the tile store -/

theorem mem_dropFrom {k w : Nat} {xs : List Nat} : w ∈ dropFrom k xs ↔ w ∈ xs ∧ w ≠ k := by simp [dropFrom]

theorem mem_upFrom {a n x : Nat} : x ∈ upFrom a n ↔ a ≤ x ∧ x < a + n := by
  induction n generalizing a with
  | zero => simp [upFrom]
  | succ n ih => simp only [upFrom, List.mem_cons, ih]; omega

/-- Clean bytes clear the poison of the words that they make up whole, and of no other. -/
theorem mem_wordsAfter_clean {bad : List Nat} {off n w : Nat} :
    w ∈ wordsAfter bad off n false ↔ w ∈ bad ∧ ¬ (off ≤ 8 * w ∧ 8 * w + 8 ≤ off + n) := by
  have key (ks : List Nat) : ∀ bad : List Nat,
      (w ∈ ks.foldl (fun b k => if false = true then addTo k b
        else if (decide (off ≤ 8 * k) && decide (8 * k + 8 ≤ off + n)) = true then dropFrom k b else b) bad
      ↔ w ∈ bad ∧ ¬ (w ∈ ks ∧ off ≤ 8 * w ∧ 8 * w + 8 ≤ off + n)) := by
    induction ks with
    | nil => simp
    | cons k ks ih =>
      intro bad
      rw [List.foldl_cons, ih]
      by_cases hk : off ≤ 8 * k ∧ 8 * k + 8 ≤ off + n
      · simp only [hk, decide_true, Bool.and_true, if_true, mem_dropFrom, List.mem_cons, Bool.false_eq_true, if_false]
        by_cases e : w = k
        · subst e; simp [hk]
        · simp [e]
      · have hk' : (decide (off ≤ 8 * k) && decide (8 * k + 8 ≤ off + n)) = false := by simpa using hk
        simp only [hk', Bool.false_eq_true, if_false, List.mem_cons]
        by_cases e : w = k
        · subst e; simp [hk]
        · simp [e]
  refine (key (upFrom (off / 8) ((off + n + 7) / 8 - off / 8)) bad).trans ?_
  rw [mem_upFrom]
  constructor
  · rintro ⟨h1, h2⟩
    exact ⟨h1, fun h3 => h2 ⟨by omega, h3⟩⟩
  · rintro ⟨h1, h2⟩
    exact ⟨h1, fun h3 => h2 h3.2⟩

theorem StoreRun.covers_iff {r : StoreRun} {w : Nat} :
    r.covers w = true ↔ ∀ j, j < 8 → ∃ x ∈ r.runs, x.1 ≤ 8 * w + j ∧ 8 * w + j < x.1 + x.2.length := by
  unfold StoreRun.covers
  simp only [List.all_eq_true, List.any_eq_true, Bool.and_eq_true, decide_eq_true_eq, mem_upFrom]
  constructor
  · intro h j hj
    exact h _ ⟨by omega, by omega⟩
  · intro h b hb
    have := h (b - 8 * w) (by omega)
    rwa [show 8 * w + (b - 8 * w) = b by omega] at this

/-- A store clears the poison of the words that it writes whole, and of no other (R324, R367). -/
theorem StoreRun.mem_cleaned {r : StoreRun} {bad : List Nat} {w : Nat} : w ∈ r.cleaned bad ↔ w ∈ bad ∧ ¬ r.covers w = true := by
  have key (xs : List (Nat × List Byte)) : ∀ bad : List Nat,
      w ∈ xs.foldl (fun b x => wordsAfter b x.1 x.2.length false) bad
        ↔ w ∈ bad ∧ ∀ x ∈ xs, ¬ (x.1 ≤ 8 * w ∧ 8 * w + 8 ≤ x.1 + x.2.length) := by
    induction xs with
    | nil => simp
    | cons x xs ih => intro bad; rw [List.foldl_cons, ih, mem_wordsAfter_clean, List.forall_mem_cons, and_assoc]
  unfold StoreRun.cleaned
  rw [List.mem_filter, key, and_assoc]
  have whole (h : ¬ r.covers w = true) : ∀ x ∈ r.runs, ¬ (x.1 ≤ 8 * w ∧ 8 * w + 8 ≤ x.1 + x.2.length) := fun x hx hw =>
    h (StoreRun.covers_iff.2 (fun j hj => ⟨x, hx, by omega, by omega⟩))
  constructor
  · rintro ⟨h1, -, h2⟩
    exact ⟨h1, by simpa using h2⟩
  · rintro ⟨h1, h2⟩
    exact ⟨h1, whole h2, by simpa using h2⟩

theorem length_toBytes (n x : Nat) : (toBytes n x).length = n := by
  induction n generalizing x with
  | zero => rfl
  | succ n ih => simp [toBytes, ih]

theorem getElem_toBytes {n x k : Nat} (h : k < (toBytes n x).length) : (toBytes n x)[k] = BitVec.ofNat 8 (x / 256 ^ k) := by
  induction n generalizing x k with
  | zero => exact absurd h (by simp [toBytes])
  | succ n ih =>
    cases k with
    | zero => simp [toBytes]
    | succ k =>
      simp only [toBytes, List.getElem_cons_succ]
      rw [ih, Nat.div_div_eq_div_mul, Nat.pow_succ, Nat.mul_comm]
end

end Sys2Proof.Machine
end

section
/-! PROOF. Loads and stores of the tile store (O7): the record that each sends on its way, and what is left when it has arrived. -/

namespace Sys2Proof.Machine

open Host (Outcome)

section
variable {s : State} {m : Move} {i : Instr} {name : String}

/-! ### Numbers in the tile store -/

theorem ofBytes_readBytes (t : Tile) (off n : Nat) : ofBytes (readBytes t.store off n) = Claims.storeNumber t off n := by
  induction n generalizing off with
  | zero => rfl
  | succ n ih =>
    rw [Claims.storeNumber, ← ih]
    rfl

theorem storeNumber_lt (t : Tile) (off n : Nat) : Claims.storeNumber t off n < 2 ^ (8 * n) := by
  induction n generalizing off with
  | zero => simp [Claims.storeNumber]
  | succ n ih =>
    have h1 := ih (off + 1)
    have h2 := (readByte t.store off).isLt
    rw [Claims.storeNumber, show 8 * (n + 1) = 8 * n + 8 by omega, Nat.pow_add]
    omega

theorem ofNat_wrap (x : Int) : BitVec.ofNat 64 (wrap 64 x) = BitVec.ofInt 64 x := by
  have h : x % Int.ofNat (2 ^ 64) = ((x % Int.ofNat (2 ^ 64)).toNat : Int) := (Int.toNat_of_nonneg (Int.emod_nonneg _ (by decide))).symm
  apply BitVec.eq_of_toInt_eq
  rw [wrap, BitVec.toInt_ofInt, ← BitVec.ofInt_natCast, BitVec.toInt_ofInt, ← h]
  exact Int.emod_bmod _ _

/-- What a load's record holds once it has performed is what the statement says it delivers (R322). -/
theorem loadedWord_eq (t : Tile) (o n : Nat) (sg : Bool) :
    BitVec.ofNat 64 (if sg then wrap 64 (signed (8 * n) (ofBytes (readBytes t.store o n))) else ofBytes (readBytes t.store o n))
      = Claims.loadedWord t o n sg := by
  have hlt := storeNumber_lt t o n
  unfold Claims.loadedWord
  rw [ofBytes_readBytes]
  cases sg with
  | false => rfl
  | true =>
    simp only [if_true, Bool.true_and, decide_eq_true_eq, ofNat_wrap, signed, Nat.mod_eq_of_lt hlt]
    by_cases h : 2 ^ (8 * n - 1) ≤ Claims.storeNumber t o n
    · rw [if_neg (by omega), if_pos h]
    · rw [if_pos (by omega), if_neg h]
      exact BitVec.ofInt_natCast ..

theorem storeChecks_fit {n : Nat} {a : Word} (h : Claims.AccessFits a n) : storeChecks n a = [] := by
  obtain ⟨h1, h2⟩ := h
  have h1' : decide (2 ^ 21 < a.toNat + n) = false := decide_eq_false (Nat.not_lt.2 h1)
  simp only [storeChecks, firstEvent, eventsOf, h1', h2, ne_eq, not_true_eq_false, decide_false, List.filter_cons, List.filter_nil,
    Bool.false_eq_true, if_false, List.map_nil, List.take_nil]

/-- A trigger of the tile domain whose one effect is a record: it is in flight after the bundle with one cycle counted off. -/
theorem issueOne_launch {op : Operation} {g : Trigger → Tile → Flight} {p : Nat}
    (hc : s.here.calm) (hm : s.here.mayMove m i.code) (hd : 0x180 ≤ i.code) (hp : (unitOf true i.code).bind portA = some p)
    (hk : ∀ tr u, tr.word = s.here.source m.src → op.check tr u = []) (hf : ∀ tr u, op.fault tr u = none) (hh : ∀ tr u, op.hold tr u = [])
    (ha : ∀ tr u, op.act tr u = u.mapHere (fun t => t.launchFlight (g tr t))) (hl : ∀ tr u, op.late tr u = u)
    (ht : ∀ tr, op.after tr = .nothing) (hg : ∀ tr t, (g tr t).plain) :
    ∃ t tr, issueOne name i m op s = .next t ∧ Ran s t m ∧ tr.word = s.here.source m.src
      ∧ t.here.flying = [(g tr (s.here.setPort p (s.here.source m.src))).counted]
      ∧ t.here.bare = (s.here.setPort p (s.here.source m.src)).bare := by
  have kx := Tile.Keeps.setPort s.here p (s.here.source m.src)
  let tr := soleTrigger s.here m i.code op { word := s.here.source m.src, parts := [] }
  have hact : op.act tr (s.setHere (s.here.setPort p (s.here.source m.src)))
      = s.setHere ((s.here.setPort p (s.here.source m.src)).launchFlight (g tr (s.here.setPort p (s.here.source m.src)))) := by
    rw [ha, State.mapHere_setHere]
  obtain ⟨t, h1, h2, h3, h4⟩ := issueOne_ran (name := name) hc (Tile.moved_tile hm) (Tile.writeMove_trigger hm.1 hd hp) hm.2.2.2
    hm.2.2.1 kx (kx.trans (Tile.Keeps.launchFlight ..)) (hk _ _ rfl) (hf ..) (hh ..) hact (hl _) (ht _)
  refine ⟨t, tr, h1, h2, rfl, ?_, by rw [h4, Tile.bare_launchFlight]⟩
  rw [h3, Tile.flying_launchFlight, Tile.flying_setPort, show s.here.flying = [] from hc.2.1]
  exact congrArg (fun f => [f]) ((hg _ _).linked _)

theorem Tile.Idles.setPort {t : Tile} (h : t.Idles) (c : Nat) (v : Word) : (t.setPort c v).Idles := by
  have k := Tile.Keeps.setPort t c v
  refine ⟨?_, by rw [k.quires, h.quires], by rw [k.newest, h.newest], by rw [k.copies, h.copies], by rw [k.matrix, h.matrix],
    by rw [k.kiln, h.kiln], by rw [k.sends, h.sends], ?_, ?_⟩
  · simpa [Tile.canIssue, Tile.setPort] using h.issues
  · simpa [Tile.setPort] using h.alarms
  · simpa [Tile.setPort] using h.done

@[simp] theorem Tile.store_setPort (t : Tile) (c : Nat) (v : Word) : (t.setPort c v).store = t.store := by simp [Tile.setPort]
@[simp] theorem Tile.badWords_setPort (t : Tile) (c : Nat) (v : Word) : (t.setPort c v).badWords = t.badWords := by simp [Tile.setPort]

theorem Tile.poisonedAt_setPort (t : Tile) (c : Nat) (v : Word) (o n : Nat) : (t.setPort c v).poisonedAt o n = t.poisonedAt o n := by
  simp [Tile.poisonedAt]

theorem storeNumber_congr {a b : Tile} (h : a.store = b.store) (o n : Nat) : Claims.storeNumber a o n = Claims.storeNumber b o n := by
  rw [← ofBytes_readBytes, ← ofBytes_readBytes, h]

theorem Tile.loadedWord_setPort (t : Tile) (c : Nat) (v : Word) (o n : Nat) (sg : Bool) :
    Claims.loadedWord (t.setPort c v) o n sg = Claims.loadedWord t o n sg := by
  unfold Claims.loadedWord
  rw [storeNumber_congr (Tile.store_setPort ..)]

/-! ### Loads -/

/-- A load's record delivers what the bytes say, unless it meets poison. -/
theorem Flight.loaded_load {t : Tile} {f : Flight} {o n : Nat} {sg : Bool} (hb : f.body = .load o n sg) (hp : t.poisonedAt o n = false) :
    f.loaded t = { f with perf := none, body := .result 0x103 (Claims.loadedWord t o n sg) } := by
  unfold Flight.loaded
  rw [hb]
  simp only [hp, Bool.false_eq_true, if_false, loadedWord_eq]

theorem Tile.setResult_bare_congr {a b : Tile} (h : a.bare = b.bare) (l : Level) (hl : a.level = l) (p : Nat) (v : Word) :
    (a.setResult l p v).bare = (b.setResult l p v).bare := by
  have hb : b.level = l := by rw [← hl, ← Tile.bare_level, ← h, Tile.bare_level]
  have e (t : Tile) (ht : t.level = l) : (t.setResult l p v).bare = t.bare.setResult l p v := by
    cases l <;> simp [Tile.setResult, Tile.bare, Tile.unitsAt, Tile.setUnitsAt, ht]
  rw [e a hl, e b hb, h]

theorem issueOne_load {n : Nat} {sg : Bool} (hc : s.here.calm) (hm : s.here.mayMove m i.code) (hd : 0x180 ≤ i.code)
    (hp : (unitOf true i.code).bind portA = some 0x10C) (hfit : Claims.AccessFits (s.here.source m.src) n)
    (hclean : s.here.poisonedAt (s.here.source m.src).toNat n = false) :
    ∃ t u, issueOne name i m (load n sg) s = .next t ∧ Ran s t m ∧ t.here.bare = (s.here.setPort 0x10C (s.here.source m.src)).bare
      ∧ Claims.Fillers 4 t u ∧ OnlyHere s u ∧ u.here.flying = []
      ∧ u.here.bare = ((s.here.setPort 0x10C (s.here.source m.src)).setResult s.here.level 0x103
          (Claims.loadedWord s.here (s.here.source m.src).toNat n sg)).bare := by
  obtain ⟨t, tr, ht, rt, hw, ft, bt⟩ := issueOne_launch (name := name) (op := load n sg)
    (g := fun tr _ => tr.flight 4 (some 2) (.load tr.word.toNat n sg)) hc hm hd hp (fun tr u e => by
      show storeChecks n tr.word = []
      rw [e]; exact storeChecks_fit hfit)
    (fun _ _ => rfl) (fun _ _ => rfl) (fun _ _ => rfl) (fun _ _ => rfl) (fun _ => rfl) (fun _ _ => by simp [Flight.plain, Trigger.flight])
  have it := ((Tile.calm_idles hc).setPort 0x10C (s.here.source m.src)).of_bare bt
  have hload : ((tr.flight 4 (some 2) (.load tr.word.toNat n sg)).counted.passed 1).loaded t.here
      = { (tr.flight 4 (some 2) (.load tr.word.toNat n sg)).counted.passed 1 with
          perf := none, body := .result 0x103 (Claims.loadedWord s.here (s.here.source m.src).toNat n sg) } := by
    rw [Flight.loaded_congr bt, Flight.loaded_load rfl (by rw [hw, Tile.poisonedAt_setPort]; exact hclean), hw,
      Tile.loadedWord_setPort]
  obtain ⟨v, hv, ov, bv, fv⟩ := fillers_read 1 it ft (by simp [Trigger.flight, Flight.counted])
    (by simp [Trigger.flight, Flight.counted]) (by simp [Trigger.flight, Flight.counted, Flight.run])
    (by simp [Trigger.flight, Flight.counted, Flight.plain])
    (fun f hf => by
      obtain rfl := List.mem_singleton.1 hf
      rw [hload]
      exact ⟨by simp [Flight.plain], rfl⟩)
  rw [List.map_cons, List.map_nil, hload] at fv
  obtain ⟨u, hu, ou, -, fu, bu⟩ := filler_arrive (it.of_bare bv) fv rfl rfl rfl
  have hl : v.here.level = s.here.level := by
    rw [← Tile.bare_level, bv, bt, Tile.bare_level, Tile.level_setPort]
  refine ⟨t, u, ht, rt, bt, fillers_trans hv (fillers_one hu), (rt.1.trans ov).trans ou, fu, ?_⟩
  rw [bu, hl]
  exact Tile.setResult_bare_congr (bv.trans bt) _ hl _ _

/-! ### Stores -/

theorem issueOne_store {n : Nat} (hc : s.here.calm) (hm : s.here.mayMove m i.code) (hd : 0x180 ≤ i.code)
    (hp : (unitOf true i.code).bind portA = some 0x10C) (hfit : Claims.AccessFits (s.here.source m.src) n) :
    ∃ t u r, issueOne name i m (store n) s = .next t ∧ Ran s t m ∧ t.here.bare = (s.here.setPort 0x10C (s.here.source m.src)).bare
      ∧ Claims.Fillers 2 t u ∧ OnlyHere s u ∧ u.here.flying = []
      ∧ r.runs = [((s.here.source m.src).toNat, toBytes n ((s.here.port 0x10D).toNat % 2 ^ (8 * n)))]
      ∧ u.here.bare = ((s.here.setPort 0x10C (s.here.source m.src)).performRun r).bare := by
  obtain ⟨t, tr, ht, rt, hw, ft, bt⟩ := issueOne_launch (name := name) (op := store n)
    (g := fun tr t => tr.flight 2 (some 2) (.store tr.word.toNat n (BitVec.ofNat 64 ((t.port 0x10D).toNat % 2 ^ (8 * n))))) hc hm hd hp
    (fun tr u e => by
      show storeChecks n tr.word = []
      rw [e]; exact storeChecks_fit hfit)
    (fun _ _ => rfl) (fun _ _ => rfl) (fun _ _ => rfl) (fun _ _ => rfl) (fun _ => rfl) (fun _ _ => by simp [Flight.plain, Trigger.flight])
  have it := ((Tile.calm_idles hc).setPort 0x10C (s.here.source m.src)).of_bare bt
  obtain ⟨u, hu, ou, fu, bu⟩ := fillers_store it ft rfl rfl rfl (by simp [Trigger.flight, Flight.counted, Flight.plain])
  refine ⟨t, u, _, ht, rt, bt, hu, rt.1.trans ou, fu, ?_, bu.trans (Tile.performRun_congr bt _)⟩
  have hv : (s.here.port 0x10D).toNat % 2 ^ (8 * n) < 2 ^ 64 := (Nat.mod_le ..).trans_lt (s.here.port 0x10D).isLt
  simp only [hw, Tile.port_setPort, if_neg (show ¬ (0x10D : Nat) = 0x10C by decide), BitVec.toNat_ofNat, Nat.mod_eq_of_lt hv]
end

section

/-! ### The rows of R322 -/

/-- A row of loads is the load of its bytes, from the port a of its unit. -/
theorem loadRows_ops : ∀ r ∈ Claims.loadRows, ∃ name, ∀ m : Move,
    (∀ s, exec (r.op m) s = issueOne name (r.op m) m (load r.bytes r.signed) s)
      ∧ 0x180 ≤ (r.op m).code ∧ (unitOf true (r.op m).code).bind portA = some 0x10C := by
  simp only [Claims.loadRows, List.forall_mem_cons]
  refine ⟨?_, ?_, ?_, ?_, ?_, ?_, ?_, List.forall_mem_nil _⟩ <;>
    exact ⟨_, fun _ => ⟨fun _ => rfl, Nat.le_of_ble_eq_true rfl, rfl⟩⟩

theorem storeRows_ops : ∀ r ∈ Claims.storeRows, r.bytes ∈ [1, 2, 4, 8] ∧ ∃ name, ∀ m : Move,
    (∀ s, exec (r.op m) s = issueOne name (r.op m) m (store r.bytes) s)
      ∧ 0x180 ≤ (r.op m).code ∧ (unitOf true (r.op m).code).bind portA = some 0x10C := by
  simp only [Claims.storeRows, List.forall_mem_cons]
  refine ⟨?_, ?_, ?_, ?_, List.forall_mem_nil _⟩ <;>
    exact ⟨by decide, _, fun _ => ⟨fun _ => rfl, Nat.le_of_ble_eq_true rfl, rfl⟩⟩

theorem loadsDeliverTheirBytes : Claims.LoadsDeliverTheirBytes := by
  intro r hr m s a hc hm hfit hclean
  obtain ⟨name, ho⟩ := loadRows_ops r hr
  obtain ⟨he, hd, hp⟩ := ho m
  rw [he]
  exact issueOne_load hc hm hd hp hfit hclean

/-- A byte that a number is stored as (R4). -/
theorem byte_of_low (n k v : Nat) (h : k < n) : BitVec.ofNat 8 (v % 2 ^ (8 * n) / 256 ^ k) = BitVec.ofNat 8 (v / 256 ^ k) := by
  rw [show 256 ^ k = 2 ^ (8 * k) by rw [Nat.pow_mul]]
  apply BitVec.eq_of_getLsbD_eq
  intro i hi
  simp only [BitVec.getLsbD_ofNat, Nat.testBit_div_two_pow, Nat.testBit_mod_two_pow, show i + 8 * k < 8 * n by omega, decide_true,
    Bool.true_and]

/-- An aligned store of 1, 2, 4 or 8 bytes makes up a word whole where it has eight. -/
theorem covers_aligned {r : StoreRun} {a n w : Nat} {bs : List Byte} (hr : r.runs = [(a, bs)]) (hl : bs.length = n)
    (hn : n ∈ [1, 2, 4, 8]) (ha : a % n = 0) : r.covers w = true ↔ n = 8 ∧ w = a / 8 := by
  simp only [StoreRun.covers_iff, hr, List.mem_singleton, exists_eq_left, hl]
  have hn' : n = 1 ∨ n = 2 ∨ n = 4 ∨ n = 8 := by simpa using hn
  constructor
  · intro h
    have h0 := h 0 (by decide)
    have h7 := h 7 (by decide)
    have h8 : n = 8 := by omega
    subst h8
    omega
  · rintro ⟨rfl, rfl⟩ j hj
    omega

theorem restOf_performRun (t : Tile) (r : StoreRun) : Claims.restOf (t.performRun r) = Claims.restOf t := by
  unfold Claims.restOf
  rw [Tile.performRun_bare]

theorem storesWriteTheirBytes : Claims.StoresWriteTheirBytes := by
  intro r hr m s a hc hm hfit
  obtain ⟨hn, name, ho⟩ := storeRows_ops r hr
  obtain ⟨he, hd, hp⟩ := ho m
  obtain ⟨t, u, q, h1, h2, h3, h4, h5, h6, hq, bu⟩ := issueOne_store (name := name) hc hm hd hp hfit
  have hst : u.here.store = writeBytes s.here.store a.toNat (toBytes r.bytes ((s.here.port 0x10D).toNat % 2 ^ (8 * r.bytes))) := by
    rw [Tile.store_of_bare bu, Tile.performRun_eq]
    simp only [StoreRun.stored, hq, List.foldl_cons, List.foldl_nil, Tile.store_setPort]
    rfl
  refine ⟨t, u, (he s).trans h1, h2, h3, h4, h5, h6, ?_, ?_, ?_, ?_⟩
  · intro k hk
    rw [hst, readByte_writeBytes_inside _ _ _ _ (by rw [length_toBytes]; exact hk), getElem_toBytes, byte_of_low _ _ _ hk]
  · intro x hx
    rw [hst, readByte_writeBytes_outside _ _ _ _ (by rw [length_toBytes]; exact hx)]
  · intro w
    rw [Tile.badWords_of_bare bu, Tile.performRun_eq]
    simp only [StoreRun.mem_cleaned, covers_aligned hq (length_toBytes ..) hn hfit.2, Tile.badWords_setPort]
    rfl
  · have e := congrArg (fun x : Tile => ({ x with store := [], badWords := [] } : Tile)) bu
    exact e.trans (restOf_performRun ..)

/-- Settles O7: a load's record reads the store at its perform point and delivers two cycles later (`issueOne_load`), a store's writes it
there (`issueOne_store`). -/
theorem tileStoreAccesses : Obligations.TileStoreAccesses := ⟨loadsDeliverTheirBytes, storesWriteTheirBytes⟩
end

end Sys2Proof.Machine
end

section
/-! PROOF. Lanes of a vector, and the results that arrive in the latches of several clusters. -/

namespace Sys2Proof.Machine

open Host (Outcome)

section

/-! ### Lanes of a vector -/

theorem getElem?_upFrom (a n i : Nat) : (upFrom a n)[i]? = if i < n then some (a + i) else none := by
  induction n generalizing a i with
  | zero => simp [upFrom]
  | succ n ih =>
    cases i with
    | zero => simp [upFrom]
    | succ i => simp [upFrom, ih, Nat.add_comm, Nat.add_left_comm]

theorem getLsbD_ofLanes (xs : List Lane) {l i : Nat} (hl : l < 16) (hi : i < 32) :
    (ofLanes xs).getLsbD (32 * l + i) = (xs[l]?.getD 0).getLsbD i := by
  induction xs generalizing l with
  | nil => simp [ofLanes]
  | cons x xs ih =>
    rw [ofLanes, BitVec.getLsbD_or, BitVec.getLsbD_setWidth, BitVec.getLsbD_shiftLeft]
    cases l with
    | zero =>
      have h1 : i < 512 := by omega
      have h2 : i < 32 := hi
      simp only [h1, h2, decide_true, Bool.true_and, Bool.not_true, Bool.and_false, Bool.false_and, Bool.or_false,
        List.getElem?_cons_zero, Option.getD_some, Nat.mul_zero, Nat.zero_add]
    | succ l =>
      have h1 : 32 * (l + 1) + i < 512 := by omega
      have h2 : ¬ 32 * (l + 1) + i < 32 := by omega
      have h3 : x.getLsbD (32 * (l + 1) + i) = false := BitVec.getLsbD_of_ge _ _ (by omega)
      rw [h3, show 32 * (l + 1) + i - 32 = 32 * l + i by omega, ih (by omega)]
      simp only [h1, h2, decide_true, decide_false, Bool.and_false, Bool.not_false, Bool.true_and, Bool.false_or,
        List.getElem?_cons_succ]

theorem lane_ofLanes (xs : List Lane) {l : Nat} (hl : l < 16) : lane (ofLanes xs) l = xs[l]?.getD 0 := by
  apply BitVec.eq_of_getLsbD_eq
  intro i hi
  rw [lane, BitVec.getLsbD_extractLsb', getLsbD_ofLanes xs hl hi]
  simp [hi]

/-- A lane of a vector that is given lane by lane. -/
theorem lane_ofLanes_map (f : Nat → Lane) {l : Nat} (hl : l < 16) : lane (ofLanes ((upFrom 0 16).map f)) l = f l := by
  rw [lane_ofLanes _ hl, List.getElem?_map, getElem?_upFrom, if_pos hl]
  simp

theorem lane_mixLanes (on : BitVec 16) (new old : Vec) {l : Nat} (hl : l < 16) :
    lane (mixLanes on new old) l = if on.getLsbD l = true then lane new l else lane old l := lane_ofLanes_map _ hl

/-! ### Results that arrive in several clusters -/

variable {t : Tile} {cs : List Nat}

/-- A latch of several clusters takes the lanes that were on in each. -/
def Tile.setLatches (t : Tile) (cs : List Nat) (p : Nat) (on : Nat → BitVec 16) (v : Nat → Vec) : Tile :=
  cs.foldl (fun t c => t.setVresult c p (on c) (v c)) t

theorem Tile.setLatches_eq (p : Nat) (on : Nat → BitVec 16) (v : Nat → Vec) :
    t.setLatches cs p on v = { t with clusters := (t.setLatches cs p on v).clusters } := by
  induction cs generalizing t with
  | nil => rfl
  | cons c cs ih => exact ih

theorem Tile.setVresult_bare (c p : Nat) (on : BitVec 16) (v : Vec) :
    (t.setVresult c p on v).bare = t.bare.setVresult c p on v := by
  cases h : t.level <;> simp [Tile.bare, Tile.setVresult, Tile.setCluster, Tile.cluster, Tile.unitsAt, Tile.setUnitsAt, h]

theorem Tile.setLatches_bare (p : Nat) (on : Nat → BitVec 16) (v : Nat → Vec) :
    (t.setLatches cs p on v).bare = t.bare.setLatches cs p on v := by
  induction cs generalizing t with
  | nil => rfl
  | cons c cs ih => exact ih.trans (by rw [Tile.setVresult_bare]; rfl)

theorem Tile.setLatches_cluster (p : Nat) (on : Nat → BitVec 16) (v : Nat → Vec) (h : cs.Nodup) (d : Nat) :
    (t.setLatches cs p on v).cluster d =
      if d ∈ cs then { t.cluster d with
        results := mset 0 (t.cluster d).results p (mixLanes (on d) (v d) (mget 0 (t.cluster d).results p)) }
      else t.cluster d := by
  induction cs generalizing t with
  | nil => simp [Tile.setLatches]
  | cons c cs ih =>
    obtain ⟨hc, hn⟩ := List.nodup_cons.1 h
    have e := ih (t := t.setVresult c p (on c) (v c)) hn
    rw [Tile.setLatches, List.foldl_cons]
    rw [Tile.setLatches] at e
    rw [e, Tile.setVresult, Tile.cluster_setCluster]
    by_cases hd : d = c
    · subst hd; simp [hc]
    · simp [hd]

/-- Records that bring a vector each to one latch of a cluster of its own. -/
structure BringsVectors (fs : List Flight) (cs : List Nat) (p : Nat) (on : Nat → BitVec 16) (v : Nat → Vec) : Prop where
  clus : fs.map Flight.clus = cs
  body : ∀ f ∈ fs, f.body = .vector p (on f.clus) (v f.clus)

variable {fs : List Flight} {p : Nat} {on : Nat → BitVec 16} {v : Nat → Vec}

/-- Of records for different clusters each prevails. -/
theorem BringsVectors.prevailing (h : BringsVectors fs cs p on v) (hn : cs.Nodup) : prevailing fs = fs := by
  induction fs generalizing cs with
  | nil => rfl
  | cons f fs ih =>
    obtain ⟨rfl, hb⟩ := h
    rw [List.map_cons, List.nodup_cons] at hn
    obtain ⟨hf, hn⟩ := hn
    obtain ⟨hb1, hb2⟩ := List.forall_mem_cons.1 hb
    have hany : fs.any (fun g => g.latch == f.latch) = false := by
      rw [List.any_eq_false]
      intro g m e
      rw [Flight.latch, Flight.latch, hb1, hb2 g m] at e
      simp only [beq_iff_eq, Option.some.injEq, Prod.mk.injEq, and_true] at e
      exact hf (List.mem_map.2 ⟨g, m, e⟩)
    rw [Machine.prevailing, hany, Bool.and_false, if_neg Bool.false_ne_true, ih ⟨rfl, hb2⟩ hn]

theorem BringsVectors.deliver (h : BringsVectors fs cs p on v) (l : Level) (t : Tile) :
    fs.foldl (fun t f => t.deliver l f) t = t.setLatches cs p on v := by
  induction fs generalizing cs t with
  | nil => obtain ⟨rfl, -⟩ := h; rfl
  | cons f fs ih =>
    obtain ⟨rfl, hb⟩ := h
    obtain ⟨hb1, hb2⟩ := List.forall_mem_cons.1 hb
    rw [List.foldl_cons, ih ⟨rfl, hb2⟩]
    rw [Tile.deliver, hb1]
    rfl

theorem BringsVectors.plain (h : BringsVectors fs cs p on v) : ∀ f ∈ fs, f.plain := by
  intro f m
  simp [Flight.plain, h.body f m]

/-- Vectors that are due reach their latches. -/
theorem Tile.start_vectors (hf : t.flying = fs) (hq : t.quires = []) (hb : BringsVectors fs cs p on v) (hn : cs.Nodup)
    (hr : ∀ f ∈ fs, f.remain = 0) (hp : ∀ f ∈ fs, f.perf = none) : t.start = t.cleared.setLatches cs p on v := by
  have hu : (t.unitsAt t.level).flights = fs := hf
  have hi (f : Flight) (m : f ∈ fs) : (f.remain == 0 && f.perf.isNone && !f.isSequence) = true := by
    simp [hr f m, hp f m, (hb.plain f m).notSequence]
  have h1 : fs.filter (fun f => f.remain == 0 && f.perf.isNone && !f.isSequence) = fs :=
    List.filter_eq_self.2 (fun f m => hi f m)
  have h2 : fs.filter (fun f => !(f.remain == 0 && f.perf.isNone && !f.isSequence)) = [] :=
    List.filter_eq_nil_iff.2 (fun f m => by rw [hi f m]; simp)
  have hq2 : (t.cleared.setLatches cs p on v).quires = [] := by
    rw [Tile.setLatches_eq]; exact Tile.cleared_quires.trans hq
  have hfl : (t.cleared.setLatches cs p on v).flying = [] := by
    rw [Tile.setLatches_eq]; exact Tile.cleared_flying
  refine Tile.start_of_arrive ?_ hfl
  unfold Tile.arrive
  simp only [Tile.perform_waits hf hq (fun f m => by simp [Flight.due, hp f m]), hu, h1, h2, hb.prevailing hn]
  rw [hb.deliver]
  change (if t.level = .task then ((upFrom 0 (t.cleared.setLatches cs p on v).quires.length).foldl (fun t i => t.arriveQuire i)
    (t.cleared.setLatches cs p on v)).commitQuires else t.cleared.setLatches cs p on v) = _
  rw [hq2]
  simp only [List.length_nil, upFrom, List.foldl_nil, Tile.commit_quiet hq2, ite_self]

theorem Tile.Idles.setLatches (h : t.Idles) : (t.setLatches cs p on v).Idles := by
  rw [Tile.setLatches_eq]
  exact ⟨h.issues, h.quires, h.newest, h.copies, h.matrix, h.kiln, h.sends, h.alarms, h.done⟩

/-- A filler in whose cycle vectors arrive. -/
theorem filler_vectors {s : State} (hi : s.here.Idles) (hf : s.here.flying = fs) (hb : BringsVectors fs cs p on v) (hn : cs.Nodup)
    (hr : ∀ f ∈ fs, f.remain = 0) (hp : ∀ f ∈ fs, f.perf = none) :
    ∃ t, exec .filler s = .next t ∧ OnlyHere s t ∧ t.here.flying = [] ∧ t.here.bare = (s.here.setLatches cs p on v).bare := by
  obtain ⟨t, ht, ot, ft, bt⟩ := filler_flights (gs := []) hi hf hb.plain (Tile.start_vectors hf hi.quires hb hn hr hp)
    (hi.of_bare Tile.cleared_bare).setLatches (by rw [Tile.setLatches_eq]; exact Tile.cleared_flying) (by simp)
  exact ⟨t, ht, ot, ft, by rw [bt, Tile.setLatches_bare, Tile.setLatches_bare, Tile.cleared_bare]⟩
end

end Sys2Proof.Machine
end

section
/-! PROOF. vm loads and stores (O31): the records that each sends on its way, and the words that they move. -/

namespace Sys2Proof.Machine

open Host (Outcome)

section
variable {s : State} {m : Move} {i : Instr} {name : String}

/-! ### Triggers of the cluster domain -/

/-- A tile with records launched one after another. -/
def Tile.launches (t : Tile) (fs : List Flight) : Tile := fs.foldl Tile.launchFlight t

theorem Tile.launches_flying (t : Tile) (fs : List Flight) : (t.launches fs).flying = t.flying ++ fs := by
  induction fs generalizing t with
  | nil => exact (List.append_nil _).symm
  | cons f fs ih =>
    refine (ih (t.launchFlight f)).trans ?_
    rw [Tile.flying_launchFlight, List.append_assoc]
    rfl

theorem Tile.launches_bare (t : Tile) (fs : List Flight) : (t.launches fs).bare = t.bare := by
  induction fs generalizing t with
  | nil => rfl
  | cons f fs ih => exact (ih _).trans (Tile.bare_launchFlight ..)

theorem Tile.Keeps.launches (t : Tile) (fs : List Flight) : t.Keeps (t.launches fs) := by
  induction fs generalizing t with
  | nil => exact Tile.Keeps.refl t
  | cons f fs ih => exact (Tile.Keeps.launchFlight t f).trans (ih _)

/-- Launches in every cluster that a trigger reaches, where what is launched does not turn on the records in flight. -/
theorem each_launch {tr : Trigger} {g : Nat → Vec → BitVec 16 → Tile → Flight}
    (hg : ∀ c v on t f, g c v on (t.launchFlight f) = g c v on t) (s : State) (x : Tile) :
    tr.each (fun c v on s => s.mapHere (fun t => t.launchFlight (g c v on t))) (s.setHere x)
      = s.setHere (x.launches (tr.value.parts.map (fun p => g p.1 p.2.1 p.2.2 x))) := by
  unfold Trigger.each
  generalize tr.value.parts = ps
  induction ps generalizing x with
  | nil => rfl
  | cons p ps ih =>
    refine (congrArg (fun u => List.foldl _ u ps) (State.mapHere_setHere s x _)).trans ((ih _).trans ?_)
    simp only [hg]
    rfl

theorem Tile.writeMove_noPort {t : Tile} {d : Nat} {v : Moved} (hd : 0x180 ≤ d) (hp : (unitOf m.bus.isTile d).bind portA = none) :
    t.writeMove m d v = t := by
  rw [Tile.writeMove, if_neg (Nat.not_lt.2 hd), Tile.writePortA, hp]

/-- What a move on a cluster or fan bus brings to each cluster that it reaches. -/
def broughtTo (s : State) (m : Move) : List (Nat × Vec × BitVec 16) :=
  (s.here.reach m.bus).map (fun c => (c, Claims.carried s m c, Claims.lanesOn s m c))

theorem moved_cluster (h : m.bus.isTile = false) : s.here.moved m = some { word := 0, parts := broughtTo s m } := by
  simp [Tile.moved, h, broughtTo, Claims.carried, Claims.lanesOn]

theorem MayReach.notRestricted (h : Claims.MayReach s m) (d : Nat) : handlerRestricted s.here m d = false := by
  simp [handlerRestricted, Tile.inHandler, h.1]

theorem MayReach.notIdle (h : Claims.MayReach s m) (d : Nat) : idleCluster s.here.inUse m d = false := by
  obtain ⟨-, h2, h3⟩ := h
  unfold idleCluster
  cases hb : m.bus with
  | tile b => rw [hb] at h2; exact nomatch h2
  | cluster c b => simp [h3 c.val (by simp [hb, Tile.reach])]
  | fan b => rfl

/-- A trigger of the cluster domain that sends a record from each cluster and writes no port. -/
theorem issueOne_launches {op : Operation} {g : Trigger → Nat → Vec → BitVec 16 → Tile → Flight}
    (hc : s.here.calm) (hm : Claims.MayReach s m) (hd : 0x180 ≤ i.code) (hp : (unitOf false i.code).bind portA = none)
    (hk : ∀ tr, tr.value.parts = broughtTo s m → op.check tr (s.setHere s.here) = [])
    (hf : ∀ tr u, op.fault tr u = none) (hh : ∀ tr u, op.hold tr u = [])
    (ha : ∀ tr u, op.act tr u = tr.each (fun c v on s => s.mapHere (fun t => t.launchFlight (g tr c v on t))) u)
    (hl : ∀ tr u, op.late tr u = u) (ht : ∀ tr, op.after tr = .nothing) (hgp : ∀ tr c v on t, (g tr c v on t).plain)
    (hg : ∀ tr c v on t f, g tr c v on (t.launchFlight f) = g tr c v on t) :
    ∃ t tr, issueOne name i m op s = .next t ∧ Ran s t m ∧ t.here.bare = s.here.bare
      ∧ t.here.flying = (s.here.reach m.bus).map
          (fun c => (g tr c (Claims.carried s m c) (Claims.lanesOn s m c) s.here).counted) := by
  let tr := soleTrigger s.here m i.code op { word := 0, parts := broughtTo s m }
  have hpm : (unitOf m.bus.isTile i.code).bind portA = none := by rw [hm.2.1]; exact hp
  have hact : op.act tr (s.setHere s.here)
      = s.setHere (s.here.launches ((broughtTo s m).map (fun p => g tr p.1 p.2.1 p.2.2 s.here))) := by
    rw [ha, each_launch (hg tr)]
    rfl
  obtain ⟨t, h1, h2, h3, h4⟩ := issueOne_ran (name := name) hc (moved_cluster hm.2.1) (Tile.writeMove_noPort hd hpm)
    (MayReach.notRestricted hm _) (MayReach.notIdle hm _) (Tile.Keeps.refl _) (Tile.Keeps.launches ..) (hk _ rfl) (hf ..) (hh ..) hact
    (hl _) (ht _)
  refine ⟨t, tr, h1, h2, by rw [h4, Tile.launches_bare], ?_⟩
  rw [h3, Tile.launches_flying, show s.here.flying = [] from hc.2.1, List.nil_append, broughtTo, List.map_map, List.map_map]
  exact List.map_congr_left (fun c _ => (hgp ..).linked _)

theorem reach_nodup (t : Tile) (b : Bus) : (t.reach b).Nodup := by
  have up (a n : Nat) : (upFrom a n).Nodup := by
    induction n generalizing a with
    | zero => exact List.nodup_nil
    | succ n ih => exact List.nodup_cons.2 ⟨fun h => absurd (mem_upFrom.1 h).1 (by omega), ih _⟩
  cases b with
  | tile b => exact List.nodup_nil
  | cluster c b => exact List.nodup_singleton _
  | fan b => exact (up 0 8).filter _

/-! ### vm loads -/

/-- The offset of a lane by the pattern of an access (R365). -/
def laneOffset (p : Pattern) (v : Vec) (l : Nat) : Lane :=
  match p with
  | .contiguous => lane v 0 + BitVec.ofNat 32 (4 * l)
  | .strided => lane v 0 + BitVec.ofNat 32 l * lane v 1
  | .gathered => lane v l

theorem laneOffsets_eq (p : Pattern) (v : Vec) : laneOffsets p v = (upFrom 0 16).map (laneOffset p v) := by
  unfold laneOffsets laneOffset
  cases p <;> rfl

theorem offsetChecks_fit {p : Pattern} {v : Vec} (h : Claims.OffsetsFit (laneOffset p v)) : offsetChecks (laneOffsets p v) = [] := by
  have none (f : Nat → Bool) (hf : ∀ l, l < 16 → f (laneOffset p v l).toNat = false) :
      (laneOffsets p v).filter (fun o => f o.toNat) = [] := by
    rw [laneOffsets_eq, List.filter_eq_nil_iff]
    intro o ho
    obtain ⟨l, hl, rfl⟩ := List.mem_map.1 ho
    rw [hf l (by simpa using (mem_upFrom.1 hl).2)]
    exact Bool.false_ne_true
  unfold offsetChecks
  simp only [none (fun o => decide (0x1FFFFC < o)) (fun l hl => decide_eq_false (Nat.not_lt.2 (h l hl).1)),
    none (fun o => decide (o % 4 ≠ 0)) (fun l hl => decide_eq_false (not_not.2 (h l hl).2)), List.isEmpty_nil, Bool.not_true]
  rfl

/-- The words that a vm load finds, as a vector. -/
def wordsAt (t : Tile) (p : Pattern) (v : Vec) : Vec := ofLanes ((upFrom 0 16).map (fun l => Claims.laneAt t (laneOffset p v l).toNat))

/-- The record of a vm load delivers the words that its lanes' offsets name, unless one meets poison. -/
theorem Flight.loaded_gather {t : Tile} {f : Flight} {p : Pattern} {v : Vec} {on : BitVec 16} (hb : f.body = .gather (laneOffsets p v) on)
    (hp : ∀ l, l < 16 → t.poisonedAt (laneOffset p v l).toNat 4 = false) :
    f.loaded t = { f with
      perf := none, body := .vector 0x104 on (wordsAt t p v) } := by
  have hbad : (laneOffsets p v).filter (fun o => t.poisonedAt o.toNat 4) = [] := by
    rw [laneOffsets_eq, List.filter_eq_nil_iff]
    intro o ho
    obtain ⟨l, hl, rfl⟩ := List.mem_map.1 ho
    rw [hp l (by simpa using (mem_upFrom.1 hl).2)]
    exact Bool.false_ne_true
  unfold Flight.loaded
  rw [hb]
  simp only [hbad]
  simp only [laneOffsets_eq, List.map_map, Function.comp_def, ofBytes_readBytes]
  rfl

theorem issueOne_vectorLoad {p : Pattern} (hc : s.here.calm) (hm : Claims.MayReach s m) (hd : 0x180 ≤ i.code)
    (hp : (unitOf false i.code).bind portA = none)
    (hfit : ∀ c ∈ s.here.reach m.bus, Claims.OffsetsFit (laneOffset p (Claims.carried s m c)))
    (hclean : ∀ c ∈ s.here.reach m.bus, ∀ l, l < 16 → s.here.poisonedAt (laneOffset p (Claims.carried s m c) l).toNat 4 = false) :
    ∃ t u, issueOne name i m (vectorLoad p) s = .next t ∧ Ran s t m ∧ t.here.bare = s.here.bare ∧ Claims.Fillers 6 t u ∧ OnlyHere s u
      ∧ u.here.flying = []
      ∧ u.here.bare = (s.here.setLatches (s.here.reach m.bus) 0x104 (Claims.lanesOn s m)
          (fun c => wordsAt s.here p (Claims.carried s m c))).bare := by
  obtain ⟨t, tr, ht, rt, bt, ft⟩ := issueOne_launches (name := name) (op := vectorLoad p)
    (g := fun tr c v on _ => { tr.flight 6 (some 2) (.gather (laneOffsets p v) on) with clus := c }) hc hm hd hp
    (fun tr hv => by
      show tr.checks (fun _ v _ => offsetChecks (laneOffsets p v)) = []
      rw [Trigger.checks, hv, broughtTo, List.flatMap_eq_nil_iff]
      intro x hx
      obtain ⟨c, hcm, rfl⟩ := List.mem_map.1 hx
      exact offsetChecks_fit (hfit c hcm))
    (fun _ _ => rfl) (fun _ _ => rfl) (fun _ _ => rfl) (fun _ _ => rfl) (fun _ => rfl)
    (fun _ _ _ _ _ => by simp [Flight.plain, Trigger.flight]) (fun _ _ _ _ _ _ => rfl)
  have it := (Tile.calm_idles hc).of_bare bt
  have hload (c : Nat) (hcm : c ∈ s.here.reach m.bus) (f : Flight)
      (hb : f.body = .gather (laneOffsets p (Claims.carried s m c)) (Claims.lanesOn s m c)) : f.loaded t.here
        = { f with perf := none, body := .vector 0x104 (Claims.lanesOn s m c) (wordsAt s.here p (Claims.carried s m c)) } := by
    rw [Flight.loaded_congr bt, Flight.loaded_gather hb (hclean c hcm)]
  obtain ⟨v, hv, ov, bv, fv⟩ := fillers_read 3 it ft
    (List.forall_mem_map.2 (fun _ _ => rfl)) (List.forall_mem_map.2 (fun _ _ => rfl)) (List.forall_mem_map.2 (fun _ _ => rfl))
    (List.forall_mem_map.2 (fun _ _ => by simp [Flight.plain, Flight.counted, Trigger.flight]))
    (List.forall_mem_map.2 (fun c hcm => by
      rw [hload c hcm _ rfl]
      exact ⟨by simp [Flight.plain], rfl⟩))
  have hbr : BringsVectors v.here.flying (s.here.reach m.bus) 0x104 (Claims.lanesOn s m)
      (fun c => wordsAt s.here p (Claims.carried s m c)) := by
    rw [fv, List.map_map]
    refine ⟨?_, List.forall_mem_map.2 (fun c hcm => ?_)⟩
    · rw [List.map_map]
      exact (List.map_congr_left (fun c hcm => by
        simp only [Function.comp_apply]
        rw [hload c hcm _ rfl]
        rfl)).trans (List.map_id _)
    · simp only [Function.comp_apply]
      rw [hload c hcm _ rfl]
      rfl
  have hdue : ∀ f ∈ v.here.flying, f.remain = 0 ∧ f.perf = none := by
    rw [fv, List.map_map]
    refine List.forall_mem_map.2 (fun c hcm => ?_)
    simp only [Function.comp_apply]
    rw [hload c hcm _ rfl]
    exact ⟨rfl, rfl⟩
  obtain ⟨u, hu, ou, fu, bu⟩ := filler_vectors (it.of_bare bv) rfl hbr (reach_nodup ..) (fun f hf => (hdue f hf).1)
    (fun f hf => (hdue f hf).2)
  refine ⟨t, u, ht, rt, bt, fillers_trans hv (fillers_one hu), (rt.1.trans ov).trans ou, fu, ?_⟩
  rw [bu, Tile.setLatches_bare, Tile.setLatches_bare, bv, bt]
end

section
variable {s : State} {m : Move} {i : Instr} {name : String}

theorem Tile.cluster_of_bare {a b : Tile} (h : a.bare = b.bare) (c : Nat) : a.cluster c = b.cluster c := by
  have := congrArg (fun t : Tile => t.cluster c) h
  simpa [Tile.bare, Tile.cluster] using this

theorem Tile.apart_of_bare {a b : Tile} (h : a.bare = b.bare) : Claims.apart a = Claims.apart b :=
  congrArg (fun t : Tile => ({ t with clusters := [] } : Tile)) h

theorem Tile.apart_setLatches (t : Tile) (cs : List Nat) (p : Nat) (on : Nat → BitVec 16) (v : Nat → Vec) :
    Claims.apart (t.setLatches cs p on v) = Claims.apart t := by
  unfold Claims.apart
  rw [Tile.setLatches_bare, Tile.setLatches_eq]

/-! ### The rows of R365 -/

theorem vmLoads_ops : ∀ r ∈ Claims.vmLoads, ∃ p name, r.offset = laneOffset p ∧ ∀ m : Move,
    (∀ s, exec (r.op m) s = issueOne name (r.op m) m (vectorLoad p) s)
      ∧ 0x180 ≤ (r.op m).code ∧ (unitOf false (r.op m).code).bind portA = none := by
  simp only [Claims.vmLoads, List.forall_mem_cons]
  refine ⟨⟨.contiguous, ?_⟩, ⟨.strided, ?_⟩, ⟨.gathered, ?_⟩, List.forall_mem_nil _⟩ <;>
    exact ⟨_, rfl, fun _ => ⟨fun _ => rfl, Nat.le_of_ble_eq_true rfl, rfl⟩⟩

theorem vmStores_ops : ∀ r ∈ Claims.vmStores, ∃ p name, r.offset = laneOffset p ∧ ∀ m : Move,
    (∀ s, exec (r.op m) s = issueOne name (r.op m) m (vectorStore p) s)
      ∧ 0x180 ≤ (r.op m).code ∧ (unitOf false (r.op m).code).bind portA = none := by
  simp only [Claims.vmStores, List.forall_mem_cons]
  refine ⟨⟨.contiguous, ?_⟩, ⟨.strided, ?_⟩, ⟨.gathered, ?_⟩, List.forall_mem_nil _⟩ <;>
    exact ⟨_, rfl, fun _ => ⟨fun _ => rfl, Nat.le_of_ble_eq_true rfl, rfl⟩⟩

theorem vectorLoadsDeliverTheirWords : Claims.VectorLoadsDeliverTheirWords := by
  intro r hr m s off hc hm hfit hclean
  obtain ⟨p, name, hoff, ho⟩ := vmLoads_ops r hr
  obtain ⟨he, hd, hp⟩ := ho m
  have hoff' (c : Nat) : off c = laneOffset p (Claims.carried s m c) := congrFun hoff _
  simp only [hoff'] at hfit hclean ⊢
  obtain ⟨t, u, h1, h2, h3, h4, h5, h6, bu⟩ := issueOne_vectorLoad (name := name) hc hm hd hp hfit hclean
  have hcl := fun c => (Tile.cluster_of_bare bu c).trans (Tile.setLatches_cluster _ _ _ (reach_nodup ..) c)
  refine ⟨t, u, (he s).trans h1, h2, h3, h4, h5, h6, (Tile.apart_of_bare bu).trans (Tile.apart_setLatches ..), fun c => ?_⟩
  unfold Claims.latch
  rw [hcl]
  by_cases h : c ∈ s.here.reach m.bus
  · simp only [h, if_true, true_and]
    refine ⟨fun q hq => mget_mset_other _ _ hq _, fun l hl => ?_⟩
    rw [mget_mset_same, lane_mixLanes _ _ _ hl, wordsAt, lane_ofLanes_map _ hl]
  · simp only [h, if_false, false_and, implies_true, and_self]

/-! ### vm stores -/

/-- The bytes that a vm store writes, lane by lane. -/
def scattered (p : Pattern) (o : Vec) (on : BitVec 16) (v : Vec) : List (Nat × List Byte) :=
  ((upFrom 0 16).filter (fun l => on.getLsbD l)).map (fun l => ((laneOffset p o l).toNat, toBytes 4 (lane v l).toNat))

theorem nth_eq_getElem? {α : Type} (d : α) (xs : List α) (n : Nat) : nth d xs n = xs[n]?.getD d := by
  induction xs generalizing n with
  | nil => simp [nth]
  | cons x xs ih =>
    cases n with
    | zero => simp [nth]
    | succ n => simp [nth, ih]

theorem nth_laneOffsets (p : Pattern) (o : Vec) {l : Nat} (hl : l < 16) : nth 0 (laneOffsets p o) l = laneOffset p o l := by
  rw [nth_eq_getElem?, laneOffsets_eq, List.getElem?_map, getElem?_upFrom, if_pos hl]
  simp

theorem Flight.run_scatter {f : Flight} {p : Pattern} {o v : Vec} {on : BitVec 16} (hb : f.body = .scatter (laneOffsets p o) on v) :
    f.run = some { rank := storeRank f.bus.toNat f.clus, runs := scattered p o on v } := by
  unfold Flight.run scattered
  rw [hb]
  refine congrArg (fun x => some ({ rank := storeRank f.bus.toNat f.clus, runs := x } : StoreRun)) (List.map_congr_left (fun l hl => ?_))
  rw [nth_laneOffsets p o (by simpa using (mem_upFrom.1 (List.mem_of_mem_filter hl)).2)]

theorem Tile.vport_launchFlight (t : Tile) (f : Flight) (c p : Nat) : (t.launchFlight f).vport c p = t.vport c p := by
  cases h : t.level <;> simp [Tile.vport, Tile.launchFlight, Tile.setUnitsAt, Tile.cluster, h]

theorem issueOne_vectorStore {p : Pattern} {c : Nat} (hc : s.here.calm) (hm : Claims.MayReach s m) (hd : 0x180 ≤ i.code)
    (hp : (unitOf false i.code).bind portA = none) (hr : s.here.reach m.bus = [c])
    (hfit : Claims.OffsetsFit (laneOffset p (s.here.vport c 0x110))) :
    ∃ t u r, issueOne name i m (vectorStore p) s = .next t ∧ Ran s t m ∧ t.here.bare = s.here.bare ∧ Claims.Fillers 2 t u ∧ OnlyHere s u
      ∧ u.here.flying = [] ∧ r.runs = scattered p (s.here.vport c 0x110) (Claims.lanesOn s m c) (Claims.carried s m c)
      ∧ u.here.bare = (s.here.performRun r).bare := by
  obtain ⟨t, tr, ht, rt, bt, ft⟩ := issueOne_launches (name := name) (op := vectorStore p)
    (g := fun tr c v on t => { tr.flight 2 (some 2) (.scatter (laneOffsets p (t.vport c 0x110)) on v) with clus := c }) hc hm hd hp
    (fun tr hv => by
      show tr.checks (fun c _ _ => offsetChecks (laneOffsets p ((s.setHere s.here).here.vport c 0x110))) = []
      rw [Trigger.checks, hv, broughtTo, hr, State.here_setHere]
      simp only [List.map_cons, List.map_nil, List.flatMap_cons, List.flatMap_nil, List.append_nil]
      exact offsetChecks_fit hfit)
    (fun _ _ => rfl) (fun _ _ => rfl) (fun _ _ => rfl) (fun _ _ => rfl) (fun _ => rfl)
    (fun _ _ _ _ _ => by simp [Flight.plain, Trigger.flight])
    (fun _ _ _ _ _ _ => by simp only [Tile.vport_launchFlight])
  rw [hr] at ft
  obtain ⟨u, hu, ou, fu, bu⟩ := fillers_store ((Tile.calm_idles hc).of_bare bt) ft rfl rfl (Flight.run_scatter rfl)
    (by simp [Flight.plain, Flight.counted, Trigger.flight])
  exact ⟨t, u, _, ht, rt, bt, hu, rt.1.trans ou, fu, rfl, bu.trans (Tile.performRun_congr bt _)⟩

/-- A byte that no write of a list covers reads as before. -/
theorem readByte_foldl_outside {xs : List (Nat × List Byte)} {y : Nat} (h : ∀ x ∈ xs, y < x.1 ∨ x.1 + x.2.length ≤ y) (m : Memory) :
    readByte (xs.foldl (fun m x => writeBytes m x.1 x.2) m) y = readByte m y := by
  induction xs generalizing m with
  | nil => rfl
  | cons x xs ih =>
    obtain ⟨h1, h2⟩ := List.forall_mem_cons.1 h
    rw [List.foldl_cons, ih h2, readByte_writeBytes_outside _ _ _ _ h1]

theorem upFrom_sorted (a n : Nat) : (upFrom a n).Pairwise (· < ·) := by
  induction n generalizing a with
  | zero => exact List.Pairwise.nil
  | succ n ih => exact List.pairwise_cons.2 ⟨fun b hb => (mem_upFrom.1 hb).1, ih _⟩

/-- A byte of a lane's data. -/
theorem byte_of_lane (x : Lane) (j : Nat) : BitVec.ofNat 8 (x.toNat / 256 ^ j) = BitVec.extractLsb' (8 * j) 8 x := by
  rw [BitVec.extractLsb', Nat.shiftRight_eq_div_pow, Nat.pow_mul]

section
variable {p : Pattern} {o v : Vec} {on : BitVec 16}

theorem mem_scattered {x : Nat × List Byte} : x ∈ scattered p o on v ↔
    ∃ l, l < 16 ∧ on.getLsbD l = true ∧ x = ((laneOffset p o l).toNat, toBytes 4 (lane v l).toNat) := by
  simp only [scattered, List.mem_map, List.mem_filter, mem_upFrom]
  constructor
  · rintro ⟨l, ⟨⟨-, h1⟩, h2⟩, rfl⟩
    exact ⟨l, by omega, h2, rfl⟩
  · rintro ⟨l, h1, h2, rfl⟩
    exact ⟨l, ⟨⟨Nat.zero_le _, by omega⟩, h2⟩, rfl⟩

/-- The lane's data stand at its offset unless a higher lane that is on has the same one. -/
theorem readByte_scattered (hfit : Claims.OffsetsFit (laneOffset p o)) {l j : Nat} (hl : l < 16) (hj : j < 4)
    (hon : on.getLsbD l = true)
    (hlast : ∀ k, l < k → k < 16 → on.getLsbD k = true → laneOffset p o k ≠ laneOffset p o l) (m : Memory) :
    readByte ((scattered p o on v).foldl (fun m x => writeBytes m x.1 x.2) m) ((laneOffset p o l).toNat + j)
      = BitVec.extractLsb' (8 * j) 8 (lane v l) := by
  have hmem : l ∈ (upFrom 0 16).filter (fun l => on.getLsbD l) :=
    List.mem_filter.2 ⟨mem_upFrom.2 ⟨Nat.zero_le _, by omega⟩, hon⟩
  obtain ⟨before, after, hs⟩ := List.append_of_mem hmem
  have hsorted := (upFrom_sorted 0 16).filter (fun l => on.getLsbD l)
  rw [hs, List.pairwise_append] at hsorted
  have hafter : ∀ k ∈ after, l < k := (List.pairwise_cons.1 hsorted.2.1).1
  rw [scattered, hs, List.map_append, List.map_cons, List.foldl_append, List.foldl_cons, readByte_foldl_outside]
  · rw [readByte_writeBytes_inside _ _ _ _ (by rw [length_toBytes]; exact hj), getElem_toBytes, byte_of_lane]
  · refine List.forall_mem_map.2 (fun k hk => ?_)
    have hkm : k ∈ (upFrom 0 16).filter (fun l => on.getLsbD l) := by rw [hs]; simp [hk]
    obtain ⟨hk1, hk2⟩ := List.mem_filter.1 hkm
    have hk16 : k < 16 := by simpa using (mem_upFrom.1 hk1).2
    have hne : (laneOffset p o k).toNat ≠ (laneOffset p o l).toNat := fun e => hlast k (hafter k hk) hk16 hk2 (BitVec.eq_of_toNat_eq e)
    have a1 := (hfit l hl).2
    have a2 := (hfit k hk16).2
    rw [length_toBytes]
    omega

theorem readByte_scattered_outside (hfit : Claims.OffsetsFit (laneOffset p o)) {y : Nat}
    (hy : ¬ Claims.StoresTo (laneOffset p o) on (y / 4 * 4)) (m : Memory) :
    readByte ((scattered p o on v).foldl (fun m x => writeBytes m x.1 x.2) m) y = readByte m y := by
  refine readByte_foldl_outside (fun x hx => ?_) m
  obtain ⟨l, hl, hon, rfl⟩ := mem_scattered.1 hx
  have ha := (hfit l hl).2
  have hne : (laneOffset p o l).toNat ≠ y / 4 * 4 := fun e => hy ⟨l, hl, hon, e⟩
  rw [length_toBytes]
  omega

/-- A vm store makes up a 64-bit word whole where it stores to both its halves. -/
theorem covers_scattered {r : StoreRun} (hr : r.runs = scattered p o on v) (hfit : Claims.OffsetsFit (laneOffset p o)) {w : Nat} :
    r.covers w = true
      ↔ Claims.StoresTo (laneOffset p o) on (8 * w) ∧ Claims.StoresTo (laneOffset p o) on (8 * w + 4) := by
  rw [StoreRun.covers_iff, hr]
  constructor
  · intro h
    have half (q : Nat) (hq : q = 0 ∨ q = 4) : Claims.StoresTo (laneOffset p o) on (8 * w + q) := by
      obtain ⟨x, hx, h1, h2⟩ := h q (by omega)
      obtain ⟨l, hl, hon, rfl⟩ := mem_scattered.1 hx
      have ha := (hfit l hl).2
      rw [length_toBytes] at h2
      exact ⟨l, hl, hon, by omega⟩
    exact ⟨half 0 (.inl rfl), half 4 (.inr rfl)⟩
  · rintro ⟨⟨l, hl, hon, e⟩, k, hk, hok, e2⟩ j hj
    by_cases h : j < 4
    · exact ⟨_, mem_scattered.2 ⟨l, hl, hon, rfl⟩, by omega, by rw [length_toBytes]; omega⟩
    · exact ⟨_, mem_scattered.2 ⟨k, hk, hok, rfl⟩, by omega, by rw [length_toBytes]; omega⟩
end

theorem vectorStoresWriteTheirWords : Claims.VectorStoresWriteTheirWords := by
  intro r hr m s c off on hc hm hreach hfit
  obtain ⟨p, name, hoff, ho⟩ := vmStores_ops r hr
  obtain ⟨he, hd, hp⟩ := ho m
  have hoff' : off = laneOffset p (s.here.vport c 0x110) := congrFun hoff _
  rw [hoff'] at hfit ⊢
  obtain ⟨t, u, q, h1, h2, h3, h4, h5, h6, hq, bu⟩ := issueOne_vectorStore (name := name) hc hm hd hp hreach hfit
  have hst : u.here.store = (scattered p (s.here.vport c 0x110) on (Claims.carried s m c)).foldl
      (fun m x => writeBytes m x.1 x.2) s.here.store := by
    rw [Tile.store_of_bare bu, Tile.performRun_eq]
    simp only [StoreRun.stored, hq]
    rfl
  refine ⟨t, u, (he s).trans h1, h2, h3, h4, h5, h6, ?_, ?_, ?_, ?_⟩
  · have e := congrArg (fun x : Tile => ({ x with store := [], badWords := [] } : Tile)) bu
    exact e.trans (restOf_performRun ..)
  · intro l j hl hj hon hlast
    rw [hst, readByte_scattered hfit hl hj hon hlast]
  · intro y hy
    rw [hst, readByte_scattered_outside hfit hy]
  · intro k
    rw [Tile.badWords_of_bare bu, Tile.performRun_eq]
    simp only [StoreRun.mem_cleaned, covers_scattered hq hfit]
    rfl

/-- Settles O31: the records of a vm load read the store at their perform point and arrive four cycles later, each in its own cluster
(`issueOne_vectorLoad`); a vm store writes its lanes in rising order, so that the higher one prevails (`readByte_scattered`). -/
theorem vectorMemoryMovesWords : Obligations.VectorMemoryMovesWords := ⟨vectorLoadsDeliverTheirWords, vectorStoresWriteTheirWords⟩
end

end Sys2Proof.Machine
end

section
/-! PROOF. Requests at the control port: the fields of a response, the checks that a request passes, and the step that takes it (O50, O52 to
O54). -/

namespace Sys2Proof.Machine

open Host (Outcome)

/-! ### Responses -/

/-- The number of a response's header, field by field. -/
theorem responseTo_toNat (h : BitVec 128) (st : Status) (body : List Byte) :
    (responseTo h st body).header.toNat
      = h.toNat % 2 ^ 32 + st.number * 2 ^ 32 + 2 ^ 40 + h.toNat / 2 ^ 41 % 2 ^ 55 * 2 ^ 41 + body.length % 2 ^ 32 * 2 ^ 96 := by
  have hs : st.number < 10 := by cases st <;> decide
  simp only [responseTo, field, BitVec.toNat_ofNat, Nat.pow_zero, Nat.div_one, Nat.reduceAdd, Nat.reduceSub]
  omega

/-- What R40 says of a response's header. -/
theorem responseTo_fields (h : BitVec 128) (st : Status) (body : List Byte) :
    (responseTo h st body).header.toNat % 2 ^ 32 = h.toNat % 2 ^ 32
      ∧ (responseTo h st body).header.toNat / 2 ^ 32 % 256 = st.number
      ∧ (responseTo h st body).header.getLsbD 40 = true
      ∧ (responseTo h st body).header.toNat / 2 ^ 41 % 2 ^ 55 = h.toNat / 2 ^ 41 % 2 ^ 55
      ∧ (responseTo h st body).header.toNat / 2 ^ 96 = body.length % 2 ^ 32 := by
  have hs : st.number < 10 := by cases st <;> decide
  have ht := responseTo_toNat h st body
  have hr : (responseTo h st body).header.getLsbD 40 = true := by
    rw [← BitVec.testBit_toNat, Nat.testBit_eq_decide_div_mod_eq, decide_eq_true_iff]
    omega
  refine ⟨?_, ?_, hr, ?_, ?_⟩
  · omega
  · omega
  · omega
  · omega

/-- A response repeats SEQ. -/
theorem responseTo_seq (h : BitVec 128) (st : Status) (body : List Byte) :
    BitVec.extractLsb' 64 32 (responseTo h st body).header = BitVec.extractLsb' 64 32 h := by
  obtain ⟨-, -, -, hf, -⟩ := responseTo_fields h st body
  have within (x : Nat) : x / 2 ^ 64 % 2 ^ 32 = x / 2 ^ 41 % 2 ^ 55 / 2 ^ 23 % 2 ^ 32 := by omega
  apply BitVec.eq_of_toNat_eq
  rw [BitVec.extractLsb'_toNat, BitVec.extractLsb'_toNat, Nat.shiftRight_eq_div_pow, Nat.shiftRight_eq_div_pow, within, hf, ← within]

/-! ### What a control port keeps -/

/-- A request just accepted is the last that the port keeps. -/
theorem Control.accept_kept (c : Control) (m : Message) : (c.accept m).kept.getLast? = some (m.seq, none) := by
  simp only [Control.accept, List.length_append, List.length_singleton]
  rw [List.getLast?_drop, if_neg (by simp), List.getLast?_concat]

/-- An answer to the request just accepted, with no duplicate waiting, is the last that the port keeps and the last that it has sent. -/
theorem Control.respond_accept (c : Control) (m : Message) (f : Option PartialImage) (st : Status) (body : List Byte) (h : c.again = []) :
    let d := ({ c.accept m with firmware := f } : Control).respond m.header st body
    d.sent = c.sent ++ [responseTo m.header st body] ∧ d.next = some (m.seq + 1)
      ∧ d.kept.getLast? = some (m.seq, some (responseTo m.header st body)) ∧ d.waiting = c.waiting ∧ d.again = [] := by
  have hk := c.accept_kept m
  refine ⟨?_, rfl, ?_, rfl, ?_⟩
  · simp [Control.respond, Control.accept, h]
  · simp [Control.respond, List.getLast?_map, hk, Message.seq]
  · simp [Control.respond, Control.accept, h]

/-- A port that holds the answer to the request that stands at it. -/
theorem answered_of_control {s t : State} {f : Option PartialImage} {st : Status} {body : List Byte} (ha : s.control.again = [])
    (hw : s.control.waiting = [])
    (ht : t.control = ({ s.control.accept s.control.arrived with firmware := f } : Control).respond s.control.arrived.header st body) :
    Claims.Answered s t st.number body := by
  obtain ⟨h1, h2, h3, h4, h5⟩ := s.control.respond_accept s.control.arrived f st body ha
  obtain ⟨e1, e2, e3, e4, e5⟩ := responseTo_fields s.control.arrived.header st body
  exact ⟨_, ht ▸ h1, rfl, e1, e2, e3, e4, e5, ht ▸ h2, ht ▸ h3, ht ▸ h4.trans hw, ht ▸ h5⟩

/-! ### A request that may execute at once -/

section
variable {s : State} {ty part : Nat} {body : List Byte}

/-- The state on which the request at the port executes. -/
def onRequest (s : State) : State := Claims.tried (Claims.received s) (.request s.control.arrived.header)

/-- A state that a request has left, as it stands after the step. -/
def afterRequest (s v : State) : State := { v with want := s.want, asker := s.asker }

theorem State.dropImages_control (s : State) (m : Message) : ∃ f, (s.dropImages m).control = { s.control with firmware := f } := by
  unfold State.dropImages
  split
  · split
    · exact ⟨s.control.firmware, rfl⟩
    · exact ⟨none, rfl⟩
  · split <;> exact ⟨s.control.firmware, rfl⟩

theorem received_control (s : State) :
    ∃ f, (Claims.received s).control = ({ s.control.accept s.control.arrived with firmware := f } : Control) :=
  State.dropImages_control ..

/-- The partial image of a partition apart, a request's arrival changes none of its fields. -/
theorem received_part (s : State) (n : Nat) : ∃ i, (Claims.received s).part n = { s.part n with image := i } := by
  unfold Claims.received State.dropImages
  repeat' split
  · exact ⟨_, rfl⟩
  · exact ⟨_, rfl⟩
  · exact ⟨_, rfl⟩
  · unfold State.mapPart
    rw [State.part_setPart]
    split
    · next h => subst h; exact ⟨_, rfl⟩
    · exact ⟨_, rfl⟩

/-- The partitions that a request does not name are as they were. -/
theorem received_part_other (s : State) {n : Nat} (h : n ≠ s.control.arrived.part) : (Claims.received s).part n = s.part n := by
  unfold Claims.received State.dropImages
  repeat' split
  · rfl
  · rfl
  · rfl
  · exact State.part_setPart_other _ h _

/-- What a request's arrival leaves alone. -/
theorem received_rest (s : State) :
    { Claims.received s with control := s.control, parts := s.parts } = s := by
  unfold Claims.received State.dropImages
  repeat' split
  all_goals rfl

theorem received_health (s : State) : (Claims.received s).health = s.health := (congrArg State.health (received_rest s) :)

theorem received_want (s : State) : (Claims.received s).want = s.want := (congrArg State.want (received_rest s) :)

theorem received_asker (s : State) : (Claims.received s).asker = s.asker := (congrArg State.asker (received_rest s) :)

theorem onRequest_awaited (s : State) : (onRequest s).awaited = s.awaited := (congrArg State.awaited (received_rest s) :)

theorem tried_dropImages (s : State) (a : Asker) (m : Message) : (Claims.tried s a).dropImages m = Claims.tried (s.dropImages m) a := by
  unfold State.dropImages
  repeat' split
  all_goals rfl

theorem State.releaseFrom_none (s : State) (h : s.control.waiting = []) : s.release = s := by
  have e : ({ s with control := { s.control with waiting := [] } } : State) = s := by rw [← h]
  unfold State.release
  rw [h]
  exact e

/-- A request that stands at the port and may execute waits for nothing. -/
theorem asks_mustWait (h : Claims.Asks s ty part body) (c : Control) : ({ s with control := c } : State).mustWait s.control.arrived [] = false := by
  obtain ⟨-, -, -, hp, -, -, -, -, -, -, -, -, -, -, -, hb⟩ := h
  unfold State.mustWait Message.isModule
  rw [hp]
  by_cases hm : part = 0xFF
  · rw [if_pos hm] at hb
    subst hm
    simpa using hb
  · rw [if_neg hm] at hb
    have : (part == 0xFF) = false := by simpa using hm
    rw [this]
    simp only [Bool.false_eq_true, if_false, List.any_nil, Bool.or_false]
    exact hb.2

/-- A request that stands at the port and may execute is taken: the step is what its execution gives. -/
theorem arriveRequest_of_asks {name : String} {due : Message → Bool} {w : State} (h : Claims.Asks s ty part body)
    (hd : due s.control.arrived = true)
    (hw : (Claims.tried ({ s with control := s.control.accept s.control.arrived } : State) (.request s.control.arrived.header)).answerRequest
      s.control.arrived = w)
    (hn : w.want = none) :
    arriveRequest name due s = .next (((afterRequest s w).forget (.request s.control.arrived.header)).release) := by
  have hm := asks_mustWait h (s.control.accept s.control.arrived)
  obtain ⟨hport, -, -, -, hresp, -, -, -, -, hdup, hnext, hwait, -, -, -, -⟩ := h
  have hr : ({ s with control := s.control.accept s.control.arrived } : State).runRequest s.control.arrived
      = (true, (afterRequest s w).forget (.request s.control.arrived.header)) := by
    unfold State.runRequest
    rw [State.attempt_made (by exact hw ▸ hn)]
    simp only [Prod.mk.injEq, true_and]
    exact congrArg (fun w => (afterRequest s w).forget (.request s.control.arrived.header)) hw
  have hwait' : (s.control.accept s.control.arrived).waiting = [] := hwait
  unfold arriveRequest
  simp only [hport, hresp, hdup, hd, hnext, Bool.not_true, Bool.or_self, Bool.false_eq_true, if_false, if_true, Outcome.next.injEq]
  unfold State.takeRequest
  simp only [hwait', hm, Bool.false_eq_true, if_false, hr]

/-- A type's scope takes PART, and the state allows the type (R44). -/
def allows (s : State) (ty part : Nat) : Bool :=
  (scopeOf ty).any (fun c => c.takes part) && (part == 0xFF || allowedIn ty (s.part part).state)

/-- A request that stands at the port and passes the checks of every type executes. -/
theorem perform_of_asks (h : Claims.Asks s ty part body) (ha : allows s ty part = true) :
    (Claims.tried ({ s with control := s.control.accept s.control.arrived } : State) (.request s.control.arrived.header)).perform s.control.arrived
      = handle s.control.arrived (onRequest s) := by
  obtain ⟨-, hrec, hty, hpart, -, hres, hpay, hlen, hmax, -, -, -, -, -, -, -⟩ := h
  obtain ⟨i, hi⟩ := received_part s part
  have hst : ((onRequest s).part part).state = (s.part part).state := by
    have h := congrArg Partition.state hi
    exact h
  have hh : (onRequest s).health = s.health := received_health s
  unfold allows at ha
  rw [Bool.and_eq_true, Option.any_eq_true] at ha
  obtain ⟨⟨c, hc, ht⟩, hal⟩ := ha
  have hf : (onRequest s).forbids s.control.arrived = false := by
    unfold State.forbids Message.isModule
    rw [hpart, hty, hst, hh, hrec]
    rcases Bool.or_eq_true_iff.1 hal with h1 | h1 <;> simp [h1]
  have hl : ¬ (8960 < s.control.arrived.len ∨ s.control.arrived.len ≠ s.control.arrived.payload.length) := by
    rw [hpay, hlen]; omega
  have hdrop : (Claims.tried ({ s with control := s.control.accept s.control.arrived } : State)
      (.request s.control.arrived.header)).dropImages s.control.arrived = onRequest s := tried_dropImages ..
  unfold State.perform
  simp only [hty, hc, hres, hpart, ht, hdrop, hf, hl, Bool.not_true, Bool.false_eq_true, if_false]

/-- A request that is answered at once: the step sends the answer, and what the execution has left stands. -/
theorem answered_of_asks {name : String} {due : Message → Bool} {st : Status} {answer : List Byte} {v : State}
    (h : Claims.Asks s ty part body) (hd : due s.control.arrived = true) (ha : allows s ty part = true)
    (hv : handle s.control.arrived (onRequest s) = (some (st, answer), v)) (hn : v.want = none)
    (hk : ∀ q ∈ v.awaited, q.asker ≠ .request s.control.arrived.header) (hc : v.control = (Claims.received s).control) :
    ∃ t, arriveRequest name due s = .next t ∧ Claims.Answered s t st.number answer
      ∧ { t with control := (Claims.received s).control } = afterRequest s v := by
  obtain ⟨f, hf⟩ := received_control s
  have hp := perform_of_asks h ha
  obtain ⟨-, -, -, -, -, -, -, -, -, -, -, hwait, hagain, -, -, -⟩ := id h
  have hans : (Claims.tried ({ s with control := s.control.accept s.control.arrived } : State)
      (.request s.control.arrived.header)).answerRequest s.control.arrived = v.respond s.control.arrived.header st answer := by
    unfold State.answerRequest
    rw [hp, hv]
  have hcon : (v.respond s.control.arrived.header st answer).control
      = ({ s.control.accept s.control.arrived with firmware := f } : Control).respond s.control.arrived.header st answer :=
    congrArg (fun c : Control => c.respond s.control.arrived.header st answer) (hc.trans hf)
  have hans' := arriveRequest_of_asks (name := name) h hd hans hn
  rw [State.forget_none (s := afterRequest s (v.respond s.control.arrived.header st answer)) hk, State.releaseFrom_none] at hans'
  · refine ⟨_, hans', answered_of_control hagain hwait hcon, ?_⟩
    show ({ afterRequest s v with control := (Claims.received s).control } : State) = _
    rw [← hc]
    rfl
  · exact (congrArg Control.waiting hcon).trans ((s.control.respond_accept _ f st answer hagain).2.2.2.1.trans hwait)

/-- The accesses of other askers, which an execution leaves alone. -/
theorem asks_awaited (h : Claims.Asks s ty part body) {q : Awaited} (hq : q ∈ s.awaited) : q.asker ≠ .request s.control.arrived.header := by
  obtain ⟨-, -, -, -, -, -, -, -, -, -, -, -, -, -, hn, -⟩ := h
  simpa using hn q hq

/-- A request that is answered at once and whose execution leaves the accesses and the port alone. -/
theorem answered_of_handle {name : String} {due : Message → Bool} {st : Status} {answer : List Byte} {v : State}
    (h : Claims.Asks s ty part body) (hd : due s.control.arrived = true) (ha : allows s ty part = true)
    (hv : handle s.control.arrived (onRequest s) = (some (st, answer), v)) (hn : v.want = none) (hk : v.awaited = s.awaited)
    (hc : v.control = (Claims.received s).control) :
    ∃ t, arriveRequest name due s = .next t ∧ Claims.Answered s t st.number answer
      ∧ { t with control := (Claims.received s).control } = afterRequest s v :=
  answered_of_asks h hd ha hv hn (fun _ hq => asks_awaited h (hk ▸ hq)) hc

theorem afterRequest_onRequest (s : State) : afterRequest s (onRequest s) = Claims.received s := by
  show ({ Claims.received s with want := s.want, asker := s.asker } : State) = _
  rw [← received_want, ← received_asker]

/-- A request that is answered at once and changes nothing. -/
theorem onlyAnswered_of_handle {name : String} {due : Message → Bool} {st : Status} {answer : List Byte}
    (h : Claims.Asks s ty part body) (hd : due s.control.arrived = true) (ha : allows s ty part = true)
    (hv : handle s.control.arrived (onRequest s) = (some (st, answer), onRequest s)) :
    ∃ t, arriveRequest name due s = .next t ∧ Claims.OnlyAnswered s t st.number answer := by
  obtain ⟨t, h1, h2, h3⟩ := answered_of_handle (name := name) h hd ha hv rfl (onRequest_awaited s) rfl
  exact ⟨t, h1, h2, h3.trans (afterRequest_onRequest s)⟩

end

end Sys2Proof.Machine
end

section
/-! PROOF. Requests of any type are taken in their order (O50). -/

namespace Sys2Proof.Machine

open Host (Outcome)

/-- A response that is kept is sent again. -/
theorem duplicate_answered {s : State} {q : Lane} {r : Response} (hp : s.health.noPort = false) (hr : s.control.arrived.resp = false)
    (h : s.control.kept.find? (fun k => k.1 == s.control.arrived.seq) = some (q, some r)) :
    exec .duplicateRequest s = .next { s with control := { s.control with sent := s.control.sent ++ [r] } } := by
  show execDuplicateRequest s = _
  simp [execDuplicateRequest, hp, hr, h]

/-- The duplicate of a request without a response waits for it. -/
theorem duplicate_waits {s : State} {q : Lane} (hp : s.health.noPort = false) (hr : s.control.arrived.resp = false)
    (h : s.control.kept.find? (fun k => k.1 == s.control.arrived.seq) = some (q, none)) :
    exec .duplicateRequest s = .next { s with control := { s.control with again := s.control.again ++ [s.control.arrived.seq] } } := by
  show execDuplicateRequest s = _
  simp [execDuplicateRequest, hp, hr, h]

/-- A type that R44 does not list has no scope. -/
theorem scopeOf_unassigned {ty : Nat} (h : ty ∉ Claims.assigned) : scopeOf ty = none := by
  simp only [Claims.assigned, List.mem_cons, List.not_mem_nil, or_false, not_or] at h
  have low : ¬ (ty ≠ 0 ∧ ty ≤ 4) := by omega
  have making : ¬ (0x10 ≤ ty ∧ ty ≤ 0x15) := by omega
  have moving : ¬ (0x20 ≤ ty ∧ ty ≤ 0x25) := by omega
  have working : ¬ (0x30 ≤ ty ∧ ty ≤ 0x36) := by omega
  have rest : ¬ (ty = 0x40 ∨ ty = 0x50) ∧ ¬ (ty = 0x51 ∨ ty = 0x52) := by omega
  unfold scopeOf
  rw [if_neg making, if_neg moving, if_neg working, if_neg rest.1, if_neg rest.2]
  split
  · rfl
  · next h0 => rw [if_neg (fun h4 => low ⟨h0, h4⟩)]

/-- A request of an unassigned type is answered BAD_TYPE before anything of its scope is looked at. -/
theorem unassigned_answered {s : State} {ty part : Nat} {body : List Byte} (hty : ty ∉ Claims.assigned) (h : Claims.Asks s ty part body) :
    ∃ t, exec .unassignedType s = .next t ∧ Claims.Answered s t 1 [] ∧ { t with control := s.control } = s := by
  have hsc := scopeOf_unassigned hty
  obtain ⟨-, -, ht, -, -, -, -, -, -, -, -, hwait, hagain, -, -, -⟩ := id h
  have any (c : Control) : ∃ f, c = { c with firmware := f } := ⟨c.firmware, rfl⟩
  obtain ⟨f, hf⟩ := any (s.control.accept s.control.arrived)
  generalize hv : Claims.tried ({ s with control := s.control.accept s.control.arrived } : State) (.request s.control.arrived.header) = v
  have hc : v.control = s.control.accept s.control.arrived := hv ▸ rfl
  have hs : { afterRequest s v with control := s.control } = s := hv ▸ rfl
  have hk : v.awaited = s.awaited := hv ▸ rfl
  have ha : v.answerRequest s.control.arrived = v.respond s.control.arrived.header .badType [] := by
    simp only [State.answerRequest, State.perform, ht, hsc, deny]
  have hn : (v.respond s.control.arrived.header .badType []).want = none := hv ▸ rfl
  have he := arriveRequest_of_asks (name := "UNASSIGNED_TYPE") (due := fun m => (scopeOf m.type).isNone) h (by simp [ht, hsc])
    (hv ▸ ha) hn
  have hcon : (v.respond s.control.arrived.header .badType []).control
      = ({ s.control.accept s.control.arrived with firmware := f } : Control).respond s.control.arrived.header .badType [] :=
    congrArg (fun c : Control => c.respond s.control.arrived.header .badType []) (hc.trans hf)
  have hnone : (afterRequest s (v.respond s.control.arrived.header .badType [])).control.waiting = [] :=
    (congrArg Control.waiting hcon).trans hwait
  rw [State.forget_none (s := afterRequest s (v.respond s.control.arrived.header .badType [])) (fun _ hq => asks_awaited h (hk ▸ hq)),
    State.releaseFrom_none _ hnone] at he
  exact ⟨_, he, answered_of_control hagain hwait hcon, hs⟩

/-- A request out of sequence is discarded, whichever step meets it. -/
theorem arriveRequest_discards {s : State} {name : String} {due : Message → Bool} (hp : s.health.noPort = false)
    (hr : s.control.arrived.resp = false) (hd : s.control.isDuplicate s.control.arrived = false)
    (hn : s.control.isNext s.control.arrived = false) (h : due s.control.arrived = true) : arriveRequest name due s = .next s := by
  simp [arriveRequest, hp, hr, hd, hn, h]

theorem arriveType_discards {s : State} {name : String} {ty : Nat} (hp : s.health.noPort = false) (hr : s.control.arrived.resp = false)
    (hd : s.control.isDuplicate s.control.arrived = false) (hn : s.control.isNext s.control.arrived = false)
    (h : s.control.arrived.type = ty) : arriveType name ty s = .next s :=
  arriveRequest_discards hp hr hd hn (by simpa using h)

/-- The step of the message at the port discards it when it is out of sequence. -/
theorem stepOf_discards {s : State} (hp : s.health.noPort = false) (hr : s.control.arrived.resp = false)
    (hd : s.control.isDuplicate s.control.arrived = false) (hn : s.control.isNext s.control.arrived = false) :
    exec (Claims.stepOf s.control.arrived) s = .next s := by
  unfold Claims.stepOf
  extract_lets first
  split
  case h_10 h =>
    have op : configOp s.control.arrived = first := rfl
    split
    · next h1 =>
      show arriveRequest "PART_CONFIG_REPLACE" (fun m => m.type == 0x15 && configOp m == 1) s = _
      exact arriveRequest_discards hp hr hd hn (by simp [h, op, h1])
    · split
      · next h2 =>
        show arriveRequest "PART_CONFIG_APPEND" (fun m => m.type == 0x15 && configOp m == 2) s = _
        exact arriveRequest_discards hp hr hd hn (by simp [h, op, h2])
      · next h1 h2 =>
        show arriveRequest "PART_CONFIG_READ" (fun m => m.type == 0x15 && configOp m != 1 && configOp m != 2) s = _
        exact arriveRequest_discards hp hr hd hn (by simp [h, op, h1, h2])
  case h_26 h =>
    split
    · next h0 =>
      show arriveRequest "SNAPSHOT_TRIGGER" (fun m => m.type == 0x51 && le m.payload 0 4 == 0) s = _
      exact arriveRequest_discards hp hr hd hn (by simp [h, le, h0])
    · next h0 =>
      show arriveRequest "SNAPSHOT_ARM" (fun m => m.type == 0x51 && le m.payload 0 4 != 0) s = _
      exact arriveRequest_discards hp hr hd hn (by simp [h, le, h0])
  case h_28 =>
    have hs : scopeOf s.control.arrived.type = none := scopeOf_unassigned (by simp_all [Claims.assigned])
    show arriveRequest "UNASSIGNED_TYPE" (fun m => (scopeOf m.type).isNone) s = _
    exact arriveRequest_discards hp hr hd hn (by rw [hs]; rfl)
  all_goals next h => exact arriveType_discards hp hr hd hn h

/-- Settles O50: the kept response is sent again or waited for (`duplicate_answered`, `duplicate_waits`), BAD_TYPE comes before everything
else (`unassigned_answered`), and every step discards a request out of sequence (`stepOf_discards`). -/
theorem requestsAreTakenInOrder : Obligations.RequestsAreTakenInOrder := fun _ =>
  ⟨fun _ _ hp hr h => duplicate_answered hp hr h, fun _ hp hr h => duplicate_waits hp hr h,
    fun _ _ _ hty h => unassigned_answered hty h, fun hp hr hd hn => stepOf_discards hp hr hd hn⟩

end Sys2Proof.Machine
end

section
/-! PROOF. Payloads as they are written and read (R45), pieces of pages and lines, and the bytes that a store of a piece leaves (O52 to O54). -/

namespace Sys2Proof.Machine

/-! ### Fields of a payload -/

theorem ofBytes_toBytes (n x : Nat) : ofBytes (toBytes n x) = x % 256 ^ n := by
  induction n generalizing x with
  | zero => simp [toBytes, ofBytes, Nat.mod_one]
  | succ n ih =>
    have h := Nat.mod_mul (x := x) (a := 256) (b := 256 ^ n)
    simp only [toBytes, ofBytes, ih, BitVec.toNat_ofNat, Nat.reducePow, Nat.pow_succ]
    rw [Nat.mul_comm (256 ^ n), h]

section
variable {xs ys : List Byte} {off n : Nat}

@[simp] theorem le_right (h : xs.length ≤ off) : le (xs ++ ys) off n = le ys (off - xs.length) n := by
  simp only [le, List.drop_append, List.drop_eq_nil_of_le h, List.nil_append]

@[simp] theorem le_left (h : off + n ≤ xs.length) : le (xs ++ ys) off n = le xs off n := by
  unfold le
  rw [List.drop_append_of_le_length (by omega), List.take_append_of_le_length (by rw [List.length_drop]; omega)]

@[simp] theorem dirty_right (h : xs.length ≤ off) : dirty (xs ++ ys) off n = dirty ys (off - xs.length) n := by
  simp only [dirty, List.drop_append, List.drop_eq_nil_of_le h, List.nil_append]

@[simp] theorem dirty_left (h : off + n ≤ xs.length) : dirty (xs ++ ys) off n = dirty xs off n := by
  unfold dirty
  rw [List.drop_append_of_le_length (by omega), List.take_append_of_le_length (by rw [List.length_drop]; omega)]

end

@[simp] theorem le_toBytes (n x : Nat) : le (toBytes n x) 0 n = x % 256 ^ n := by
  unfold le
  rw [List.drop_zero, List.take_of_length_le (by rw [length_toBytes]), ofBytes_toBytes]

theorem toBytes_zero (n : Nat) : toBytes n 0 = List.replicate n 0 := by
  induction n with
  | zero => rfl
  | succ n ih => rw [toBytes, Nat.zero_div, ih]; rfl

theorem ofBytes_replicate_zero (n : Nat) : ofBytes (List.replicate n (0 : Byte)) = 0 := by
  rw [← toBytes_zero, ofBytes_toBytes, Nat.zero_mod]

@[simp] theorem le_zero (n off k : Nat) : le (toBytes n 0) off k = 0 := by
  rw [le, toBytes_zero, List.drop_replicate, List.take_replicate, ofBytes_replicate_zero]

@[simp] theorem dirty_zero (n off k : Nat) : dirty (toBytes n 0) off k = false := by
  rw [dirty, toBytes_zero, List.drop_replicate, List.take_replicate]
  simp

/-- Checks that all fail let what follows run. -/
theorem guarded_pass {cs : List (Bool × Status)} {s : State} {k : State → Reply} (h : ∀ c ∈ cs, c.1 = false) : guarded cs s k = k s := by
  have hf : cs.find? Prod.fst = none := List.find?_eq_none.2 (fun c hc => by simp [h c hc])
  simp [guarded, hf]

/-! ### Tables -/

theorem mfind_filter {α : Type} (keep : Nat → Bool) (m : SMap α) (k : Nat) :
    mfind k (m.filter (fun e => keep e.1)) = if keep k then mfind k m else none := by
  induction m with
  | nil => simp [mfind]
  | cons e m ih =>
    obtain ⟨j, v⟩ := e
    by_cases hj : j = k
    · subst hj
      by_cases hk : keep j = true <;> simp_all [mfind]
    · by_cases hk : keep j = true <;> simp [mfind, hk, hj, ih]

theorem mfind_map {α β : Type} (f : Nat → α → β) (m : SMap α) (k : Nat) :
    mfind k (m.map (fun e => (e.1, f e.1 e.2))) = (mfind k m).map (f k) := by
  induction m with
  | nil => rfl
  | cons e m ih =>
    obtain ⟨j, v⟩ := e
    by_cases hj : j = k
    · subst hj; simp [mfind]
    · simp [mfind, hj, ih]

theorem mget_filter {α : Type} (d : α) (keep : Nat → Bool) (m : SMap α) (k : Nat) :
    mget d (m.filter (fun e => keep e.1)) k = if keep k then mget d m k else d := by
  unfold mget
  rw [mfind_filter]
  split <;> rfl

theorem mget_map {α : Type} (d : α) (f : Nat → α → α) (m : SMap α) (k : Nat) (h : f k d = d) :
    mget d (m.map (fun e => (e.1, f e.1 e.2))) k = f k (mget d m k) := by
  unfold mget
  rw [mfind_map]
  cases mfind k m <;> simp [h]

/-! ### Lists by place -/

theorem nth_append (d : α) (xs ys : List α) (i : Nat) : nth d (xs ++ ys) i = if i < xs.length then nth d xs i else nth d ys (i - xs.length) := by
  simp only [nth_eq_getElem?, List.getElem?_append]
  split <;> rfl

theorem nth_map_upFrom (d : α) (f : Nat → α) (a n i : Nat) : nth d ((upFrom a n).map f) i = if i < n then f (a + i) else d := by
  rw [nth_eq_getElem?, List.getElem?_map, getElem?_upFrom]
  split <;> rfl

theorem nth_take (d : α) (xs : List α) (n i : Nat) : nth d (xs.take n) i = if i < n then nth d xs i else d := by
  simp only [nth_eq_getElem?, List.getElem?_take]
  split <;> rfl

theorem nth_drop (d : α) (xs : List α) (n i : Nat) : nth d (xs.drop n) i = nth d xs (n + i) := by
  simp only [nth_eq_getElem?, List.getElem?_drop]

theorem length_upFrom (a n : Nat) : (upFrom a n).length = n := by
  induction n generalizing a with
  | zero => rfl
  | succ n ih => simp [upFrom, ih]

@[simp] theorem length_readBytes (m : Memory) (a n : Nat) : (readBytes m a n).length = n := by simp [readBytes, length_upFrom]

theorem nth_readBytes (m : Memory) (a n i : Nat) : nth 0 (readBytes m a n) i = if i < n then readByte m (a + i) else 0 := nth_map_upFrom ..

/-- Two lists of a length that agree at every place. -/
theorem eq_of_nth {xs ys : List α} (d : α) (hl : xs.length = ys.length) (h : ∀ i, i < xs.length → nth d xs i = nth d ys i) : xs = ys := by
  refine List.ext_getElem hl (fun i h1 h2 => ?_)
  have := h i h1
  simpa [nth_eq_getElem?, List.getElem?_eq_getElem h1, List.getElem?_eq_getElem h2] using this

theorem readByte_writeBytes (m : Memory) (a : Nat) (bs : List Byte) (j : Nat) :
    readByte (writeBytes m a bs) j = if a ≤ j ∧ j < a + bs.length then nth 0 bs (j - a) else readByte m j := by
  by_cases h : a ≤ j ∧ j < a + bs.length
  · have hi : j - a < bs.length := by omega
    have e := readByte_writeBytes_inside bs m a (j - a) hi
    rw [show a + (j - a) = j by omega] at e
    rw [if_pos h, e, nth_eq_getElem?, List.getElem?_eq_getElem hi, Option.getD_some]
  · rw [if_neg h, readByte_writeBytes_outside bs m a j (by omega)]

/-! ### Pieces -/

/-- A range within one line is one piece. -/
theorem linePieces_within {a n : Nat} (h0 : n ≠ 0) (h : a % 64 + n ≤ 64) : linePieces a n = [(a, n)] := by
  have h1 : (a + n - 1) / 64 - a / 64 = 0 := by omega
  have h2 : max a (64 * (a / 64)) = a := by omega
  have h3 : min (a + n) (64 * (a / 64) + 64) - a = n := by omega
  simp [linePieces, h0, h1, upFrom, h2, h3]

/-- A range within one page is one piece. -/
theorem pagePieces_within {a n : Nat} (h0 : n ≠ 0) (h : a % 65536 + n ≤ 65536) : pagePieces a n = [(a, n)] := by
  have h1 : (a + n - 1) / 65536 - a / 65536 = 0 := by omega
  have h2 : max a (65536 * (a / 65536)) = a := by omega
  have h3 : min (a + n) (65536 * (a / 65536) + 65536) - a = n := by omega
  simp [pagePieces, h0, h1, upFrom, h2, h3]

/-! ### Places -/

theorem hbmHalf_mod (h : Health) (d : Nat) : hbmHalf h d % 128 = 0 := by
  unfold hbmHalf
  omega

/-- Addresses of one half kilobit lie side by side: no boundary of R108 and R109 lies between them. -/
theorem physicalOf_near {h : Health} {p : Partition} {a b x : Nat} (ha : physicalOf h p a = some x) (hab : a / 128 = b / 128) :
    x % 128 = a % 128 ∧ physicalOf h p b = some (x / 128 * 128 + b % 128) := by
  have hbit (i : Nat) (hi : 7 ≤ i) : bit b i = bit a i := by
    obtain ⟨j, rfl⟩ := Nat.exists_eq_add_of_le hi
    simp only [bit, Nat.testBit_eq_decide_div_mod_eq, Nat.pow_add, ← Nat.div_div_eq_div_mul, Nat.reducePow, hab]
  have hfield : field b 39 36 = field a 39 36 := by unfold field; omega
  have hend : (2 ^ 42 ≤ b) = (2 ^ 42 ≤ a) := by apply propext; omega
  have hhalf := hbmHalf_mod h
  unfold physicalOf at ha ⊢
  simp only [hend, hbit 40 (by omega), hbit 41 (by omega), hfield]
  split at ha
  · exact absurd ha (by simp)
  · next h1 =>
    rw [if_neg h1]
    split at ha
    · exact absurd ha (by simp)
    · next d _ =>
      have hd := hhalf d
      have hc : 2 * d + b % 2 ^ 36 / 2 ^ 35 = 2 * d + a % 2 ^ 36 / 2 ^ 35 := by omega
      have hlt : (b % 2 ^ 36 < hbmHalf h d) = (a % 2 ^ 36 < hbmHalf h d) := by apply propext; omega
      simp only [hc, hlt]
      dsimp only at ha
      split at ha
      · next h41 =>
        rw [if_pos h41]
        split at ha
        · exact absurd ha (by simp)
        · next hdead =>
          rw [if_neg hdead]
          simp only [Option.some.injEq] at ha ⊢
          omega
      · next h41 =>
        rw [if_neg h41]
        split at ha
        · next hin =>
          rw [if_pos hin]
          simp only [Option.some.injEq] at ha ⊢
          by_cases heven : d % 2 = 0
          · rw [if_pos heven] at ha ⊢; omega
          · rw [if_neg heven] at ha ⊢; omega
        · exact absurd ha (by simp)

/-! ### A piece stored into its line -/

theorem nth_mixBytes (ks : List Bool) : ∀ (ns os : List Byte) (i : Nat), ns.length = ks.length → os.length = ks.length →
    nth 0 (mixBytes ks ns os) i = if nth false ks i then nth 0 ns i else nth 0 os i := by
  induction ks with
  | nil =>
    intro ns os i h1 h2
    rw [List.length_nil, List.length_eq_zero_iff] at h1 h2
    subst h1 h2
    simp [mixBytes, nth]
  | cons k ks ih =>
    intro ns os i h1 h2
    obtain ⟨n, ns, rfl⟩ := List.exists_cons_of_length_eq_add_one h1
    obtain ⟨o, os, rfl⟩ := List.exists_cons_of_length_eq_add_one h2
    cases i with
    | zero => rfl
    | succ i => exact ih ns os i (by simpa using h1) (by simpa using h2)

theorem length_mixBytes (ks : List Bool) : ∀ ns os : List Byte, ns.length = ks.length → os.length = ks.length →
    (mixBytes ks ns os).length = ks.length := by
  induction ks with
  | nil => intros; rfl
  | cons k ks ih =>
    intro ns os h1 h2
    obtain ⟨n, ns, rfl⟩ := List.exists_cons_of_length_eq_add_one h1
    obtain ⟨o, os, rfl⟩ := List.exists_cons_of_length_eq_add_one h2
    simpa [mixBytes] using ih ns os (by simpa using h1) (by simpa using h2)

theorem length_pieceMask (a n : Nat) : (pieceMask a n).length = 64 := by simp [pieceMask, length_upFrom]

theorem nth_pieceMask (a n i : Nat) :
    nth false (pieceMask a n) i = (decide (i < 64) && (decide (a % 64 ≤ i) && decide (i < a % 64 + n))) := by
  rw [pieceMask, nth_map_upFrom, Nat.zero_add]
  split <;> simp_all

theorem length_padLine {a : Nat} {bs : List Byte} (h : a % 64 + bs.length ≤ 64) : (padLine a bs).length = 64 := by
  simp only [padLine, List.length_append, List.length_replicate]
  omega

theorem nth_padLine {a i : Nat} {bs : List Byte} (h : a % 64 ≤ i ∧ i < a % 64 + bs.length) : nth 0 (padLine a bs) i = nth 0 bs (i - a % 64) := by
  rw [padLine, nth_append, nth_append, if_pos, if_neg, List.length_replicate]
  · rw [List.length_replicate]; omega
  · rw [List.length_append, List.length_replicate]; omega

/-- A plain piece stored into its line: its own bytes are written and no other byte of the memory. -/
theorem readByte_storePiece (s : State) {l : Leaf} (va a : Nat) {n : Nat} {bs : List Byte} (poison : Bool) (glaze : Option Nat) (hk : l.key = 0)
    (hn : bs.length = n) (hl : a % 64 + n ≤ 64) (i : Nat) :
    readByte (s.storeLine l va (pieceMask a n) (padLine a bs) poison glaze).memory i
      = if l.phys / 64 * 64 + a % 64 ≤ i ∧ i < l.phys / 64 * 64 + a % 64 + n then nth 0 bs (i - (l.phys / 64 * 64 + a % 64))
        else readByte s.memory i := by
  subst hn
  have hp := length_padLine hl
  have hm := length_pieceMask a bs.length
  have hr : (s.rawLine (l.phys / 64)).length = 64 := length_readBytes ..
  simp only [State.storeLine, hk, decide_true, Bool.or_true, if_true]
  rw [readByte_writeBytes, length_mixBytes _ _ _ (hp.trans hm.symm) (hr.trans hm.symm), hm,
    nth_mixBytes _ _ _ _ (hp.trans hm.symm) (hr.trans hm.symm), nth_pieceMask]
  by_cases hin : l.phys / 64 * 64 + a % 64 ≤ i ∧ i < l.phys / 64 * 64 + a % 64 + bs.length
  · rw [if_pos hin, if_pos (by omega), if_pos (by simp; omega), nth_padLine (by omega)]
    congr 1
    omega
  · rw [if_neg hin]
    split
    · next hout =>
      rw [if_neg (by simp; omega), State.rawLine, nth_readBytes, if_pos (by omega)]
      congr 1
      omega
    · rfl

end Sys2Proof.Machine
end

section
/-! PROOF. The requests that make, destroy, configure and load a partition and fill its key slots (O52). -/

namespace Sys2Proof.Machine

open Host (Outcome)

section
variable {s : State} {p : Nat} {body : List Byte}

/-! ### What an execution has left, as the step leaves it -/

theorem onRequest_part (s : State) (n : Nat) : (onRequest s).part n = (Claims.received s).part n := rfl

theorem afterRequest_part (s v : State) (n : Nat) : (afterRequest s v).part n = v.part n := rfl

theorem afterRequest_setPart (s : State) (n : Nat) (x : Partition) :
    afterRequest s ((onRequest s).setPart n x) = (Claims.received s).setPart n x := by
  have h := congrArg (fun u : State => u.setPart n x) (afterRequest_onRequest s)
  exact h

theorem afterRequest_keys (s : State) (k : SMap (BitVec 512)) :
    afterRequest s { onRequest s with keys := k } = { Claims.received s with keys := k } := by
  have h := congrArg (fun u : State => { u with keys := k }) (afterRequest_onRequest s)
  exact h

/-- A partition replaced, and nothing else. -/
theorem onPart_setPart (s : State) (p : Nat) (x : Partition) : Claims.OnPart s (s.setPart p x) p x :=
  ⟨State.part_setPart_same .., fun _ hn => State.part_setPart_other _ hn _, rfl⟩

/-- A request whose execution replaces its partition. -/
theorem answered_setPart {name : String} {due : Message → Bool} {ty : Nat} {x : Partition} (h : Claims.Asks s ty p body)
    (hd : due s.control.arrived = true) (ha : allows s ty p = true)
    (hv : handle s.control.arrived (onRequest s) = (some (.ok, []), (onRequest s).setPart p x)) :
    ∃ t, arriveRequest name due s = .next t ∧ Claims.Answered s t 0 []
      ∧ Claims.OnPart (Claims.received s) { t with control := (Claims.received s).control } p x := by
  obtain ⟨t, h1, h2, h3⟩ := answered_of_handle (name := name) h hd ha hv rfl (onRequest_awaited s) rfl
  refine ⟨t, h1, h2, ?_⟩
  rw [h3, afterRequest_setPart]
  exact onPart_setPart ..

/-- A request whose execution replaces the key slots. -/
theorem answered_keys {name : String} {due : Message → Bool} {ty : Nat} {k : SMap (BitVec 512)} (h : Claims.Asks s ty p body)
    (hd : due s.control.arrived = true) (ha : allows s ty p = true)
    (hv : handle s.control.arrived (onRequest s) = (some (.ok, []), { onRequest s with keys := k })) :
    ∃ t, arriveRequest name due s = .next t ∧ Claims.Answered s t 0 []
      ∧ { t with control := (Claims.received s).control } = { Claims.received s with keys := k } := by
  obtain ⟨t, h1, h2, h3⟩ := answered_of_handle (name := name) h hd ha hv rfl (onRequest_awaited s) rfl
  exact ⟨t, h1, h2, h3.trans (afterRequest_keys s k)⟩

theorem received_keys (s : State) : (Claims.received s).keys = s.keys :=
  (congrArg State.keys (received_rest s) :)

theorem received_parts_state (s : State) (n : Nat) : ((Claims.received s).part n).state = (s.part n).state := by
  obtain ⟨i, hi⟩ := received_part s n
  rw [hi]

/-! ### PART_CREATE -/

/-- PART_CREATE makes a partition of free dies and key slots. -/
theorem partCreate_answered {mask flags base count window : Nat} (hp : p < 16) (hm : mask < 2 ^ 16) (hf : flags < 2) (hb : base < 2 ^ 16)
    (hc : count < 2 ^ 16) (hw : window < 2 ^ 55)
    (h : Claims.Asks s 0x10 p
      (toBytes 2 mask ++ toBytes 1 flags ++ toBytes 1 0 ++ toBytes 2 base ++ toBytes 2 count ++ toBytes 8 window))
    (hfree : (s.part p).state = .free) (h0 : mask ≠ 0) (hx : flags = 0 → window = 0)
    (hown : ∀ d, d < 16 → mask.testBit d = true →
      dieAvailable s.health d = true ∧ (Claims.received s).ownedByOther p d = false)
    (hap : ∀ x ∈ apartPairs s.health, (mask.testBit x.1 && mask.testBit x.2) = false)
    (hk : (Claims.received s).badKeys p base count = false) (hnk : s.health.noKeys = false) :
    ∃ t, exec .partCreate s = .next t ∧ Claims.Answered s t 0 []
      ∧ Claims.OnPart (Claims.received s) { t with control := (Claims.received s).control } p
          { state := .created, dies := BitVec.ofNat 16 mask, sealed_ := flags == 1, xwin := BitVec.ofNat 64 window, keyBase := base
            keyCount := count } := by
  obtain ⟨-, -, hty, hpart, -, -, hpay, hlen, -⟩ := id h
  refine answered_setPart (due := fun m => m.type == 0x10) h (by simp [hty]) (by simp [allows, scopeOf, Scope.takes, allowedIn, hp, hfree]) ?_
  have fields : le s.control.arrived.payload 0 2 = mask ∧ le s.control.arrived.payload 2 1 = flags
      ∧ dirty s.control.arrived.payload 3 1 = false ∧ le s.control.arrived.payload 4 2 = base
      ∧ le s.control.arrived.payload 6 2 = count ∧ le s.control.arrived.payload 8 8 = window ∧ s.control.arrived.len = 16 := by
    rw [hlen, hpay]
    simp [length_toBytes]
    omega
  obtain ⟨fmask, fflags, fpad, fbase, fcount, fwin, flen⟩ := fields
  have hseal : bit flags 0 = (flags == 1) := by
    rcases (by omega : flags = 0 ∨ flags = 1) with rfl | rfl <;> rfl
  have hwin : (!(flags == 1) && window != 0) = false := by
    rcases (by omega : flags = 0 ∨ flags = 1) with rfl | rfl
    · simp [hx rfl]
    · rfl
  have hhealth : (onRequest s).health = s.health := received_health s
  have hdies : (((upFrom 0 16).filter (fun d => mask.testBit d)).any
      (fun d => !dieAvailable s.health d || (onRequest s).ownedByOther p d)) = false := by
    rw [List.any_eq_false]
    intro d hd
    rw [List.mem_filter, mem_upFrom] at hd
    obtain ⟨h1, h2⟩ := hown d (by omega) hd.2
    have h3 : (onRequest s).ownedByOther p d = false := h2
    simp [h1, h3]
  have hapart : ((apartPairs s.health).any (fun x => mask.testBit x.1 && mask.testBit x.2)) = false :=
    List.any_eq_false.2 (fun x hx => by simp only [hap x hx, Bool.false_eq_true, not_false_iff])
  have hbad : (onRequest s).badKeys p base count = false := hk
  have hnz : (mask == 0) = false := by simpa using h0
  simp only [handle, hty, hpart, partCreateReply, fmask, fflags, fpad, fbase, fcount, fwin, flen, hseal]
  rw [guarded_pass]
  · rfl
  · simp only [List.forall_mem_cons, List.not_mem_nil, false_imp_iff, implies_true, and_true, hhealth, hwin, hdies, hapart, hbad, hnk, hnz,
      bne_self_eq_false, Bool.or_false, Bool.false_or, Bool.false_and, Bool.or_eq_false_iff, decide_eq_false_iff_not]
    omega

/-! ### PART_DESTROY -/

/-- Zeroing dies: what each memory reads as afterwards. -/
theorem zeroDies_tile (s : State) (dies : BitVec 16) (n : Nat) :
    (s.zeroDies dies).tile n = if dies.getLsbD (n / 64) then ({} : Tile) else s.tile n := by
  have h := mget_filter ({} : Tile) (fun n => !dies.getLsbD (dieOf n)) s.tiles n
  show mget ({} : Tile) _ n = _
  rw [State.zeroDies, h]
  cases hb : dies.getLsbD (dieOf n) <;> simp_all [State.tile, dieOf]

theorem zeroDies_die (s : State) (dies : BitVec 16) (d : Nat) :
    (s.zeroDies dies).die d
      = if dies.getLsbD d then { s.die d with kiln := [], badWords := [], cache := [], shadow := [] } else s.die d := by
  refine mget_map ({} : Die) (fun d x => if dies.getLsbD d then { x with kiln := [], badWords := [], cache := [], shadow := [] } else x)
    s.dies d ?_
  split <;> rfl

theorem zeroDies_memory (s : State) (dies : BitVec 16) (a : Nat) :
    readByte (s.zeroDies dies).memory a = if dies.getLsbD (ownerDie s.health (a / 64 * 64)) then 0 else readByte s.memory a := by
  have h := mget_filter (0 : Byte) (fun a => !ownedLine s.health dies (a / 64)) s.memory a
  show mget 0 _ a = _
  rw [State.zeroDies, h, ownedLine, Nat.mul_comm 64]
  cases dies.getLsbD (ownerDie s.health (a / 64 * 64)) <;> simp [readByte]

theorem mfind_emptySlots (keys : SMap (BitVec 512)) (p : Partition) (k : Nat) :
    mfind k (emptySlots keys p.keyBase p.keyCount) = if p.ownsSlot k then none else mfind k keys := by
  rw [emptySlots, mfind_filter (fun k => !(decide (p.keyBase ≤ k) && decide (k < p.keyBase + p.keyCount))), Partition.ownsSlot]
  cases (decide (p.keyBase ≤ k) && decide (k < p.keyBase + p.keyCount)) <;> simp

/-- A partition's dies zeroed and its key slots emptied, as PART_DESTROY leaves them. -/
def State.destroyed (s : State) (n : Nat) : State :=
  let p := s.part n
  let s1 := s.zeroDies p.dies
  ({ s1 with
      keys := emptySlots s1.keys p.keyBase p.keyCount, causes := s1.causes.filter (fun c => c.part != n)
      answers := s1.answers.filter (fun x => x.flit.part != n), awaited := s1.awaited.filter (fun q => q.part != n) } : State).setPart n {}

/-- Releasing the domain number touches nothing else. -/
theorem releaseDomain_rest (s : State) : { s.releaseDomain with domain := s.domain } = s := by
  unfold State.releaseDomain
  split <;> rfl

theorem partDestroy_answered (hp : p < 16) (h : Claims.Asks s 0x11 p []) (hst : (s.part p).state ≠ .free) :
    ∃ t, exec .partDestroy s = .next t ∧ Claims.Answered s t 0 [] ∧ t.part p = {} ∧ (∀ q, q ≠ p → t.part q = s.part q)
      ∧ (∀ n, t.tile n = if (s.part p).dies.getLsbD (n / 64) then {} else s.tile n)
      ∧ (∀ d, (s.part p).dies.getLsbD d = true → (t.die d).kiln = [] ∧ (t.die d).shadow = [])
      ∧ (∀ d, (s.part p).dies.getLsbD d = false → t.die d = s.die d)
      ∧ (∀ a, readByte t.memory a = if (s.part p).dies.getLsbD (ownerDie s.health (a / 64 * 64)) then 0 else readByte s.memory a)
      ∧ (∀ k, mfind k t.keys = if (s.part p).ownsSlot k then none else mfind k s.keys) := by
  obtain ⟨-, -, hty, hpart, -, -, -, hlen, -⟩ := id h
  have hv : handle s.control.arrived (onRequest s) = (some (.ok, []), ((onRequest s).destroyed p).releaseDomain) := by
    simp only [handle, hty, hpart, partDestroyReply, hlen]
    exact guarded_pass (by simp)
  have hrest := releaseDomain_rest ((onRequest s).destroyed p)
  generalize ((onRequest s).destroyed p).releaseDomain = v at hv hrest
  have hal : allows s 0x11 p = true := by simpa [allows, scopeOf, Scope.takes, allowedIn, hp] using .inr hst
  have hkeep : ∀ q ∈ v.awaited, q.asker ≠ .request s.control.arrived.header := by
    intro q hq
    rw [(congrArg State.awaited hrest :)] at hq
    exact asks_awaited h (onRequest_awaited s ▸ (List.mem_filter.1 hq).1)
  obtain ⟨t, h1, h2, h3⟩ := answered_of_asks (name := "PART_DESTROY") (due := fun m => m.type == 0x11) h (by simp [hty]) hal hv
    ((congrArg State.want hrest :)) hkeep ((congrArg State.control hrest :))
  have hparts : t.parts = ((onRequest s).destroyed p).parts := ((congrArg State.parts h3 :)).trans (congrArg State.parts hrest :)
  have htiles : t.tiles = ((onRequest s).destroyed p).tiles := ((congrArg State.tiles h3 :)).trans (congrArg State.tiles hrest :)
  have hdies : t.dies = ((onRequest s).destroyed p).dies := ((congrArg State.dies h3 :)).trans (congrArg State.dies hrest :)
  have hmem : t.memory = ((onRequest s).destroyed p).memory := ((congrArg State.memory h3 :)).trans (congrArg State.memory hrest :)
  have hkeys : t.keys = ((onRequest s).destroyed p).keys := ((congrArg State.keys h3 :)).trans (congrArg State.keys hrest :)
  have hp' : ((onRequest s).part p).dies = (s.part p).dies ∧ ∀ k, ((onRequest s).part p).ownsSlot k = (s.part p).ownsSlot k := by
    obtain ⟨i, hi⟩ := received_part s p
    rw [onRequest_part, hi]
    exact ⟨rfl, fun _ => rfl⟩
  have hh : (onRequest s).health = s.health := received_health s
  have hrec := received_rest s
  have part_eq (q : Nat) : t.part q = ((onRequest s).destroyed p).part q := (congrArg (fun m => mget ({} : Partition) m q) hparts :)
  have die_eq (d : Nat) : t.die d = ((onRequest s).zeroDies ((onRequest s).part p).dies).die d :=
    (congrArg (fun m => mget ({} : Die) m d) hdies :)
  have own_die (d : Nat) : (onRequest s).die d = s.die d := (congrArg (fun u : State => u.die d) hrec :)
  have tile_eq (n : Nat) : t.tile n = ((onRequest s).zeroDies ((onRequest s).part p).dies).tile n :=
    (congrArg (fun m => mget ({} : Tile) m n) htiles :)
  have own_tile (n : Nat) : (onRequest s).tile n = s.tile n := (congrArg (fun u : State => u.tile n) hrec :)
  have own_memory : (onRequest s).memory = s.memory := (congrArg State.memory hrec :)
  have mem_eq : t.memory = ((onRequest s).zeroDies ((onRequest s).part p).dies).memory := hmem
  have keys_eq : t.keys = emptySlots (onRequest s).keys ((onRequest s).part p).keyBase ((onRequest s).part p).keyCount := hkeys
  have own_keys : (onRequest s).keys = s.keys := received_keys s
  refine ⟨t, h1, h2, ?_, fun q hq => ?_, fun n => ?_, fun d hd => ?_, fun d hd => ?_, fun a => ?_, fun k => ?_⟩
  · rw [part_eq]
    exact State.part_setPart_same ..
  · rw [part_eq, State.destroyed, State.part_setPart_other _ hq]
    show mget ({} : Partition) (Claims.received s).parts q = s.part q
    exact received_part_other s (by rwa [hpart])
  · rw [tile_eq, zeroDies_tile, hp'.1, own_tile]
  · rw [die_eq, zeroDies_die, hp'.1, hd]
    exact ⟨rfl, rfl⟩
  · rw [die_eq, zeroDies_die, hp'.1, hd, own_die]
    rfl
  · rw [mem_eq, zeroDies_memory, hp'.1, hh, own_memory]
  · rw [keys_eq, mfind_emptySlots, hp'.2, own_keys]

/-! ### KEY_INSTALL and KEY_CLEAR -/

theorem received_ownsSlot (s : State) (n k : Nat) : ((Claims.received s).part n).ownsSlot k = (s.part n).ownsSlot k := by
  obtain ⟨i, hi⟩ := received_part s n
  rw [hi]
  rfl

section
variable {k : Nat}

/-- KEY_INSTALL unwraps a key into an empty slot of the partition's range, or finds that it does not hold. -/
theorem keyInstall_answered {wrapped : List Byte} (hp : p < 16) (hk : k < 2 ^ 16) (hl : wrapped.length = 512)
    (h : Claims.Asks s 0x13 p (toBytes 2 k ++ toBytes 6 0 ++ wrapped)) (hst : (s.part p).state ≠ .free)
    (hown : (s.part p).ownsSlot k = true) (hnone : mfind k s.keys = none) (hnk : s.health.noKeys = false) :
    (∀ key, Config.unwrap wrapped = some key →
      ∃ t, exec .keyInstall s = .next t ∧ Claims.Answered s t 0 []
        ∧ (∀ j, mfind j t.keys = if j = k then some key else mfind j s.keys)
        ∧ { t with control := (Claims.received s).control, keys := (Claims.received s).keys } = Claims.received s)
    ∧ (Config.unwrap wrapped = none → ∃ t, exec .keyInstall s = .next t ∧ Claims.OnlyAnswered s t 9 []) := by
  obtain ⟨-, -, hty, hpart, -, -, hpay, hlen, -⟩ := id h
  have fields : le s.control.arrived.payload 0 2 = k ∧ dirty s.control.arrived.payload 2 6 = false
      ∧ s.control.arrived.payload.drop 8 = wrapped ∧ s.control.arrived.len = 520 := by
    rw [hlen, hpay, List.drop_left' (by simp [length_toBytes])]
    simp [length_toBytes, hl]
    omega
  obtain ⟨fslot, fpad, fkey, flen⟩ := fields
  have hal : allows s 0x13 p = true := by simpa [allows, scopeOf, Scope.takes, allowedIn, hp] using .inr hst
  have hslot : ((onRequest s).part p).ownsSlot k = true := (received_ownsSlot s p k).trans hown
  have hkeys : (onRequest s).keys = s.keys := received_keys s
  have hhealth : (onRequest s).health = s.health := received_health s
  have hv : handle s.control.arrived (onRequest s) = match Config.unwrap wrapped with
      | some key => done { onRequest s with keys := mput k key (onRequest s).keys }
      | none => deny .auth (onRequest s) := by
    simp only [handle, hty, hpart, keyInstallReply, fslot, fpad, fkey, flen]
    exact guarded_pass (by simp [hslot, hkeys, hnone, hhealth, hnk])
  refine ⟨fun key e => ?_, fun e => ?_⟩
  · rw [e] at hv
    obtain ⟨t, h1, h2, h3⟩ := answered_keys (name := "KEY_INSTALL") (due := fun m => m.type == 0x13) h (by simp [hty]) hal hv
    refine ⟨t, h1, h2, fun j => ?_, (congrArg (fun u : State => { u with keys := (Claims.received s).keys }) h3 :)⟩
    rw [(congrArg State.keys h3 : t.keys = mput k key (onRequest s).keys), mfind_mput, hkeys]
  · rw [e] at hv
    exact onlyAnswered_of_handle (name := "KEY_INSTALL") (due := fun m => m.type == 0x13) h (by simp [hty]) hal hv

/-- KEY_CLEAR empties a slot of the partition's range. -/
theorem keyClear_answered (hp : p < 16) (hk : k < 2 ^ 16) (h : Claims.Asks s 0x14 p (toBytes 2 k ++ toBytes 6 0))
    (hst : (s.part p).state ≠ .free) (hown : (s.part p).ownsSlot k = true) :
    ∃ t, exec .keyClear s = .next t ∧ Claims.Answered s t 0 [] ∧ (∀ j, mfind j t.keys = if j = k then none else mfind j s.keys)
      ∧ { t with control := (Claims.received s).control, keys := (Claims.received s).keys } = Claims.received s := by
  obtain ⟨-, -, hty, hpart, -, -, hpay, hlen, -⟩ := id h
  have fields : le s.control.arrived.payload 0 2 = k ∧ dirty s.control.arrived.payload 2 6 = false ∧ s.control.arrived.len = 8 := by
    rw [hlen, hpay]
    simp [length_toBytes]
    omega
  obtain ⟨fslot, fpad, flen⟩ := fields
  have hal : allows s 0x14 p = true := by simpa [allows, scopeOf, Scope.takes, allowedIn, hp] using .inr hst
  have hslot : ((onRequest s).part p).ownsSlot k = true := (received_ownsSlot s p k).trans hown
  have hv : handle s.control.arrived (onRequest s) = (some (.ok, []), { onRequest s with keys := mdel k (onRequest s).keys }) := by
    simp only [handle, hty, hpart, keyClearReply, fslot, fpad, flen]
    exact guarded_pass (by simp [hslot])
  obtain ⟨t, h1, h2, h3⟩ := answered_keys (name := "KEY_CLEAR") (due := fun m => m.type == 0x14) h (by simp [hty]) hal hv
  refine ⟨t, h1, h2, fun j => ?_, (congrArg (fun u : State => { u with keys := (Claims.received s).keys }) h3 :)⟩
  have hkeys : (onRequest s).keys = s.keys := received_keys s
  rw [(congrArg State.keys h3 : t.keys = mdel k (onRequest s).keys), mfind_mdel, hkeys]

end

/-! ### PART_CONFIG -/

theorem fitSections_all {xs : List ConfigSection} : ∀ {room : Nat}, (xs.flatMap ConfigSection.bytes).length ≤ room → fitSections room xs = xs := by
  induction xs with
  | nil => intro _ _; rfl
  | cons x xs ih =>
    intro room h
    rw [List.flatMap_cons, List.length_append] at h
    rw [fitSections, if_pos (by omega), ih (by omega)]

theorem received_configs (s : State) (n : Nat) :
    ((Claims.received s).part n).staged = (s.part n).staged ∧ ((Claims.received s).part n).config = (s.part n).config := by
  obtain ⟨i, hi⟩ := received_part s n
  rw [hi]
  exact ⟨rfl, rfl⟩

/-- OP 0 returns every section of the configuration written last, when all fit. -/
theorem partConfigRead_answered (hp : p < 16) (h : Claims.Asks s 0x15 p (toBytes 8 0)) (hst : (s.part p).state ≠ .free)
    (hfit : (((s.part p).staged.getD (s.part p).config).sections.flatMap ConfigSection.bytes).length ≤ 8952) :
    ∃ t, exec .partConfigRead s = .next t
      ∧ Claims.OnlyAnswered s t 0
          (toBytes 2 0 ++ toBytes 2 ((s.part p).staged.getD (s.part p).config).sections.length ++ toBytes 4 0xFFFFFFFF
            ++ ((s.part p).staged.getD (s.part p).config).sections.flatMap ConfigSection.bytes) := by
  obtain ⟨-, -, hty, hpart, -, -, hpay, hlen, -⟩ := id h
  have fields : le s.control.arrived.payload 0 1 = 0 ∧ le s.control.arrived.payload 4 4 = 0 ∧ dirty s.control.arrived.payload 1 1 = false
      ∧ s.control.arrived.payload.isEmpty = false ∧ s.control.arrived.len = 8 := by
    rw [hlen, hpay]
    simp [length_toBytes]
    decide
  obtain ⟨fop, fcursor, fpad, ffull, flen⟩ := fields
  have hal : allows s 0x15 p = true := by simpa [allows, scopeOf, Scope.takes, allowedIn, hp] using .inr hst
  have hcfg : ((onRequest s).part p).staged.getD ((onRequest s).part p).config = (s.part p).staged.getD (s.part p).config := by
    rw [onRequest_part, (received_configs s p).1, (received_configs s p).2]
  have hv : handle s.control.arrived (onRequest s)
      = (some (.ok, toBytes 2 0 ++ toBytes 2 ((s.part p).staged.getD (s.part p).config).sections.length ++ toBytes 4 0xFFFFFFFF
            ++ ((s.part p).staged.getD (s.part p).config).sections.flatMap ConfigSection.bytes), onRequest s) := by
    simp only [handle, hty, hpart, partConfigReply, fop, ffull, Bool.false_eq_true, if_false, configRead, fcursor, fpad, flen, hcfg,
      List.drop_zero, fitSections_all hfit, Nat.zero_add, Nat.le_refl, if_true]
    exact guarded_pass (by simp)
  exact onlyAnswered_of_handle (name := "PART_CONFIG_READ") (due := fun m => m.type == 0x15 && configOp m != 1 && configOp m != 2) h
    (by simp [hty, configOp, fop]) hal hv

/-- A section alone is read as it was written. -/
theorem parseSections_one {kind : Nat} {bs : List Byte} (hk : kind < 256) (hl : bs.length < 65536) :
    parseSections 1 (Claims.sectionBytes kind bs) = some [{ kind := kind, body := bs }] := by
  have zero : ([0] : List Byte) = toBytes 1 0 := rfl
  have head : (toBytes 1 kind ++ toBytes 1 0 ++ toBytes 2 bs.length ++ toBytes 4 0).length = 8 := by simp [length_toBytes]
  have fields : le (Claims.sectionBytes kind bs) 2 2 = bs.length ∧ dirty (Claims.sectionBytes kind bs) 1 1 = false
      ∧ dirty (Claims.sectionBytes kind bs) 4 4 = false ∧ le (Claims.sectionBytes kind bs) 0 1 = kind
      ∧ (Claims.sectionBytes kind bs).drop 8 = bs ∧ (Claims.sectionBytes kind bs).length = 8 + bs.length := by
    unfold Claims.sectionBytes
    rw [zero, List.drop_left' head]
    simp [length_toBytes]
    omega
  obtain ⟨flen, fpad, fpad', fkind, fbody, fall⟩ := fields
  have hrest : (Claims.sectionBytes kind bs).drop (8 + bs.length) = [] := List.drop_eq_nil_of_le (by omega)
  simp only [parseSections, flen, fpad, fpad', fkind, fbody, fall, hrest, Nat.lt_irrefl, Bool.false_eq_true, or_self, if_false, List.take_length,
    List.isEmpty_nil, if_true, Option.map_some]

/-- A write of one section that is legal after the base it is added to stands as the configuration to come. -/
theorem configWrite_one {base c : PartConfig} {op kind : Nat} {bs : List Byte} (hk : kind < 256)
    (hl : bs.length < 65536)
    (h : Claims.Asks s 0x15 p (toBytes 1 op ++ toBytes 1 0 ++ toBytes 2 1 ++ toBytes 4 0 ++ Claims.sectionBytes kind bs))
    (hst : (s.part p).state = .created ∨ (s.part p).state = .stopped) (hadd : addSection base { kind := kind, body := bs } = some c)
    (hlegal : c.legal = true) (hself : (Claims.received s).selfAgrees p c = true) :
    configWrite s.control.arrived base (onRequest s)
      = (some (.ok, []), (onRequest s).setPart p { (Claims.received s).part p with staged := some c }) := by
  obtain ⟨-, -, hty, hpart, -, -, hpay, hlen, -⟩ := id h
  have head : (toBytes 1 op ++ toBytes 1 0 ++ toBytes 2 1 ++ toBytes 4 0).length = 8 := by simp [length_toBytes]
  have fields : le s.control.arrived.payload 2 2 = 1 ∧ dirty s.control.arrived.payload 1 1 = false ∧ dirty s.control.arrived.payload 4 4 = false
      ∧ s.control.arrived.payload.drop 8 = Claims.sectionBytes kind bs ∧ ¬ s.control.arrived.len < 8 := by
    rw [hlen, hpay, List.drop_left' head]
    simp [length_toBytes]
    omega
  obtain ⟨fcount, fpad, fpad', frest, flen⟩ := fields
  have hstate : ¬ (((onRequest s).part p).state ≠ .created ∧ ((onRequest s).part p).state ≠ .stopped) := by
    rw [onRequest_part, received_parts_state]
    rcases hst with e | e <;> simp [e]
  have hself' : (onRequest s).selfAgrees p c = true := hself
  have hparse : (parseSections (le s.control.arrived.payload 2 2) (s.control.arrived.payload.drop 8)).bind (addSections base) = some c := by
    rw [fcount, frest, parseSections_one hk hl]
    simp [addSections, hadd]
  simp only [configWrite, hpart, hstate, fpad, fpad', flen, hparse, hlegal, hself', Bool.false_eq_true, or_self, if_false, Bool.and_self, if_true]
  rfl

theorem partConfigReplace_answered {d : Nat} (hp : p < 16) (hd : d < 256)
    (h : Claims.Asks s 0x15 p (toBytes 1 1 ++ toBytes 1 0 ++ toBytes 2 1 ++ toBytes 4 0 ++ Claims.sectionBytes 0 (toBytes 8 d)))
    (hst : (s.part p).state = .created ∨ (s.part p).state = .stopped) (hself : (Claims.received s).selfAgrees p { self := some d } = true) :
    ∃ t, exec .partConfigReplace s = .next t ∧ Claims.Answered s t 0 []
      ∧ Claims.OnPart (Claims.received s) { t with control := (Claims.received s).control } p
          { (Claims.received s).part p with staged := some { self := some d } } := by
  obtain ⟨-, -, hty, -, -, -, hpay, -⟩ := id h
  have fop : le s.control.arrived.payload 0 1 = 1 := by
    rw [hpay]
    simp [length_toBytes]
  have hadd : addSection {} { kind := 0, body := toBytes 8 d } = some { self := some d } := by
    have zeros : dirty (toBytes 8 d) 1 7 = false := by
      have split : toBytes 8 d = toBytes 1 d ++ toBytes 7 (d / 256) := rfl
      rw [split, Nat.div_eq_of_lt hd, dirty_right (by rw [length_toBytes]), dirty_zero]
    have first : le (toBytes 8 d) 0 1 = d := by
      have split : toBytes 8 d = toBytes 1 d ++ toBytes 7 (d / 256) := rfl
      rw [split, le_left (by rw [length_toBytes]), le_toBytes, Nat.pow_one, Nat.mod_eq_of_lt hd]
    simp [addSection, length_toBytes, zeros, first]
  have hal : allows s 0x15 p = true := by
    rcases hst with e | e <;> simp [allows, scopeOf, Scope.takes, allowedIn, hp, e]
  refine answered_setPart (name := "PART_CONFIG_REPLACE") (due := fun m => m.type == 0x15 && configOp m == 1) h (by simp [hty, configOp, fop]) hal ?_
  simp only [handle, hty, partConfigReply, fop]
  exact configWrite_one (by omega) (by rw [length_toBytes]; omega) h hst hadd (by simp [PartConfig.legal, distinct]) hself

theorem partConfigAppend_answered {d job : Nat} (hp : p < 16) (hd : d < 256) (hj : job < 4096)
    (h : Claims.Asks s 0x15 p (toBytes 1 2 ++ toBytes 1 0 ++ toBytes 2 1 ++ toBytes 4 0
        ++ Claims.sectionBytes 1 (toBytes 2 job ++ toBytes 2 1 ++ toBytes 4 0 ++ toBytes 1 d)))
    (hst : (s.part p).state = .created ∨ (s.part p).state = .stopped) (hstaged : (s.part p).staged = some { self := some d })
    (hself : (Claims.received s).selfAgrees p { self := some d } = true) :
    ∃ t, exec .partConfigAppend s = .next t ∧ Claims.Answered s t 0 []
      ∧ Claims.OnPart (Claims.received s) { t with control := (Claims.received s).control } p
          { (Claims.received s).part p with staged := some { self := some d, ranks := [(job, [d])] } } := by
  obtain ⟨-, -, hty, hpart, -, -, hpay, -⟩ := id h
  have fop : le s.control.arrived.payload 0 1 = 2 := by
    rw [hpay]
    simp [length_toBytes]
  have hlen : (toBytes 2 job ++ toBytes 2 1 ++ toBytes 4 0 ++ toBytes 1 d).length = 9 := by simp [length_toBytes]
  have hadd : addSection { self := some d } { kind := 1, body := toBytes 2 job ++ toBytes 2 1 ++ toBytes 4 0 ++ toBytes 1 d }
      = some { self := some d, ranks := [(job, [d])] } := by
    have head : (toBytes 2 job ++ toBytes 2 1 ++ toBytes 4 0).length = 8 := by simp [length_toBytes]
    have fields : le (toBytes 2 job ++ toBytes 2 1 ++ toBytes 4 0 ++ toBytes 1 d) 2 2 = 1
        ∧ le (toBytes 2 job ++ toBytes 2 1 ++ toBytes 4 0 ++ toBytes 1 d) 0 2 = job
        ∧ dirty (toBytes 2 job ++ toBytes 2 1 ++ toBytes 4 0 ++ toBytes 1 d) 4 4 = false
        ∧ ((toBytes 2 job ++ toBytes 2 1 ++ toBytes 4 0 ++ toBytes 1 d).drop 8).map BitVec.toNat = [d] := by
      have last : (toBytes 1 d).map BitVec.toNat = [d] := by simp [toBytes, Nat.mod_eq_of_lt hd]
      rw [List.drop_left' head, last]
      simp [length_toBytes]
      omega
    obtain ⟨f1, f2, f3, f4⟩ := fields
    simp only [addSection, f1, f2, f3, f4, hlen, hj]
    simp
  have hal : allows s 0x15 p = true := by
    rcases hst with e | e <;> simp [allows, scopeOf, Scope.takes, allowedIn, hp, e]
  have hbase : ((onRequest s).part p).staged.getD ((onRequest s).part p).config = { self := some d } := by
    rw [onRequest_part, (received_configs s p).1, hstaged]
    rfl
  refine answered_setPart (name := "PART_CONFIG_APPEND") (due := fun m => m.type == 0x15 && configOp m == 2) h (by simp [hty, configOp, fop]) hal ?_
  simp only [handle, hty, hpart, partConfigReply, fop, hbase]
  exact configWrite_one (by omega) (by omega) h hst hadd (by simp [PartConfig.legal, distinct]) hself

/-! ### MONITOR_LOAD -/

/-- A MONITOR_LOAD leaves the image begun in its partition. -/
theorem received_monitorLoad (hty : s.control.arrived.type = 0x12) (hpart : s.control.arrived.part = p) (hp : p < 16) :
    Claims.received s = { s with control := s.control.accept s.control.arrived } := by
  have hm : s.control.arrived.isModule = false := by
    simp only [Message.isModule, hpart, beq_eq_false_iff_ne]
    omega
  unfold Claims.received State.dropImages
  rw [hm, if_neg (by simp), if_pos (.inl hty)]

/-- What a legal head of a monitor says. -/
theorem monitorHead_legal {hl : Health} {q : Partition} {b : List Byte} (h : badMonitorHead hl q b = false) :
    le b 0 8 % 65536 = 0 ∧ 4 ≤ le b 28 4 ∧ unowned hl q (le b 0 8) (le b 28 4) = false := by
  simp only [badMonitorHead, Bool.or_eq_false_iff, decide_eq_false_iff_not] at h
  obtain ⟨⟨⟨⟨⟨⟨⟨⟨⟨⟨⟨⟨⟨⟨h1, -⟩, -⟩, -⟩, -⟩, -⟩, -⟩, h4⟩, -⟩, -⟩, -⟩, -⟩, -⟩, -⟩, hu⟩ := h
  simp only [badPhysical, Bool.or_eq_false_iff, bne_eq_false_iff_eq] at h1
  exact ⟨h1.1.1, by omega, hu⟩

/-- The first byte of an owned range is owned. -/
theorem physicalOf_of_owned {hl : Health} {q : Partition} {a n : Nat} (h0 : n ≠ 0) (ha : a % 65536 + n ≤ 65536) (h : unowned hl q a n = false) :
    ∃ x, physicalOf hl q a = some x := by
  simp only [unowned, pagePieces_within h0 ha, List.any_cons, List.any_nil, Bool.or_false, Bool.or_eq_false_iff] at h
  cases e : physicalOf hl q a with
  | none => simp [e] at h
  | some x => exact ⟨x, rfl⟩

/-- A plain leaf under which a partition physical address is written. -/
def physicalLeaf (s : State) (a x : Nat) : Leaf :=
  { ppa := a, phys := x, key := 0, grade := mget 0 s.grades (x / 64), shared := false, home := 0, foreign := false, entry := 0, entryAt := 0 }

theorem writePhysical_one {s : State} {q : Partition} {a n x : Nat} {bs : List Byte} (h : physicalOf s.health q a = some x) :
    s.writePhysical q [(a, n)] bs
      = s.storeLine (physicalLeaf s a x) 0 (pieceMask a n) (padLine a (bs.take n)) false none := by
  simp only [State.writePhysical, h]
  rfl

/-- The head of MONITOR_LOAD. -/
def monitorHead (load root vbase entry n : Nat) : List Byte :=
  toBytes 8 load ++ toBytes 8 root ++ toBytes 8 vbase ++ toBytes 4 entry ++ toBytes 4 n ++ toBytes 4 0 ++ toBytes 4 n ++ toBytes 8 0

theorem length_monitorHead (load root vbase entry n : Nat) : (monitorHead load root vbase entry n).length = 48 := by
  simp [monitorHead, length_toBytes]

/-- A monitor of one piece stored at its place under a leaf, and its partition held. -/
def State.heldMonitor (s : State) (n : Nat) (l : Leaf) (load : Nat) (b image : List Byte) (i : PartialImage) : State :=
  ((s.mapPart n (fun q => { q with image := some i })).storeLine l 0 (pieceMask load image.length) (padLine load image) false none).loadMonitor
    n b image true

section
variable {n : Nat} {l : Leaf} {load : Nat} {b image : List Byte} {i : PartialImage}

/-- A store of a line changes the memory, its poison, its grades and its glaze bits. -/
theorem storeLine_rest (s : State) (l : Leaf) (va : Nat) (mask : List Bool) (bs : List Byte) (poison : Bool) (glaze : Option Nat) :
    ∃ m b g z, s.storeLine l va mask bs poison glaze = { s with memory := m, badLines := b, grades := g, glaze := z } :=
  ⟨_, _, _, _, rfl⟩

/-- A held monitor's partition, in the state that the store of its image leaves. -/
theorem heldMonitor_eq : ∃ m d g z, s.heldMonitor n l load b image i
    = { s with memory := m, badLines := d, grades := g, glaze := z }.setPart n { s.part n with
        image := none, mm := extend (s.part n).mm image, root := BitVec.ofNat 64 (le b 8 8), mbase := BitVec.ofNat 64 (le b 16 8)
        svec := BitVec.ofNat 64 (le b 16 8), entry := le b 24 4, total := le b 28 4, state := .stopped } := by
  obtain ⟨m, d, g, z, e⟩ := storeLine_rest (s.mapPart n (fun q => { q with image := some i })) l 0 (pieceMask load image.length)
    (padLine load image) false none
  refine ⟨m, d, g, z, ?_⟩
  unfold State.heldMonitor State.loadMonitor
  rw [e]
  have inner : ({ s.mapPart n (fun q => { q with image := some i }) with memory := m, badLines := d, grades := g, glaze := z } : State).part n
      = { s.part n with image := some i } := State.part_setPart_same ..
  simp only [if_true, State.mapPart, State.setPart] at inner ⊢
  rw [inner, mset_mset]

end

/-- A monitor in one piece with HOLD is stored, measured and held. -/
theorem monitorLoad_answered {load root vbase entry : Nat} {image : List Byte} (hp : p < 16) (h1 : load < 2 ^ 64) (h2 : root < 2 ^ 64)
    (h3 : vbase < 2 ^ 64) (h4 : entry < 2 ^ 32) (h5 : image.length ≤ 64)
    (h : Claims.Asks s 0x12 p (monitorHead load root vbase entry image.length ++ image)) (hhold : s.control.arrived.hold = true)
    (hst : (s.part p).state = .created) (hnone : (s.part p).image = none)
    (hbad : badMonitorHead s.health (s.part p) (monitorHead load root vbase entry image.length ++ image) = false) :
    ∃ t a, exec .monitorLoad s = .next t ∧ Claims.Answered s t 0 [] ∧ physicalOf s.health (s.part p) load = some a
      ∧ t.part p = { s.part p with
          mm := extend (s.part p).mm image, root := BitVec.ofNat 64 root, mbase := BitVec.ofNat 64 vbase, svec := BitVec.ofNat 64 vbase
          entry := entry, total := image.length, state := .stopped }
      ∧ (∀ i, i < image.length → readByte t.memory (a + i) = nth 0 image i)
      ∧ (∀ i, i < a ∨ a + image.length ≤ i → readByte t.memory i = readByte s.memory i)
      ∧ (∀ q, q ≠ p → t.part q = s.part q) ∧ (∀ n, t.tile n = s.tile n) := by
  obtain ⟨-, -, hty, hpart, -, -, hpay, hlen, -⟩ := id h
  have fields : le (monitorHead load root vbase entry image.length ++ image) 0 8 = load
      ∧ le (monitorHead load root vbase entry image.length ++ image) 8 8 = root
      ∧ le (monitorHead load root vbase entry image.length ++ image) 16 8 = vbase
      ∧ le (monitorHead load root vbase entry image.length ++ image) 24 4 = entry
      ∧ le (monitorHead load root vbase entry image.length ++ image) 28 4 = image.length
      ∧ le (monitorHead load root vbase entry image.length ++ image) 32 4 = 0
      ∧ le (monitorHead load root vbase entry image.length ++ image) 36 4 = image.length
      ∧ (monitorHead load root vbase entry image.length ++ image).drop 48 = image
      ∧ (monitorHead load root vbase entry image.length ++ image).length = 48 + image.length := by
    rw [List.drop_left' (length_monitorHead ..), List.length_append, length_monitorHead]
    simp only [monitorHead]
    simp [length_toBytes]
    omega
  obtain ⟨fload, froot, fbase, fentry, ftotal, foff, flen, fimage, fall⟩ := fields
  obtain ⟨hload, htotal, howned⟩ := monitorHead_legal hbad
  rw [fload, ftotal] at howned
  rw [fload] at hload
  rw [ftotal] at htotal
  obtain ⟨a, ha⟩ := physicalOf_of_owned (by omega) (by omega) howned
  have hrec := received_monitorLoad hty hpart hp
  have hpt : (onRequest s).part p = s.part p := by rw [onRequest_part, hrec]; rfl
  have hh : (onRequest s).health = s.health := received_health s
  have hmem : (onRequest s).memory = s.memory := (congrArg State.memory (received_rest s) :)
  have halign : a % 64 = 0 := by
    have := (physicalOf_near ha rfl).1
    omega
  have hv : ∃ i, handle s.control.arrived (onRequest s) = (some (.ok, []),
      (onRequest s).heldMonitor p (physicalLeaf s load a) load (monitorHead load root vbase entry image.length ++ image) image i) := by
    have hpieces : linePieces load image.length = [(load, image.length)] := linePieces_within (by omega) (by omega)
    have hstored (i : PartialImage) :
        ((onRequest s).mapPart p (fun q => { q with image := some i })).writePhysical (s.part p) [(load, image.length)] image
          = ((onRequest s).mapPart p (fun q => { q with image := some i })).storeLine (physicalLeaf s load a) 0 (pieceMask load image.length)
              (padLine load image) false none := by
      rw [writePhysical_one (by exact hh ▸ ha), List.take_length]
      exact congrArg (fun m => State.storeLine _ { physicalLeaf s load a with grade := mget 0 m (a / 64) } 0 _ _ false none)
        (congrArg State.grades (received_rest s) :)
    refine ⟨grown none (pieceHead (monitorHead load root vbase entry image.length ++ image) 48 32) image, ?_⟩
    simp only [handle, hty, hpart, monitorLoadReply, hlen, hpay, fload, foff, flen, ftotal, fall, fimage, hpt, hh, hbad, hnone, hhold, List.take_length,
      continues, Nat.add_zero, hpieces, hstored]
    rw [if_neg (by simp)]
    exact if_pos rfl
  obtain ⟨i, hv⟩ := hv
  obtain ⟨m, d, g, z, heq⟩ := heldMonitor_eq (s := onRequest s) (n := p) (l := physicalLeaf s load a) (load := load)
    (b := monitorHead load root vbase entry image.length ++ image) (image := image) (i := i)
  have bytes (j : Nat) : readByte m j = if a ≤ j ∧ j < a + image.length then nth 0 image (j - a) else readByte s.memory j := by
    have hw := readByte_storePiece ((onRequest s).mapPart p (fun q => { q with image := some i })) (l := physicalLeaf s load a) 0 load false none
      rfl (bs := image) rfl (by omega) j
    rw [show (physicalLeaf s load a).phys / 64 * 64 + load % 64 = a by simp only [physicalLeaf]; omega] at hw
    have hm : readByte m j = readByte ((onRequest s).heldMonitor p (physicalLeaf s load a) load
      (monitorHead load root vbase entry image.length ++ image) image i).memory j := (congrArg (fun x : State => readByte x.memory j) heq.symm :)
    rw [hm, ← hmem]
    exact hw
  rw [heq, hpt, froot, fbase, fentry, ftotal] at hv
  have hal : allows s 0x12 p = true := by simp [allows, scopeOf, Scope.takes, allowedIn, hp, hst]
  obtain ⟨t, e1, e2, e3⟩ := answered_of_handle (name := "MONITOR_LOAD") (due := fun m => m.type == 0x12) h (by simp [hty]) hal hv rfl
    (onRequest_awaited s) rfl
  have byte_eq (j : Nat) : readByte t.memory j = readByte m j := (congrArg (fun x : State => readByte x.memory j) e3 :)
  have part_same := (congrArg (fun x : State => x.part p) e3 :).trans ((afterRequest_part ..).trans (State.part_setPart_same ..))
  have part_other {q : Nat} (hq : q ≠ p) : t.part q = (Claims.received s).part q :=
    (congrArg (fun x : State => x.part q) e3 :).trans ((afterRequest_part ..).trans (State.part_setPart_other _ hq _))
  refine ⟨t, a, e1, e2, ha, ?_, fun j hj => ?_, fun j hj => ?_, fun q hq => ?_, fun n => ?_⟩
  · refine part_same.trans ?_
    rw [← hnone]
  · rw [byte_eq, bytes, if_pos (by omega), Nat.add_sub_cancel_left]
  · rw [byte_eq, bytes, if_neg (by omega)]
  · rw [part_other hq]
    exact received_part_other s (by rwa [hpart])
  · have tiles : t.tiles = s.tiles := (congrArg State.tiles e3 :).trans (congrArg State.tiles (received_rest s) :)
    exact congrArg (fun m => mget ({} : Tile) m n) tiles

end

/-- Settles O52: one lemma for each request, named after it, from the reading of its payload and the equation of its execution. -/
theorem partitionRequestsAct : Obligations.PartitionRequestsAct := fun _ _ hp =>
  ⟨fun _ _ _ _ _ hm hf hb hc hw h hfree h0 hx hown hap hk hnk => partCreate_answered hp hm hf hb hc hw h hfree h0 hx hown hap hk hnk,
    fun h hst => partDestroy_answered hp h hst,
    fun _ _ hk hl h hst hown hnone hnk => keyInstall_answered hp hk hl h hst hown hnone hnk,
    fun _ hk h hst hown => keyClear_answered hp hk h hst hown,
    fun h hst hfit => partConfigRead_answered hp h hst hfit,
    fun _ hd h hst hself => partConfigReplace_answered hp hd h hst hself,
    fun _ _ hd hj h hst hstaged hself => partConfigAppend_answered hp hd hj h hst hstaged hself,
    fun _ _ _ _ _ h1 h2 h3 h4 h5 h hhold hst hnone hbad => monitorLoad_answered hp h1 h2 h3 h4 h5 h hhold hst hnone hbad⟩

end Sys2Proof.Machine
end

section
/-! PROOF. Translation of an address that no cache holds, and what reads and writes under a mapped page do (R55, R65, R123, R127; O49, O53,
O54). -/

namespace Sys2Proof.Machine

/-! ### The walk -/

section
variable {s t : State} {w : Who} {r : Right} {va : Nat} {k : Walked} {l : Leaf}

/-- A walk reads the memory, its poison and the health alone. -/
theorem walk_congr (hm : t.memory = s.memory) (hb : t.badLines = s.badLines) (hh : t.health = s.health) (p : Partition) (va n : Nat) :
    ∀ lv table, walk t p va n lv table = walk s p va n lv table := by
  induction n with
  | zero => intros; rfl
  | succ n ih => intro lv table; simp only [walk, hm, hb, hh, ih]

/-- The entry that a walk finds lies at one of its levels. -/
theorem walk_level {p : Partition} (n : Nat) : ∀ {lv table}, walk s p va n lv table = .ok k → lv ≤ k.level ∧ k.level < lv + n := by
  induction n with
  | zero => intro lv table h; cases h
  | succ n ih =>
    intro lv table h
    unfold walk at h
    dsimp only at h
    split at h
    · cases h
    split at h
    · cases h
    split at h
    · cases h
    split at h
    · cases h
    split at h
    · split at h
      · cases h
      · obtain ⟨h1, h2⟩ := ih h
        omega
    split at h
    · split at h
      · injection h with h
        subst h
        exact ⟨Nat.le_refl lv, show lv < lv + (n + 1) by omega⟩
      · cases h
    · cases h

/-! ### The leaf -/

/-- The leaf of an entry, at a place. -/
def leafOf (k : Walked) (va phys : Nat) (foreign : Bool) : Leaf :=
  { ppa := field k.entry 41 16 * 2 ^ 16 + va % 2 ^ leafBits k.level, phys := phys, key := field k.entry 55 44, grade := field k.entry 14 13
    shared := bit k.entry 15, home := field k.entry 63 56, foreign := foreign, entry := BitVec.ofNat 64 k.entry, entryAt := k.place
    level := k.level }

/-- An entry is checked for its form, its rights and its key, and then for the memory that it maps. -/
theorem checkLeaf_eq (s : State) (w : Who) (r : Right) (va : Nat) (k : Walked) : ∃ form right key foreign : Bool,
    checkLeaf s w r va k = if form then .error 6 else if right then .error 7 else if key then .error 8
      else if foreign then .ok (leafOf k va 0 foreign)
      else match physicalOf s.health (s.part w.part) (leafOf k va 0 foreign).ppa with
        | none => .error 9
        | some a => .ok (leafOf k va a foreign) :=
  ⟨_, _, _, _, rfl⟩

/-- What the leaf of an entry is, when it maps memory of this module. -/
theorem leaf_of_checkLeaf (h : checkLeaf s w r va k = .ok l) (hf : l.foreign = false) :
    l = leafOf k va l.phys false ∧ physicalOf s.health (s.part w.part) l.ppa = some l.phys := by
  obtain ⟨form, right, key, foreign, e⟩ := checkLeaf_eq s w r va k
  rw [e] at h
  cases form <;> cases right <;> cases key <;> try cases h
  cases foreign
  · simp only [Bool.false_eq_true, if_false] at h
    split at h
    · cases h
    · next ha =>
      cases h
      exact ⟨rfl, ha⟩
  · cases h
    cases hf

/-- A leaf keeps the place of an address within its page, and within its half kilobit. -/
theorem leaf_offset (h : checkLeaf s w r va k = .ok l) (hf : l.foreign = false) : l.ppa % 65536 = va % 65536 ∧ l.phys % 64 = va % 64 := by
  obtain ⟨hp, hx⟩ := leaf_of_checkLeaf h hf
  have page : l.ppa % 65536 = va % 65536 := by
    have hd : va % 2 ^ leafBits k.level % 65536 = va % 65536 :=
      Nat.mod_mod_of_dvd va (Nat.pow_dvd_pow 2 (Nat.le_add_right 16 (13 * (3 - k.level))))
    rw [hp]
    simp only [leafOf]
    omega
  have := (physicalOf_near hx rfl).1
  omega

/-! ### Translation that no cache serves -/

/-- An entry kept in the cache of a die. -/
theorem keepEntry_rest (ht : w.tile = none) (s : State) (va : Nat) (k : Walked) : ∃ ds, s.keepEntry w va k = { s with dies := ds } := by
  unfold State.keepEntry
  rw [ht]
  exact ⟨_, rfl⟩

theorem translate_uncached (ht : w.tile = none) (hc : (s.die w.die).cache = [])
    (hw : walk s (s.part w.part) va 3 1 (s.part w.part).root.toNat = .ok k) (hl : checkLeaf s w r va k = .ok l) :
    ∃ ds, translate s w r va = (.ok l, { s with dies := ds }) := by
  obtain ⟨ds, hk⟩ := keepEntry_rest ht s va k
  have hn : s.cachedFor w va = none := by
    unfold State.cachedFor
    rw [ht, hc]
    rfl
  refine ⟨ds, ?_⟩
  unfold translate State.entryFor
  simp only [hn, Option.map_none, hw, Except.map, hl, if_true, hk]

/-- The range of a leaf that is checked page by page, when it lies within one page and its last byte is owned. -/
theorem mapPages_one {n : Nat} (ht : w.tile = none) (hc : (s.die w.die).cache = [])
    (hw : walk s (s.part w.part) va 3 1 (s.part w.part).root.toNat = .ok k) (hl : checkLeaf s w r va k = .ok l) (hf : l.foreign = false)
    (h0 : n ≠ 0) (hn : va % 65536 + n ≤ 65536) (hend : (physicalOf s.health (s.part w.part) (l.ppa + n - 1)).isSome = true) :
    ∃ ds, s.mapPages w r (pagePieces va n) = (.ok [{ addr := va, len := n, leaf := l }], { s with dies := ds }) := by
  obtain ⟨ds, htr⟩ := translate_uncached ht hc hw hl
  have hu : firstUnowned s.health (s.part w.part) l.ppa n = none := if_pos hend
  have hu' : firstUnowned ({ s with dies := ds } : State).health (({ s with dies := ds } : State).part w.part) l.ppa n = none := hu
  refine ⟨ds, ?_⟩
  rw [pagePieces_within h0 hn]
  simp only [State.mapPages, htr, hf, Bool.false_eq_true, if_false, hu', Option.map_none]

end

/-! ### The lines of a range under one leaf -/

/-- A range begins with its piece of its first line. -/
theorem linePieces_cons {a n : Nat} (h : n ≠ 0) :
    linePieces a n = (a, min n (64 - a % 64)) :: linePieces (a + min n (64 - a % 64)) (n - min n (64 - a % 64)) := by
  by_cases hn : n ≤ 64 - a % 64
  · rw [linePieces_within h (by omega), Nat.min_eq_left hn, Nat.sub_self]
    rfl
  · rw [Nat.min_eq_right (by omega)]
    have hc : (a + n - 1) / 64 - a / 64 + 1
        = ((a + (64 - a % 64) + (n - (64 - a % 64)) - 1) / 64 - (a + (64 - a % 64)) / 64 + 1) + 1 := by omega
    have hnext : (a + (64 - a % 64)) / 64 = a / 64 + 1 := by omega
    have h2 : n - (64 - a % 64) ≠ 0 := by omega
    unfold linePieces
    rw [if_neg h, if_neg h2, hc, upFrom, List.map_cons, hnext]
    congr 1
    · simp only [Prod.mk.injEq]; omega
    · refine List.map_congr_left (fun x hx => ?_)
      rw [mem_upFrom] at hx
      simp only [Prod.mk.injEq]
      omega

/-- The lines of the range from a on under the leaf of va. -/
def linesOf (l : Leaf) (va a n : Nat) : List PageLeaf :=
  (linePieces a n).map (fun x => { addr := x.1, len := x.2, leaf := ({ addr := va, len := n, leaf := l } : PageLeaf).at_ x.1 })

theorem lineLeaves_one (l : Leaf) (va n : Nat) : lineLeaves [{ addr := va, len := n, leaf := l }] = linesOf l va va n := by
  simp [lineLeaves, linesOf]

theorem linesOf_cons (l : Leaf) (va : Nat) {a n : Nat} (h : n ≠ 0) :
    linesOf l va a n = { addr := a, len := min n (64 - a % 64), leaf := { l with ppa := l.ppa + (a - va), phys := l.phys + (a - va) } }
      :: linesOf l va (a + min n (64 - a % 64)) (n - min n (64 - a % 64)) := by
  unfold linesOf
  rw [linePieces_cons h]
  rfl

/-! ### Reads -/

theorem readBytes_append (m : Memory) (a i j : Nat) : readBytes m a (i + j) = readBytes m a i ++ readBytes m (a + i) j := by
  refine eq_of_nth 0 (by simp) (fun x hx => ?_)
  rw [length_readBytes] at hx
  rw [nth_append, length_readBytes, nth_readBytes, if_pos hx]
  split
  · next h => rw [nth_readBytes, if_pos h]
  · next h => rw [nth_readBytes, if_pos (by omega), show a + i + (x - i) = a + x by omega]

theorem readBytes_slice (m : Memory) (a : Nat) {n i j : Nat} (h : i + j ≤ n) : ((readBytes m a n).drop i).take j = readBytes m (a + i) j := by
  refine eq_of_nth 0 (by simp; omega) (fun x hx => ?_)
  rw [List.length_take, List.length_drop, length_readBytes] at hx
  rw [nth_take, if_pos (by omega), nth_drop, nth_readBytes, if_pos (by omega), nth_readBytes, if_pos (by omega), Nat.add_assoc]

section
variable {s : State} {l : Leaf} {va : Nat}

/-- A clean plain line read under its leaf. -/
theorem readHere_clean {a n : Nat} (hk : l.key = 0) (hl : l.phys % 64 = a % 64) (hn : a % 64 + n ≤ 64) (hb : l.phys / 64 ∉ s.badLines)
    (hg : mget 0 s.grades (l.phys / 64) = l.grade) :
    s.readHere l a n = ({ bytes := readBytes s.memory l.phys n, poison := none, shared := [], level := l.level }, s) := by
  have hb' : s.badLines.contains (l.phys / 64) = false := by simpa using hb
  have hr : ((s.rawLine (l.phys / 64)).drop (a % 64)).take n = readBytes s.memory l.phys n := by
    rw [State.rawLine, readBytes_slice _ _ hn]
    congr 1
    omega
  simp only [State.readHere, State.readLine, hg, ne_eq, not_true, if_false, hk, if_true, hr, hb', Bool.false_eq_true, Bool.false_and]

/-- Clean plain lines read under the leaf of their page. -/
theorem readMapped_lines (hk : l.key = 0) (hl : l.phys % 64 = va % 64) (n : Nat) : ∀ a, va ≤ a →
    (∀ x, (l.phys + (a - va)) / 64 ≤ x → x ≤ (l.phys + (a - va) + n - 1) / 64 → x ∉ s.badLines ∧ mget 0 s.grades x = l.grade) →
    ∃ lv, s.readMapped (linesOf l va a n)
      = ({ bytes := readBytes s.memory (l.phys + (a - va)) n, poison := none, shared := [], level := lv }, s) := by
  induction n using Nat.strongRecOn with
  | _ n ih =>
    intro a ha hx
    by_cases h0 : n = 0
    · subst h0
      exact ⟨3, rfl⟩
    · obtain ⟨hb, hg⟩ := hx ((l.phys + (a - va)) / 64) (Nat.le_refl _) (by omega)
      obtain ⟨lv, hr⟩ := ih (n - min n (64 - a % 64)) (by omega) (a + min n (64 - a % 64)) (by omega) (fun x h1 h2 => hx x (by omega) (by omega))
      refine ⟨l.level, ?_⟩
      have here := readHere_clean (s := s) (l := { l with ppa := l.ppa + (a - va), phys := l.phys + (a - va) }) (a := a)
        (n := min n (64 - a % 64)) hk (by simp only; omega) (by omega) hb hg
      rw [linesOf_cons l va h0]
      simp only [State.readMapped, here, hr, Got.append, Option.isSome_none, Bool.false_eq_true, if_false, List.append_nil]
      rw [show l.phys + (a + min n (64 - a % 64) - va) = l.phys + (a - va) + min n (64 - a % 64) by omega, ← readBytes_append,
        Nat.add_sub_cancel' (Nat.min_le_left ..)]

/-! ### The dirty bit -/

theorem setDirty_set (hd : l.entry.getLsbD 12 = true) (w : Who) (a : Nat) : s.setDirty w a l = s := by
  simp [State.setDirty, hd]

theorem readByte_setDirty (hf : l.foreign = false) (w : Who) (a i : Nat) :
    readByte (s.setDirty w a l).memory i
      = if l.entry.getLsbD 12 = false ∧ i = l.entryAt + 1 then readByte s.memory i ||| 0x10 else readByte s.memory i := by
  cases hd : l.entry.getLsbD 12 with
  | true => simp [setDirty_set hd]
  | false =>
    simp only [State.setDirty, hf, hd, Bool.or_self, Bool.false_eq_true, if_false, true_and]
    refine (readByte_writeByte ..).trans ?_
    split
    · next h => rw [h]
    · rfl

/-- Addresses of a page reach into the same regions. -/
theorem leafRegions_page {lv a b : Nat} (h : a / 65536 = b / 65536) : leafRegions lv a = leafRegions lv b := by
  have e : a / 2 ^ leafBits lv = b / 2 ^ leafBits lv := by
    rw [leafBits, Nat.pow_add, ← Nat.div_div_eq_div_mul, ← Nat.div_div_eq_div_mul, show (2 ^ 16 : Nat) = 65536 from rfl, h]
  simp only [leafRegions, e]

theorem mem_addRange {a n x : Nat} {xs : List Nat} : x ∈ addRange a n xs ↔ x ∈ xs ∨ (a ≤ x ∧ x < a + n) := by
  simp only [addRange, List.mem_append, List.mem_filter, mem_upFrom, decide_eq_true_iff]
  by_cases hx : x ∈ xs
  · simp only [hx, true_and, true_or, iff_true]
    omega
  · simp only [hx, false_and, or_false, false_or]

theorem mem_dirtyMap_setDirty (hf : l.foreign = false) (w : Who) (a x : Nat) :
    x ∈ ((s.setDirty w a l).part w.part).dirtyMap ↔ x ∈ (s.part w.part).dirtyMap ∨ (l.entry.getLsbD 12 = false
      ∧ (leafRegions l.level a).1 ≤ x ∧ x < (leafRegions l.level a).1 + (leafRegions l.level a).2) := by
  cases hd : l.entry.getLsbD 12 with
  | true => simp [setDirty_set hd]
  | false =>
    have hp : ((s.setDirty w a l).part w.part).dirtyMap
        = addRange (leafRegions l.level a).1 (leafRegions l.level a).2 (s.part w.part).dirtyMap := by
      simp only [State.setDirty, hf, hd, Bool.or_self, Bool.false_eq_true, if_false]
      exact congrArg Partition.dirtyMap (State.part_setPart_same ..)
    rw [hp, mem_addRange]
    simp

/-! ### Writes -/

/-- A write that no log takes a record of. -/
theorem writePiece_unlogged {w : Who} (hj : w.job = none) (s : State) (l : Leaf) (a : Nat) (mask : List Bool) (bs : List Byte) (poison : Bool)
    (glaze : Option Nat) : s.writePiece w l a mask bs poison glaze = (s.setDirty w a l).storeLine l a mask bs poison glaze := by
  simp only [State.writePiece, State.logLine, hj]

/-- What writes under translation may change: the memory with its poison, grades and glaze bits, the dirty map, and the dirty bits of the
caches. -/
def Wrote (s t : State) : Prop :=
  { t with memory := s.memory, badLines := s.badLines, grades := s.grades, glaze := s.glaze, parts := s.parts, dies := s.dies, tiles := s.tiles }
    = s

theorem Wrote.trans {s t u : State} (h1 : Wrote s t) (h2 : Wrote t u) : Wrote s u :=
  (congrArg (fun x : State => { x with
    memory := s.memory, badLines := s.badLines, grades := s.grades, glaze := s.glaze, parts := s.parts, dies := s.dies, tiles := s.tiles }) h2 :).trans
    h1

theorem wrote_setDirty (s : State) (w : Who) (a : Nat) (l : Leaf) : Wrote s (s.setDirty w a l) := by
  unfold State.setDirty
  split
  · rfl
  · rfl

theorem wrote_storeLine (s : State) (l : Leaf) (va : Nat) (mask : List Bool) (bs : List Byte) (poison : Bool) (glaze : Option Nat) :
    Wrote s (s.storeLine l va mask bs poison glaze) := rfl

section
variable {w : Who} (hj : w.job = none)
include hj

theorem wrote_writeMapped (poison : Bool) (xs : List PageLeaf) : ∀ (s : State) (bs : List Byte), Wrote s (s.writeMapped w poison xs bs) := by
  induction xs with
  | nil => intros; rfl
  | cons x xs ih =>
    intro s bs
    rw [State.writeMapped, writePiece_unlogged hj]
    exact ((wrote_setDirty ..).trans (wrote_storeLine ..)).trans (ih _ _)

/-- Writes under an entry that is dirty already leave the tiles alone. -/
theorem writeMapped_tiles (poison : Bool) (xs : List PageLeaf) (h : ∀ x ∈ xs, x.leaf.entry.getLsbD 12 = true) :
    ∀ (s : State) (bs : List Byte), (s.writeMapped w poison xs bs).tiles = s.tiles := by
  induction xs with
  | nil => intros; rfl
  | cons x xs ih =>
    intro s bs
    rw [State.writeMapped, writePiece_unlogged hj, setDirty_set (h x (by simp))]
    exact ih (fun y hy => h y (by simp [hy])) _ _

/-- A range written under the leaf of its page: its bytes, and the dirty bit of the entry. -/
theorem readByte_writeMapped (hk : l.key = 0) (hf : l.foreign = false) (hl : l.phys % 64 = va % 64) (i : Nat) (n : Nat) : n ≠ 0 →
    ∀ (s : State) (a : Nat) (bs : List Byte), va ≤ a → bs.length = n →
    (l.entry.getLsbD 12 = false → ¬ (l.phys + (a - va) ≤ l.entryAt + 1 ∧ l.entryAt + 1 < l.phys + (a - va) + n)) →
    readByte (s.writeMapped w false (linesOf l va a n) bs).memory i
      = if l.phys + (a - va) ≤ i ∧ i < l.phys + (a - va) + n then nth 0 bs (i - (l.phys + (a - va)))
        else if l.entry.getLsbD 12 = false ∧ i = l.entryAt + 1 then readByte s.memory i ||| 0x10 else readByte s.memory i := by
  induction n using Nat.strongRecOn with
  | _ n ih =>
    intro h0 s a bs ha hbs hout
    rw [linesOf_cons l va h0, State.writeMapped, writePiece_unlogged hj]
    let m := min n (64 - a % 64)
    let l1 : Leaf := { l with ppa := l.ppa + (a - va), phys := l.phys + (a - va) }
    have hm : m = min n (64 - a % 64) := rfl
    have hstart : l1.phys / 64 * 64 + a % 64 = l.phys + (a - va) := by simp only [l1]; omega
    have first := readByte_storePiece (s.setDirty w a l1) (l := l1) a a (bs := bs.take m) false none hk
      (n := m) (by rw [List.length_take]; omega) (by omega) i
    rw [hstart, readByte_setDirty (l := l1) hf] at first
    by_cases hrest : n - m = 0
    · have hmn : m = n := by omega
      show readByte (State.writeMapped _ w false (linesOf l va (a + m) (n - m)) (bs.drop m)).memory i = _
      rw [hrest]
      refine first.trans ?_
      rw [hmn, List.take_of_length_le (by omega)]
    · have rest := ih (n - m) (by omega) hrest ((s.setDirty w a l1).storeLine l1 a (pieceMask a m) (padLine a (bs.take m)) false none) (a + m)
        (bs.drop m) (by omega) (by rw [List.length_drop]; omega) (fun e => by have := hout e; omega)
      rw [show l.phys + (a + m - va) = l.phys + (a - va) + m by omega] at rest
      refine rest.trans ?_
      by_cases hd : l.entry.getLsbD 12 = false ∧ i = l.entryAt + 1
      · have hno := hout hd.1
        rw [if_neg (show ¬ (l.phys + (a - va) + m ≤ i ∧ i < l.phys + (a - va) + m + (n - m)) by omega), if_pos hd,
          if_neg (show ¬ (l.phys + (a - va) ≤ i ∧ i < l.phys + (a - va) + n) by omega), if_pos hd, first,
          if_neg (show ¬ (l.phys + (a - va) ≤ i ∧ i < l.phys + (a - va) + m) by omega), if_pos hd, BitVec.or_assoc, BitVec.or_self]
      · rw [if_neg hd, if_neg hd, first, if_neg hd]
        by_cases h1 : l.phys + (a - va) ≤ i ∧ i < l.phys + (a - va) + m
        · rw [if_neg (by omega), if_pos h1, if_pos (by omega), nth_take, if_pos (by omega)]
        · rw [if_neg h1]
          by_cases h2 : l.phys + (a - va) + m ≤ i ∧ i < l.phys + (a - va) + m + (n - m)
          · rw [if_pos h2, if_pos (by omega), nth_drop]
            congr 1
            omega
          · rw [if_neg h2, if_neg (by omega)]

/-- A range written under the leaf of its page marks the regions of the entry, when it is not dirty yet. -/
theorem mem_dirtyMap_writeMapped (hf : l.foreign = false) (poison : Bool) (x : Nat) (n : Nat) : n ≠ 0 →
    ∀ (s : State) (a : Nat) (bs : List Byte), a / 65536 = va / 65536 → a % 65536 + n ≤ 65536 →
    (x ∈ ((s.writeMapped w poison (linesOf l va a n) bs).part w.part).dirtyMap ↔ x ∈ (s.part w.part).dirtyMap ∨ (l.entry.getLsbD 12 = false
      ∧ (leafRegions l.level va).1 ≤ x ∧ x < (leafRegions l.level va).1 + (leafRegions l.level va).2)) := by
  induction n using Nat.strongRecOn with
  | _ n ih =>
    intro h0 s a bs hpage hend
    rw [linesOf_cons l va h0, State.writeMapped, writePiece_unlogged hj, ← leafRegions_page hpage]
    let m := min n (64 - a % 64)
    let l1 : Leaf := { l with ppa := l.ppa + (a - va), phys := l.phys + (a - va) }
    have hm : m = min n (64 - a % 64) := rfl
    have first := mem_dirtyMap_setDirty (s := s) (l := l1) hf w a x
    by_cases hrest : n - m = 0
    · show x ∈ ((State.writeMapped _ w poison (linesOf l va (a + m) (n - m)) (bs.drop m)).part w.part).dirtyMap ↔ _
      rw [hrest]
      exact first
    · have rest := ih (n - m) (by omega) hrest ((s.setDirty w a l1).storeLine l1 a (pieceMask a m) (padLine a (bs.take m)) poison none) (a + m)
        (bs.drop m) (by omega) (by omega)
      refine rest.trans ((or_congr first Iff.rfl).trans ?_)
      rw [← leafRegions_page hpage]
      exact or_assoc.trans (or_congr Iff.rfl (or_self_iff ..))

end
end

end Sys2Proof.Machine
end

section
/-! PROOF. The requests that move memory, raw lines and kiln lines, and the dirty scan (O53). -/

namespace Sys2Proof.Machine

open Host (Outcome)

section
variable {s : State} {p va n : Nat} {body : List Byte} {r : Right} {k : Walked} {l : Leaf}

/-! ### A mapped page as a request finds it -/

theorem onRequest_memory (s : State) : (onRequest s).memory = s.memory := (congrArg State.memory (received_rest s) :)

theorem onRequest_badLines (s : State) : (onRequest s).badLines = s.badLines := (congrArg State.badLines (received_rest s) :)

theorem onRequest_grades (s : State) : (onRequest s).grades = s.grades := (congrArg State.grades (received_rest s) :)

theorem onRequest_glaze (s : State) : (onRequest s).glaze = s.glaze := (congrArg State.glaze (received_rest s) :)

theorem onRequest_tiles (s : State) : (onRequest s).tiles = s.tiles := (congrArg State.tiles (received_rest s) :)

/-- The image begun apart, a partition is as it was. -/
theorem onRequest_part_image (s : State) (p : Nat) : ∃ i, (onRequest s).part p = { s.part p with image := i } := received_part s p

theorem onRequest_physicalOf (s : State) (p a : Nat) :
    physicalOf (onRequest s).health ((onRequest s).part p) a = physicalOf s.health (s.part p) a := by
  obtain ⟨i, hi⟩ := onRequest_part_image s p
  rw [hi, show (onRequest s).health = s.health from received_health s]
  rfl

theorem onRequest_sealed (s : State) (p : Nat) : ((onRequest s).part p).sealed_ = (s.part p).sealed_ := by
  obtain ⟨i, hi⟩ := onRequest_part_image s p
  rw [hi]

theorem mapsLine_onRequest (h : Claims.MapsLine (Claims.received s) p r va k l) : Claims.MapsLine (onRequest s) p r va k l := by
  obtain ⟨hc, hw, hl, hrest⟩ := h
  exact ⟨hc, (walk_congr (s := Claims.received s) rfl rfl rfl ..).trans hw, hl, hrest⟩

/-- The pages of a range that one leaf maps are found, and the lines of the range move under it. -/
theorem checkedPages_one {u : State} (hm : Claims.MapsLine u p r va k l) (h0 : n ≠ 0) (hn : va % 65536 + n ≤ 65536)
    (hend : (physicalOf u.health (u.part p) (l.ppa + n - 1)).isSome = true) (f : List PageLeaf → State → Reply) :
    ∃ ds, u.checkedPages (u.dispatcher p none) r va n f = f (linesOf l va va n) { u with dies := ds } := by
  obtain ⟨hc, hw, hl, -, -, hf, -⟩ := hm
  obtain ⟨ds, e⟩ := mapPages_one (w := u.dispatcher p none) rfl hc hw hl hf h0 hn hend
  exact ⟨ds, by simp only [State.checkedPages, e, lineLeaves_one]⟩

/-- A range within one line ends in owned memory when it begins there. -/
theorem owned_end {u : State} (hm : Claims.MapsLine u p r va k l) (h0 : n ≠ 0) (hn : va % 64 + n ≤ 64) :
    (physicalOf u.health (u.part p) (l.ppa + n - 1)).isSome = true := by
  obtain ⟨-, -, hl, -, -, hf, -⟩ := hm
  have hpage := (leaf_offset hl hf).1
  obtain ⟨-, hx⟩ := leaf_of_checkLeaf hl hf
  exact congrArg Option.isSome (physicalOf_near (b := l.ppa + n - 1) hx (by omega)).2

theorem mapsLine_offset (hm : Claims.MapsLine s p r va k l) : l.phys % 64 = va % 64 := by
  obtain ⟨-, -, hl, -, -, hf, -⟩ := hm
  exact (leaf_offset hl hf).2

/-! ### Heads -/

/-- The head of a request that names a range: the address and the count, and what follows. -/
theorem rangeHead {b rest : List Byte} (hva : va < 2 ^ 64) (hn : n < 2 ^ 32) (hb : b = toBytes 8 va ++ (toBytes 4 n ++ (toBytes 4 0 ++ rest))) :
    le b 0 8 = va ∧ le b 8 4 = n ∧ dirty b 12 4 = false ∧ b.drop 16 = rest ∧ b.length = 16 + rest.length := by
  have hdrop : b.drop 16 = rest := by
    rw [hb, ← List.append_assoc, ← List.append_assoc]
    exact List.drop_left' (by simp [length_toBytes])
  refine ⟨?_, ?_, ?_, hdrop, ?_⟩
  all_goals subst hb; simp [length_toBytes]; try omega

theorem badRange_false {a : Nat} (h : va + a ≤ 2 ^ 55) (h0 : a ≠ 0) : badRange va a = false := by
  simp only [badRange, Bool.or_eq_false_iff, decide_eq_false_iff_not]
  omega

theorem excludes_open {q : Partition} (h : q.sealed_ = false) (va n : Nat) : q.excludes va n = false := by simp [Partition.excludes, h]

/-! ### MEM_WRITE -/

/-- The range of a request written under the leaf of its page. -/
theorem memWrite_answered {bs : List Byte} (hp : p < 16) (hs : (s.part p).sealed_ = false) (hva : va < 2 ^ 55) (h1 : 1 ≤ bs.length)
    (hpage : va % 65536 + bs.length ≤ 65536) (hmax : bs.length ≤ 8944) (hst : (s.part p).state = .running ∨ (s.part p).state = .stopped)
    (hm : Claims.MapsLine (Claims.received s) p .write va k l)
    (hend : (physicalOf s.health (s.part p) (l.ppa + bs.length - 1)).isSome = true)
    (hout : l.entry.getLsbD 12 = false → ¬ (l.phys ≤ l.entryAt + 1 ∧ l.entryAt + 1 < l.phys + bs.length))
    (h : Claims.Asks s 0x20 p (toBytes 8 va ++ toBytes 4 bs.length ++ toBytes 4 0 ++ bs)) :
    ∃ t, exec .memWrite s = .next t ∧ Claims.Answered s t 0 [] ∧ (l.entry.getLsbD 12 = true → t.tiles = s.tiles)
      ∧ (∀ i, readByte t.memory i = if l.phys ≤ i ∧ i < l.phys + bs.length then nth 0 bs (i - l.phys)
          else if l.entry.getLsbD 12 = false ∧ i = l.entryAt + 1 then readByte s.memory i ||| 0x10 else readByte s.memory i)
      ∧ ∀ x, x ∈ (t.part p).dirtyMap ↔ x ∈ (s.part p).dirtyMap ∨ (l.entry.getLsbD 12 = false
          ∧ (leafRegions l.level va).1 ≤ x ∧ x < (leafRegions l.level va).1 + (leafRegions l.level va).2) := by
  obtain ⟨-, -, hty, hpart, -, -, hpay, hlen, -⟩ := id h
  obtain ⟨fva, fn, fpad, frest, flen⟩ := rangeHead (va := va) (n := bs.length) (rest := bs) (by omega) (by omega) (hpay.trans (by simp only [List.append_assoc]))
  have hm' := mapsLine_onRequest hm
  have hoff := mapsLine_offset hm'
  obtain ⟨-, -, -, hk, -, hf, -⟩ := id hm'
  obtain ⟨ds, hpages⟩ := checkedPages_one hm' (n := bs.length) (by omega) hpage (by rw [onRequest_physicalOf]; exact hend)
    (fun ls s1 => done (s1.writeMapped ((onRequest s).dispatcher p none) false ls bs))
  have hv : handle s.control.arrived (onRequest s) = done (({ onRequest s with dies := ds } : State).writeMapped
      ((onRequest s).dispatcher p none) false (linesOf l va va bs.length) bs) := by
    simp only [handle, hty, hpart, memWriteReply, fva, fn, frest]
    rw [guarded_pass]
    · exact hpages
    · have hr := badRange_false (va := va) (a := bs.length) (by omega) (by omega)
      have hx := excludes_open ((onRequest_sealed s p).trans hs) va bs.length
      simp only [List.forall_mem_cons, List.not_mem_nil, false_imp_iff, implies_true, and_true, hr, hx, fpad, hlen, ← hpay, flen,
        bne_self_eq_false, Bool.or_false, Bool.or_eq_false_iff, decide_eq_false_iff_not, beq_eq_false_iff_ne]
      omega
  have hwrote := wrote_writeMapped (w := (onRequest s).dispatcher p none) rfl false (linesOf l va va bs.length)
    { onRequest s with dies := ds } bs
  have hbytes (i : Nat) := readByte_writeMapped (w := (onRequest s).dispatcher p none) rfl hk hf hoff i bs.length (by omega)
    { onRequest s with dies := ds } va bs (Nat.le_refl _) rfl (by rwa [Nat.sub_self])
  have hmap (x : Nat) := mem_dirtyMap_writeMapped (w := (onRequest s).dispatcher p none) rfl hf (va := va) false x bs.length (by omega)
    { onRequest s with dies := ds } va bs rfl hpage
  have htiles (hd : l.entry.getLsbD 12 = true) := writeMapped_tiles (w := (onRequest s).dispatcher p none) rfl false (linesOf l va va bs.length)
    (by
      intro x hx
      obtain ⟨y, -, rfl⟩ := List.mem_map.1 hx
      exact hd) { onRequest s with dies := ds } bs
  generalize State.writeMapped _ _ _ _ _ = v at hv hwrote hbytes hmap htiles
  have hal : allows s 0x20 p = true := by
    rcases hst with e | e <;> simp [allows, scopeOf, Scope.takes, allowedIn, hp, e]
  obtain ⟨t, e1, e2, e3⟩ := answered_of_handle (name := "MEM_WRITE") (due := fun m => m.type == 0x20) h (by simp [hty]) hal hv
    (congrArg State.want hwrote) ((congrArg State.awaited hwrote).trans (onRequest_awaited s)) (congrArg State.control hwrote :)
  have hpart_eq : t.part p = v.part p := (congrArg (fun x : State => x.part p) e3 :)
  have hmem : t.memory = v.memory := (congrArg State.memory e3 :)
  have hmap0 : ((onRequest s).part p).dirtyMap = (s.part p).dirtyMap := by
    obtain ⟨i, hi⟩ := onRequest_part_image s p
    rw [hi]
  refine ⟨t, e1, e2, fun hd => ?_, fun i => ?_, fun x => ?_⟩
  · exact (congrArg State.tiles e3 :).trans ((htiles hd).trans (onRequest_tiles s))
  · rw [hmem, hbytes i, Nat.sub_self, Nat.add_zero, ← onRequest_memory s]
  · rw [hpart_eq, ← hmap0]
    exact hmap x

/-! ### MEM_READ -/

theorem allows_reach {ty : Nat} (hp : p < 16) (hty : ty ∈ [0x20, 0x21, 0x23, 0x24, 0x30, 0x34])
    (hst : (s.part p).state = .running ∨ (s.part p).state = .stopped) : allows s ty p = true := by
  simp only [List.mem_cons, List.not_mem_nil, or_false] at hty
  rcases hst with e | e <;> rcases hty with rfl | rfl | rfl | rfl | rfl | rfl <;> simp [allows, scopeOf, Scope.takes, allowedIn, hp, e]

theorem allows_stopped {ty : Nat} (hp : p < 16) (hty : ty ∈ [0x22, 0x25, 0x33, 0x35, 0x36]) (hst : (s.part p).state = .stopped) :
    allows s ty p = true := by
  simp only [List.mem_cons, List.not_mem_nil, or_false] at hty
  rcases hty with rfl | rfl | rfl | rfl | rfl <;> simp [allows, scopeOf, Scope.takes, allowedIn, hp, hst]

/-- The range of a request read under the leaf of its page. -/
theorem memRead_answered (hp : p < 16) (hs : (s.part p).sealed_ = false) (hva : va < 2 ^ 55) (h1 : 1 ≤ n) (hpage : va % 65536 + n ≤ 65536)
    (hmax : n ≤ 8960) (hst : (s.part p).state = .running ∨ (s.part p).state = .stopped)
    (hm : Claims.MapsLine (Claims.received s) p .read va k l)
    (hend : (physicalOf s.health (s.part p) (l.ppa + n - 1)).isSome = true)
    (hlines : ∀ x, l.phys / 64 ≤ x → x ≤ (l.phys + n - 1) / 64 → x ∉ s.badLines ∧ mget 0 s.grades x = l.grade)
    (h : Claims.Asks s 0x21 p (toBytes 8 va ++ toBytes 4 n ++ toBytes 4 0)) :
    ∃ t, exec .memRead s = .next t ∧ Claims.Answered s t 0 (readBytes s.memory l.phys n) ∧ t.memory = s.memory ∧ t.tiles = s.tiles := by
  obtain ⟨-, -, hty, hpart, -, -, hpay, hlen, -⟩ := id h
  obtain ⟨fva, fn, fpad, -, flen⟩ := rangeHead (va := va) (n := n) (rest := []) (by omega) (by omega)
    (hpay.trans (by simp only [List.append_assoc, List.append_nil]))
  have hm' := mapsLine_onRequest hm
  obtain ⟨-, -, -, hk, -⟩ := id hm'
  obtain ⟨ds, hpages⟩ := checkedPages_one hm' (n := n) (by omega) hpage (by rw [onRequest_physicalOf]; exact hend)
    (fun ls s1 =>
      let g := s1.readMapped ls
      let s2 := g.2.awaitNotifies ((onRequest s).dispatcher p none) g.1.shared
      match g.1.poison with | some a => faulted a s2 | none => (some (.ok, g.1.bytes), s2))
  obtain ⟨lv, hread⟩ := readMapped_lines (s := { onRequest s with dies := ds }) (l := l) (va := va) hk (mapsLine_offset hm') n va (Nat.le_refl _)
    (by
      rw [Nat.sub_self, Nat.add_zero]
      intro x h1 h2
      rw [onRequest_badLines, onRequest_grades]
      exact hlines x h1 h2)
  rw [Nat.sub_self, Nat.add_zero, onRequest_memory] at hread
  rw [hread] at hpages
  have hv : handle s.control.arrived (onRequest s) = (some (.ok, readBytes s.memory l.phys n), { onRequest s with dies := ds }) := by
    simp only [handle, hty, hpart, memReadReply, fva, fn]
    rw [guarded_pass]
    · exact hpages
    · have hr := badRange_false (va := va) (a := n) (by omega) (by omega)
      have hx := excludes_open ((onRequest_sealed s p).trans hs) va n
      simp only [List.forall_mem_cons, List.not_mem_nil, false_imp_iff, implies_true, and_true, hr, hx, fpad, hlen, ← hpay, flen, List.length_nil,
        bne_self_eq_false, Bool.or_false, Bool.false_or, Bool.or_eq_false_iff, decide_eq_false_iff_not, beq_eq_false_iff_ne]
      omega
  obtain ⟨t, e1, e2, e3⟩ := answered_of_handle (name := "MEM_READ") (due := fun m => m.type == 0x21) h (by simp [hty])
    (allows_reach hp (by simp) hst) hv rfl (onRequest_awaited s) rfl
  exact ⟨t, e1, e2, (congrArg State.memory e3 :).trans (onRequest_memory s), (congrArg State.tiles e3 :).trans (onRequest_tiles s)⟩

/-! ### Raw lines -/

theorem linesOf_line (l : Leaf) (h0 : n ≠ 0) (h : va % 64 + n ≤ 64) : linesOf l va va n = [{ addr := va, len := n, leaf := l }] := by
  simp [linesOf, linePieces_within h0 h, PageLeaf.at_]

/-- A request of one line: the page check finds it under its leaf. -/
theorem checkedPages_line {u : State} (hm : Claims.MapsLine u p r va k l) (ha : va % 64 = 0) (f : List PageLeaf → State → Reply) :
    ∃ ds, u.checkedPages (u.dispatcher p none) r va (64 * 1) f = f [{ addr := va, len := 64, leaf := l }] { u with dies := ds } := by
  obtain ⟨ds, e⟩ := checkedPages_one hm (n := 64) (by omega) (by omega) (owned_end hm (by omega) (by omega)) f
  rw [linesOf_line l (by omega) (by omega)] at e
  exact ⟨ds, e⟩

theorem mixBytes_full (n : Nat) : ∀ ns os : List Byte, ns.length = n → os.length = n → mixBytes (List.replicate n true) ns os = ns := by
  induction n with
  | zero =>
    intro ns os h1 h2
    rw [List.length_eq_zero_iff] at h1
    subst h1
    rfl
  | succ n ih =>
    intro ns os h1 h2
    obtain ⟨x, ns, rfl⟩ := List.exists_cons_of_length_eq_add_one h1
    obtain ⟨y, os, rfl⟩ := List.exists_cons_of_length_eq_add_one h2
    rw [List.replicate_succ, mixBytes, if_pos rfl, ih ns os (by simpa using h1) (by simpa using h2)]

theorem mem_addTo {a x : Nat} {xs : List Nat} : x ∈ addTo a xs ↔ x = a ∨ x ∈ xs := by
  induction xs with
  | nil => simp [addTo]
  | cons y ys ih =>
    unfold addTo
    split
    · simp
    · split
      · next h => subst h; simp
      · simp only [List.mem_cons, ih]
        exact or_left_comm

theorem glazeBits_le (grade : Nat) : glazeBits grade ≤ 56 := by
  unfold glazeBits
  split
  · omega
  · split <;> omega

/-- A plain line stored in full with its glaze bits and its poison. -/
theorem storeLine_full (s : State) {l : Leaf} {bs : List Byte} (hk : l.key = 0) (hb : bs.length = 64) (va : Nat) (poison : Bool) (g : Nat) :
    (s.storeLine l va (List.replicate 64 true) bs poison (some g)).memory = writeBytes s.memory (l.phys / 64 * 64) bs
      ∧ (mget 0 (s.storeLine l va (List.replicate 64 true) bs poison (some g)).glaze (l.phys / 64)).toNat = g % 2 ^ glazeBits l.grade
      ∧ (l.phys / 64 ∈ (s.storeLine l va (List.replicate 64 true) bs poison (some g)).badLines ↔ poison = true) := by
  have hfull : (List.replicate 64 true).all id = true := rfl
  simp only [State.storeLine, hk, hfull, decide_true, Bool.or_true, if_true, Bool.not_true, Bool.false_and, Bool.or_false]
  refine ⟨?_, ?_, ?_⟩
  · rw [State.rawLine, mixBytes_full 64 _ _ hb (length_readBytes ..), Nat.mul_comm]
  · have hg : g % 2 ^ glazeBits l.grade < 2 ^ 56 :=
      Nat.lt_of_lt_of_le (Nat.mod_lt _ (Nat.two_pow_pos _)) (Nat.pow_le_pow_right (by omega) (glazeBits_le _))
    rw [mget_mset, if_pos rfl, BitVec.toNat_ofNat, Nat.mod_eq_of_lt hg]
  · cases poison <;> simp [mem_addTo, mem_dropFrom]

/-- One line and its record written as they are. -/
theorem memWriteRaw_answered {bs : List Byte} {glaze poison : Nat} (hp : p < 16) (hs : (s.part p).sealed_ = false) (hva : va < 2 ^ 55)
    (ha : va % 64 = 0) (hb : bs.length = 64) (hg : glaze < 2 ^ 56) (hpo : poison < 2) (hst : (s.part p).state = .stopped)
    (hm : Claims.MapsLine (Claims.received s) p .write va k l) (hd : l.entry.getLsbD 12 = true)
    (h : Claims.Asks s 0x22 p (toBytes 8 va ++ toBytes 4 1 ++ toBytes 4 0 ++ bs ++ toBytes 7 glaze ++ toBytes 1 poison ++ toBytes 8 0)) :
    ∃ t, exec .memWriteRaw s = .next t ∧ Claims.Answered s t 0 [] ∧ readBytes t.memory (l.phys / 64 * 64) 64 = bs
      ∧ (∀ i, i < l.phys / 64 * 64 ∨ l.phys / 64 * 64 + 64 ≤ i → readByte t.memory i = readByte s.memory i)
      ∧ (mget 0 t.glaze (l.phys / 64)).toNat = glaze % 2 ^ glazeBits l.grade ∧ (l.phys / 64 ∈ t.badLines ↔ poison = 1) := by
  obtain ⟨-, -, hty, hpart, -, -, hpay, hlen, -⟩ := id h
  obtain ⟨fva, fn, fpad, frest, flen⟩ := rangeHead (va := va) (n := 1) (rest := bs ++ (toBytes 7 glaze ++ (toBytes 1 poison ++ toBytes 8 0)))
    (by omega) (by omega) (hpay.trans (by simp only [List.append_assoc]))
  have hrec : (bs ++ (toBytes 7 glaze ++ (toBytes 1 poison ++ toBytes 8 0))).length = 80 := by simp [length_toBytes, hb]
  have fields : (bs ++ (toBytes 7 glaze ++ (toBytes 1 poison ++ toBytes 8 0))).take 64 = bs
      ∧ le (bs ++ (toBytes 7 glaze ++ (toBytes 1 poison ++ toBytes 8 0))) 64 7 = glaze
      ∧ le (bs ++ (toBytes 7 glaze ++ (toBytes 1 poison ++ toBytes 8 0))) 71 1 = poison
      ∧ dirty (bs ++ (toBytes 7 glaze ++ (toBytes 1 poison ++ toBytes 8 0))) 72 8 = false := by
    rw [List.take_left' hb]
    simp [length_toBytes, hb]
    omega
  obtain ⟨rbytes, rglaze, rpoison, rpad⟩ := fields
  generalize bs ++ (toBytes 7 glaze ++ (toBytes 1 poison ++ toBytes 8 0)) = rec at *
  have hm' := mapsLine_onRequest hm
  obtain ⟨ds, hpages⟩ := checkedPages_line hm' ha
    (fun ls s1 => done (s1.storeRaws ((onRequest s).dispatcher p none) ls (recordsOf 1 rec)))
  have hrecs : recordsOf 1 rec = [rec] := by simp [recordsOf, List.take_of_length_le, hrec]
  have hv : handle s.control.arrived (onRequest s) = done (({ onRequest s with dies := ds } : State).storeLine { l with key := 0 } va
      (List.replicate 64 true) bs (bit poison 0) (some glaze)) := by
    simp only [handle, hty, hpart, memWriteRawReply, fva, fn, frest]
    rw [guarded_pass]
    · rw [hpages]
      simp only [hrecs, State.storeRaws, setDirty_set hd, rbytes, rglaze, rpoison]
    · have hr := badRange_false (va := va) (a := 64 * 1) (by omega) (by omega)
      have hx := excludes_open ((onRequest_sealed s p).trans hs) va (64 * 1)
      simp only [List.forall_mem_cons, List.not_mem_nil, false_imp_iff, implies_true, and_true, hr, hx, fpad, hlen, ← hpay, flen, hrecs, hrec, ha,
        List.any_cons, List.any_nil, badRecord, rpad, rpoison, Bool.false_and,
        bne_self_eq_false, Bool.or_false, Bool.or_eq_false_iff, decide_eq_false_iff_not, beq_eq_false_iff_ne]
      exact ⟨⟨⟨by omega, by omega⟩, by omega⟩, trivial, by omega⟩
  obtain ⟨hmem, hglaze, hbad⟩ := storeLine_full ({ onRequest s with dies := ds } : State) (l := { l with key := 0 }) rfl hb va (bit poison 0) glaze
  have hwrote := wrote_storeLine ({ onRequest s with dies := ds } : State) { l with key := 0 } va (List.replicate 64 true) bs (bit poison 0)
    (some glaze)
  generalize State.storeLine _ _ _ _ _ _ _ = v at hv hwrote hmem hglaze hbad
  obtain ⟨t, e1, e2, e3⟩ := answered_of_handle (name := "MEM_WRITE_RAW") (due := fun m => m.type == 0x22) h (by simp [hty])
    (allows_stopped hp (by simp) hst) hv
    (congrArg State.want hwrote) ((congrArg State.awaited hwrote).trans (onRequest_awaited s)) (congrArg State.control hwrote :)
  have tmem : t.memory = writeBytes s.memory (l.phys / 64 * 64) bs :=
    (congrArg State.memory e3 :).trans (hmem.trans (congrArg (fun m => writeBytes m _ bs) (onRequest_memory s)))
  have tglaze : t.glaze = v.glaze := (congrArg State.glaze e3 :)
  have tbad : t.badLines = v.badLines := (congrArg State.badLines e3 :)
  refine ⟨t, e1, e2, ?_, fun i hi => ?_, ?_, ?_⟩
  · refine eq_of_nth 0 ((length_readBytes ..).trans hb.symm) (fun i hi => ?_)
    rw [length_readBytes] at hi
    rw [nth_readBytes, if_pos hi, tmem, readByte_writeBytes, if_pos (by omega), Nat.add_sub_cancel_left]
  · rw [tmem, readByte_writeBytes, if_neg (by omega)]
  · rw [tglaze]
    exact hglaze
  · rw [tbad]
    refine hbad.trans ?_
    rcases (by omega : poison = 0 ∨ poison = 1) with rfl | rfl <;> decide

/-- One line and its record read as they are. -/
theorem memReadRaw_answered (hp : p < 16) (hs : (s.part p).sealed_ = false) (hva : va < 2 ^ 55) (ha : va % 64 = 0)
    (hst : (s.part p).state = .running ∨ (s.part p).state = .stopped) (hm : Claims.MapsLine (Claims.received s) p .read va k l)
    (h : Claims.Asks s 0x23 p (toBytes 8 va ++ toBytes 4 1 ++ toBytes 4 0)) :
    ∃ t, exec .memReadRaw s = .next t ∧ t.memory = s.memory
      ∧ Claims.Answered s t 0 (readBytes s.memory (l.phys / 64 * 64) 64
          ++ toBytes 7 ((mget 0 s.glaze (l.phys / 64)).toNat % 2 ^ glazeBits l.grade)
          ++ toBytes 1 (if l.phys / 64 ∈ s.badLines then 1 else 0) ++ toBytes 8 0) := by
  obtain ⟨-, -, hty, hpart, -, -, hpay, hlen, -⟩ := id h
  obtain ⟨fva, fn, fpad, -, flen⟩ := rangeHead (va := va) (n := 1) (rest := []) (by omega) (by omega)
    (hpay.trans (by simp only [List.append_assoc, List.append_nil]))
  have hm' := mapsLine_onRequest hm
  obtain ⟨-, -, -, hk, hsh, -, hgrade⟩ := id hm'
  have hrecord : ∀ ds, ({ onRequest s with dies := ds } : State).rawRecord l
      = (lineRecord (readBytes s.memory (l.phys / 64 * 64) 64) ((mget 0 s.glaze (l.phys / 64)).toNat % 2 ^ glazeBits l.grade)
          (s.badLines.contains (l.phys / 64)), { onRequest s with dies := ds }) := by
    intro ds
    simp only [State.rawRecord, State.rawLine, hgrade, onRequest_memory, onRequest_glaze, onRequest_badLines, Nat.mul_comm 64, ne_eq, not_true,
      if_false]
  have hline : lineRecord (readBytes s.memory (l.phys / 64 * 64) 64) ((mget 0 s.glaze (l.phys / 64)).toNat % 2 ^ glazeBits l.grade)
      (s.badLines.contains (l.phys / 64)) = readBytes s.memory (l.phys / 64 * 64) 64
          ++ toBytes 7 ((mget 0 s.glaze (l.phys / 64)).toNat % 2 ^ glazeBits l.grade)
          ++ toBytes 1 (if l.phys / 64 ∈ s.badLines then 1 else 0) ++ toBytes 8 0 := by
    have flag : [if s.badLines.contains (l.phys / 64) = true then (1 : Byte) else 0] = toBytes 1 (if l.phys / 64 ∈ s.badLines then 1 else 0) := by
      by_cases hb : l.phys / 64 ∈ s.badLines <;> simp [hb, toBytes]
    rw [lineRecord, flag, toBytes_zero]
  obtain ⟨ds, hpages⟩ := checkedPages_line hm' ha
    (fun ls s1 =>
      let r := s1.rawRecords ls
      (some (.ok, r.1), r.2.awaitNotifies ((onRequest s).dispatcher p none) (sharedPoison ls (recordsOf 1 r.1))))
  have hv : handle s.control.arrived (onRequest s) = (some (.ok, readBytes s.memory (l.phys / 64 * 64) 64
          ++ toBytes 7 ((mget 0 s.glaze (l.phys / 64)).toNat % 2 ^ glazeBits l.grade)
          ++ toBytes 1 (if l.phys / 64 ∈ s.badLines then 1 else 0) ++ toBytes 8 0), { onRequest s with dies := ds }) := by
    simp only [handle, hty, hpart, memReadRawReply, fva, fn]
    rw [guarded_pass]
    · rw [hpages]
      simp only [State.rawRecords, hrecord ds, hline, List.append_nil, sharedPoison, recordsOf, List.zip_cons_cons, List.zip_nil_right,
        List.filterMap_cons, List.filterMap_nil, hsh, Bool.false_and, Bool.false_eq_true, if_false, State.awaitNotifies]
    · have hr := badRange_false (va := va) (a := 64 * 1) (by omega) (by omega)
      have hx := excludes_open ((onRequest_sealed s p).trans hs) va (64 * 1)
      simp [hr, hx, fpad, hlen, ← hpay, flen, ha]
  obtain ⟨t, e1, e2, e3⟩ := answered_of_handle (name := "MEM_READ_RAW") (due := fun m => m.type == 0x23) h (by simp [hty])
    (allows_reach hp (by simp) hst) hv rfl (onRequest_awaited s) rfl
  exact ⟨t, e1, (congrArg State.memory e3 :).trans (onRequest_memory s), e2⟩

/-! ### Kiln lines -/

theorem onRequest_dies (s : State) : (onRequest s).dies = s.dies := (congrArg State.dies (received_rest s) :)

theorem onRequest_die (s : State) (d : Nat) : (onRequest s).die d = s.die d := congrArg (fun m => mget ({} : Die) m d) (onRequest_dies s)

theorem onRequest_dieList (s : State) (p : Nat) : ((onRequest s).part p).dieList = (s.part p).dieList := by
  obtain ⟨i, hi⟩ := onRequest_part_image s p
  rw [hi]
  rfl

theorem length_dieList (q : Partition) : q.dieList.length ≤ 16 :=
  (List.length_filter_le ..).trans (by rw [length_upFrom])

/-- The head of a kiln request for one line of slot 0. -/
theorem kilnHead_fields {b rest : List Byte} {die off : Nat} (hd : die < 256) (ho : off < 2 ^ 32)
    (hb : b = toBytes 1 die ++ (toBytes 3 0 ++ (toBytes 4 off ++ (toBytes 4 1 ++ (toBytes 4 0 ++ rest))))) :
    kilnHead b = { die := die, slot := 0, off := off, count := 1 } ∧ dirty b 1 1 = false ∧ dirty b 12 4 = false ∧ b.drop 16 = rest
      ∧ b.length = 16 + rest.length := by
  have hdrop : b.drop 16 = rest := by
    rw [hb, ← List.append_assoc, ← List.append_assoc, ← List.append_assoc, ← List.append_assoc]
    exact List.drop_left' (by simp [length_toBytes])
  refine ⟨?_, ?_, ?_, hdrop, ?_⟩
  · subst hb
    simp [kilnHead, length_toBytes]
    omega
  all_goals subst hb; simp [length_toBytes]; try omega

/-- A head of one line within the kiln is legal. -/
theorem kilnHead_legal {q : Partition} {keys : SMap (BitVec 512)} {most die off : Nat} {b : List Byte} (hd : die < q.dieList.length)
    (ha : off % 64 = 0) (ho : off + 64 ≤ 2 ^ 25) (hm : 1 ≤ most) (h1 : dirty b 1 1 = false) (h2 : dirty b 12 4 = false) :
    KilnHead.bad { die := die, slot := 0, off := off, count := 1 } q keys most b = false := by
  have hmost : ¬ most < 1 := by omega
  have hdie : ¬ q.dieList.length ≤ die := by omega
  have hoff : ¬ 2 ^ 25 < off + 64 * 1 := by omega
  simp only [KilnHead.bad, h1, h2, ha, hmost, hdie, hoff]
  rfl

section
variable {die off : Nat}

theorem kilnRead_answered (hp : p < 16) (hs : (s.part p).sealed_ = false) (hd : die < (s.part p).dieList.length) (ha : off % 64 = 0)
    (ho : off + 64 ≤ 2 ^ 25) (hst : (s.part p).state = .running ∨ (s.part p).state = .stopped)
    (h : Claims.Asks s 0x24 p (toBytes 1 die ++ toBytes 3 0 ++ toBytes 4 off ++ toBytes 4 1 ++ toBytes 4 0)) :
    ∃ t, exec .kilnRead s = .next t
      ∧ Claims.OnlyAnswered s t 0 (readBytes (s.die (nth 0 (s.part p).dieList die)).kiln off 64 ++ toBytes 7 0
          ++ toBytes 1 (if (s.die (nth 0 (s.part p).dieList die)).kilnPoison off 64 then 1 else 0) ++ toBytes 8 0) := by
  obtain ⟨-, -, hty, hpart, -, -, hpay, hlen, -⟩ := id h
  have hdies := length_dieList (s.part p)
  obtain ⟨fhead, f1, f2, -, flen⟩ := kilnHead_fields (die := die) (off := off) (rest := []) (by omega) (by omega)
    (hpay.trans (by simp only [List.append_assoc, List.append_nil]))
  have hsealed : ((onRequest s).part p).sealed_ = false := (onRequest_sealed s p).trans hs
  have hlegal := kilnHead_legal (q := (onRequest s).part p) (keys := (onRequest s).keys) (most := 112) (by rwa [onRequest_dieList]) ha ho (by omega)
    f1 f2
  have hv : handle s.control.arrived (onRequest s) = (some (.ok, readBytes (s.die (nth 0 (s.part p).dieList die)).kiln off 64 ++ toBytes 7 0
      ++ toBytes 1 (if (s.die (nth 0 (s.part p).dieList die)).kilnPoison off 64 then 1 else 0) ++ toBytes 8 0), onRequest s) := by
    simp only [handle, hty, hpart, kilnReadReply, fhead]
    rw [guarded_pass]
    · have flag (b : Bool) : [if b = true then (1 : Byte) else 0] = toBytes 1 (if b = true then 1 else 0) := by cases b <;> rfl
      simp only [upFrom, List.flatMap_cons, List.flatMap_nil, KilnHead.crypt, if_true, Nat.mul_zero, Nat.add_zero, onRequest_dieList, onRequest_die,
        List.append_nil, lineRecord, flag, toBytes_zero]
    · simp [hlegal, hsealed, hlen, length_toBytes]
  exact onlyAnswered_of_handle (name := "KILN_READ") (due := fun m => m.type == 0x24) h (by simp [hty]) (allows_reach hp (by simp) hst) hv

/-- A store into kiln memory that no log takes a record of. -/
theorem writeKiln_unlogged {w : Who} (hj : w.job = none) (s : State) (d off : Nat) (bs : List Byte) (poison : Bool) :
    s.writeKiln w d off bs poison
      = s.mapDie d (fun x => { x with kiln := writeBytes x.kiln off bs, badWords := wordsAfter x.badWords off bs.length poison }) := by
  have none_logged (xs : List (Nat × Nat)) (f : State → Nat × Nat → Nat) (g : State → Nat × Nat → Nat) (r : State → Nat × Nat → List Byte) :
      xs.foldl (fun s p => s.logLine w (f s p) (g s p) (r s p)) s = s := by
    induction xs with
    | nil => rfl
    | cons x xs ih => simpa only [List.foldl_cons, State.logLine, hj] using ih
  unfold State.writeKiln
  exact congrArg (fun u : State => u.mapDie d _) (none_logged (linePieces off bs.length) (fun _ p => 2 ^ 40 + d * 2 ^ 19 + p.1 / 64 * 64 / 64)
    (fun _ p => 1024 + 64 * d + field (p.1 / 64 * 64) 12 7) _)

theorem kilnWrite_answered {bs : List Byte} (hp : p < 16) (hs : (s.part p).sealed_ = false) (hd : die < (s.part p).dieList.length)
    (ha : off % 64 = 0) (ho : off + 64 ≤ 2 ^ 25) (hb : bs.length = 64) (hst : (s.part p).state = .stopped)
    (h : Claims.Asks s 0x25 p (toBytes 1 die ++ toBytes 3 0 ++ toBytes 4 off ++ toBytes 4 1 ++ toBytes 4 0 ++ bs ++ toBytes 16 0)) :
    let d := nth 0 (s.part p).dieList die
    ∃ t, exec .kilnWrite s = .next t ∧ Claims.Answered s t 0 [] ∧ readBytes (t.die d).kiln off 64 = bs
      ∧ (∀ i, i < off ∨ off + 64 ≤ i → readByte (t.die d).kiln i = readByte (s.die d).kiln i)
      ∧ (∀ w, w ∈ (t.die d).badWords ↔ w ∈ (s.die d).badWords ∧ ¬(off / 8 ≤ w ∧ w < off / 8 + 8))
      ∧ (∀ j, j ≠ d → t.die j = s.die j)
      ∧ { t with control := (Claims.received s).control, dies := (Claims.received s).dies } = Claims.received s := by
  intro d
  obtain ⟨-, -, hty, hpart, -, -, hpay, hlen, -⟩ := id h
  have hdies := length_dieList (s.part p)
  obtain ⟨fhead, f1, f2, frest, flen⟩ := kilnHead_fields (die := die) (off := off) (rest := bs ++ toBytes 16 0) (by omega) (by omega)
    (hpay.trans (by simp only [List.append_assoc]))
  have hrec : (bs ++ toBytes 16 0).length = 80 := by simp [length_toBytes, hb]
  have fields : (bs ++ toBytes 16 0).take 64 = bs ∧ le (bs ++ toBytes 16 0) 71 1 = 0 ∧ dirty (bs ++ toBytes 16 0) 72 8 = false
      ∧ dirty (bs ++ toBytes 16 0) 64 7 = false := by
    rw [List.take_left' hb]
    simp [hb]
  obtain ⟨rbytes, rpoison, rpad, rglaze⟩ := fields
  have hsealed : ((onRequest s).part p).sealed_ = false := (onRequest_sealed s p).trans hs
  have hlegal := kilnHead_legal (q := (onRequest s).part p) (keys := (onRequest s).keys) (most := 111) (by rwa [onRequest_dieList]) ha ho (by omega)
    f1 f2
  have hv : handle s.control.arrived (onRequest s) = done ((onRequest s).mapDie d
      (fun x => { x with kiln := writeBytes x.kiln off bs, badWords := wordsAfter x.badWords off bs.length false })) := by
    generalize bs ++ toBytes 16 0 = rec at *
    have hrecs : recordsOf 1 rec = [rec] := by simp [recordsOf, List.take_of_length_le, hrec]
    simp only [handle, hty, hpart, kilnWriteReply, fhead, frest]
    rw [guarded_pass]
    · simp only [hrecs, upFrom, List.zipWith_cons_cons, List.zipWith_nil_left, List.foldl_cons, List.foldl_nil, Nat.mul_zero, Nat.add_zero,
        KilnHead.crypt, if_true, rbytes, rpoison, onRequest_dieList]
      exact congrArg done (writeKiln_unlogged (w := (onRequest s).dispatcher p none) rfl ..)
    · simp [hlegal, hsealed, hlen, length_toBytes, hb, hrecs, badRecord, rpad, rpoison, rglaze]
  obtain ⟨t, e1, e2, e3⟩ := answered_of_handle (name := "KILN_WRITE") (due := fun m => m.type == 0x25) h (by simp [hty])
    (allows_stopped hp (by simp) hst) hv rfl (onRequest_awaited s) rfl
  have tdies : t.dies = (s.setDie d { s.die d with
      kiln := writeBytes (s.die d).kiln off bs, badWords := wordsAfter (s.die d).badWords off bs.length false }).dies := by
    have hmap : (onRequest s).mapDie d
        (fun x => { x with kiln := writeBytes x.kiln off bs, badWords := wordsAfter x.badWords off bs.length false })
        = (onRequest s).setDie d { s.die d with
            kiln := writeBytes (s.die d).kiln off bs, badWords := wordsAfter (s.die d).badWords off bs.length false } := by
      rw [State.mapDie, onRequest_die]
    rw [hmap] at e3
    exact (congrArg State.dies e3 :).trans (congrArg (fun m => mset ({} : Die) m d _) (onRequest_dies s))
  have tdie : t.die d = { s.die d with kiln := writeBytes (s.die d).kiln off bs, badWords := wordsAfter (s.die d).badWords off bs.length false } :=
    (congrArg (fun m => mget ({} : Die) m d) tdies).trans (State.die_setDie_same ..)
  refine ⟨t, e1, e2, ?_, fun i hi => ?_, fun w => ?_, fun j hj => ?_, ?_⟩
  · rw [tdie]
    refine eq_of_nth 0 ((length_readBytes ..).trans hb.symm) (fun i hi => ?_)
    rw [length_readBytes] at hi
    rw [nth_readBytes, if_pos hi, readByte_writeBytes, if_pos (by omega), Nat.add_sub_cancel_left]
  · rw [tdie]
    exact readByte_writeBytes_outside _ _ _ _ (by omega)
  · rw [tdie]
    refine mem_wordsAfter_clean.trans (and_congr_right (fun _ => not_congr ?_))
    omega
  · exact (congrArg (fun m => mget ({} : Die) m j) tdies).trans (State.die_setDie_other _ hj _)
  · refine (congrArg (fun x : State => { x with dies := (Claims.received s).dies }) e3 :).trans ?_
    exact (congrArg (fun x : State => { x with dies := (Claims.received s).dies }) (afterRequest_onRequest s) :)

end

/-! ### DIRTY_SCAN -/

theorem packBits_clean (k : Nat) : ∀ m : Nat, packBits k (List.replicate m false) = List.replicate k 0 := by
  induction k with
  | zero => intro; rfl
  | succ k ih =>
    intro m
    have zeros : ∀ (is : List Nat) (m : Nat), (List.zipWith (fun i b => if b = true then 2 ^ i else 0) is (List.replicate m false)).sum = 0 := by
      intro is
      induction is with
      | nil => intro; rfl
      | cons i is ih =>
        intro m
        cases m with
        | zero => rfl
        | succ m => simpa [List.replicate_succ] using ih m
    rw [packBits, zeros, List.drop_replicate, ih]
    rfl

/-- Nothing is found of a partition whose dirty map is empty. -/
theorem dirtyScan_clean (hp : p < 16) (ha : va % 65536 = 0) (h1 : 1 ≤ n) (hva : va + 65536 * n ≤ 2 ^ 55) (hn : n ≤ 65536)
    (hst : (s.part p).state = .running ∨ (s.part p).state = .stopped) (hmap : (s.part p).dirtyMap = [])
    (h : Claims.Asks s 0x34 p (toBytes 8 va ++ toBytes 4 n ++ toBytes 4 0)) :
    ∃ t, exec .dirtyScan s = .next t ∧ Claims.Answered s t 0 (List.replicate ((n + 7) / 8) 0) ∧ t.memory = s.memory
      ∧ (∀ q, q ≠ p → t.part q = s.part q) ∧ t.part p = (Claims.received s).part p := by
  obtain ⟨-, -, hty, hpart, -, -, hpay, hlen, -⟩ := id h
  obtain ⟨fva, fn, fpad, -, flen⟩ := rangeHead (va := va) (n := n) (rest := []) (by omega) (by omega)
    (hpay.trans (by simp only [List.append_assoc, List.append_nil]))
  have hmap' : ((onRequest s).part p).dirtyMap = [] := by
    obtain ⟨i, hi⟩ := onRequest_part_image s p
    rw [hi]
    exact hmap
  have hnone : ((upFrom 0 n).map (fun i => va + 65536 * i)).map (fun _ => (none : Option Walked)) = List.replicate n none := by
    rw [List.map_map, List.eq_replicate_iff]
    exact ⟨by rw [List.length_map, length_upFrom], by simp⟩
  have hv : handle s.control.arrived (onRequest s)
      = (some (.ok, List.replicate ((n + 7) / 8) 0), (onRequest s).setPart p ((onRequest s).part p)) := by
    simp only [handle, hty, hpart, dirtyScanReply, fva, fn]
    rw [guarded_pass]
    · have hnil : (List.replicate n (none : Option Walked)).filterMap id = [] := List.filterMap_eq_nil_iff.2 (by simp)
      simp only [hmap', List.contains_nil, Bool.false_eq_true, if_false, hnone, hnil, List.foldl_nil, List.map_replicate,
        Option.isSome_none, packBits_clean, State.mapPart, List.filter_nil, ceilDiv]
      have same : { (onRequest s).part p with dirtyMap := [] } = (onRequest s).part p := by rw [← hmap']
      rw [same]
      rfl
    · have hr := badRange_false (va := va) (a := 65536 * n) (by omega) (by omega)
      simp only [List.forall_mem_cons, List.not_mem_nil, false_imp_iff, implies_true, and_true, hr, fpad, hlen, ← hpay, flen, List.length_nil, ha,
        bne_self_eq_false, Bool.or_false, Bool.false_or, Bool.or_eq_false_iff, decide_eq_false_iff_not, beq_eq_false_iff_ne]
      omega
  obtain ⟨t, e1, e2, e3⟩ := answered_of_handle (name := "DIRTY_SCAN") (due := fun m => m.type == 0x34) h (by simp [hty])
    (allows_reach hp (by simp) hst) hv rfl (onRequest_awaited s) rfl
  refine ⟨t, e1, e2, (congrArg State.memory e3 :).trans (onRequest_memory s), fun q hq => ?_, ?_⟩
  · exact (congrArg (fun x : State => x.part q) e3 :).trans ((afterRequest_part ..).trans ((State.part_setPart_other _ hq _).trans
      (received_part_other s (by rwa [hpart]))))
  · exact (congrArg (fun x : State => x.part p) e3 :).trans ((afterRequest_part ..).trans (State.part_setPart_same ..))

/-- A walk goes by the dies of its partition alone. -/
theorem walk_image (s : State) (q : Partition) (i : Option PartialImage) (va m : Nat) :
    ∀ lv table, walk s { q with image := i } va m lv table = walk s q va m lv table := by
  induction m with
  | zero => intros; rfl
  | succ m ih =>
    intro lv table
    have hphys (a : Nat) : physicalOf s.health { q with image := i } a = physicalOf s.health q a := rfl
    simp only [walk, hphys, ih]

/-- What an entry made clean leaves of the state: the memory with its dirty bit clear, and no cache of a die that holds it. -/
theorem clearDirty_eq (s : State) (place : Nat) : ∃ ds ts, s.clearDirty place = { s with
    memory := writeByte s.memory (place + 1) (readByte s.memory (place + 1) &&& 0xEF), dies := ds, tiles := ts }
    ∧ ∀ d, ∀ e ∈ (mget ({} : Die) ds d).cache, e.home ≠ place := by
  refine ⟨_, _, rfl, fun d e he => ?_⟩
  rw [mget_map ({} : Die) (fun _ (x : Die) => { x with cache := x.cache.filter (fun e => e.home != place) }) _ d rfl] at he
  simpa using (List.mem_filter.1 he).2

/-- A dirty page of a region of the map is found, and its entry cleared. -/
theorem dirtyScan_dirty (hp : p < 16) (ha : va % 65536 = 0) (hva : va + 65536 ≤ 2 ^ 55)
    (hst : (s.part p).state = .running ∨ (s.part p).state = .stopped) (hmap : va / 2 ^ 29 ∈ (s.part p).dirtyMap)
    (hw : walk (Claims.received s) (s.part p) va 3 1 (s.part p).root.toNat = .ok k) (hd : k.entry.testBit 12 = true)
    (h : Claims.Asks s 0x34 p (toBytes 8 va ++ toBytes 4 1 ++ toBytes 4 0)) :
    ∃ t, exec .dirtyScan s = .next t ∧ Claims.Answered s t 0 [1]
      ∧ (∀ a, readByte t.memory a = if a = k.place + 1 then readByte s.memory a &&& 0xEF else readByte s.memory a)
      ∧ (∀ d, ∀ e ∈ (t.die d).cache, e.home ≠ k.place) := by
  obtain ⟨-, -, hty, hpart, -, -, hpay, hlen, -⟩ := id h
  obtain ⟨fva, fn, fpad, -, flen⟩ := rangeHead (va := va) (n := 1) (rest := []) (by omega) (by omega)
    (hpay.trans (by simp only [List.append_assoc, List.append_nil]))
  have hentry : (onRequest s).dirtyEntry ((onRequest s).part p) va = some k := by
    obtain ⟨i, hi⟩ := onRequest_part_image s p
    have hw' : walk (onRequest s) { s.part p with image := i } va 3 1 (s.part p).root.toNat = .ok k :=
      (walk_image ..).trans ((walk_congr (s := Claims.received s) rfl rfl rfl ..).trans hw)
    rw [hi]
    simp only [State.dirtyEntry, hw', bit, hd, if_true]
  have hin : ((onRequest s).part p).dirtyMap.contains (va / 2 ^ 29) = true := by
    obtain ⟨i, hi⟩ := onRequest_part_image s p
    rw [hi]
    simpa using hmap
  have hv : ∃ f, handle s.control.arrived (onRequest s) = (some (.ok, [1]), ((onRequest s).clearDirty k.place).mapPart p f) := by
    apply Exists.intro
    simp only [handle, hty, hpart, dirtyScanReply, fva, fn]
    rw [guarded_pass]
    · simp only [upFrom, List.map_cons, List.map_nil, Nat.mul_zero, Nat.add_zero, hin, if_true, hentry, List.filterMap_cons, id, List.filterMap_nil,
        List.foldl_cons, List.foldl_nil, Option.isSome_some]
      rfl
    · have hr := badRange_false (va := va) (a := 65536 * 1) (by omega) (by omega)
      simp [hr, fpad, hlen, ← hpay, flen, ha]
  obtain ⟨f, hv⟩ := hv
  obtain ⟨ds, ts, hclear, hcache⟩ := clearDirty_eq (onRequest s) k.place
  rw [hclear, onRequest_memory] at hv
  obtain ⟨t, e1, e2, e3⟩ := answered_of_handle (name := "DIRTY_SCAN") (due := fun m => m.type == 0x34) h (by simp [hty])
    (allows_reach hp (by simp) hst) hv rfl (onRequest_awaited s) rfl
  have tmem : t.memory = writeByte s.memory (k.place + 1) (readByte s.memory (k.place + 1) &&& 0xEF) := (congrArg State.memory e3 :)
  have tdies : t.dies = ds := (congrArg State.dies e3 :)
  refine ⟨t, e1, e2, fun a => ?_, fun d e he => ?_⟩
  · rw [tmem, readByte_writeByte]
    split
    · next h => rw [h]
    · rfl
  · exact hcache d e (tdies ▸ he)

end

/-! ### The obligation -/

theorem transfersAct : Claims.TransfersAct := by
  intro s p u reach hp hs
  refine ⟨?_, ?_, ?_, ?_, ?_, ?_, ?_⟩
  · intro va k l bs hva h1 hline hst hm hd h
    have hm' := mapsLine_onRequest hm
    have hoff := mapsLine_offset hm'
    obtain ⟨t, e1, e2, e3, e4, -⟩ := memWrite_answered hp hs hva h1 (by omega) (by omega) hst hm
      (by rw [← onRequest_physicalOf]; exact owned_end hm' (by omega) hline) (fun e => absurd (hd.symm.trans e) (by decide)) h
    have hstart : l.phys / 64 * 64 + va % 64 = l.phys := by omega
    rw [hstart]
    refine ⟨t, e1, e2, fun i hi => ?_, fun i hi => ?_, fun n => congrArg (fun m => mget ({} : Tile) m n) (e3 hd)⟩
    · rw [e4, if_pos (by omega), Nat.add_sub_cancel_left]
    · rw [e4, if_neg (by omega), if_neg (by simp [hd])]
  · intro va n k l hva h1 hline hst hm hb h
    have hm' := mapsLine_onRequest hm
    have hoff := mapsLine_offset hm'
    obtain ⟨-, -, -, -, -, -, hgrade⟩ := id hm'
    rw [onRequest_grades] at hgrade
    obtain ⟨t, e1, e2, e3, e4⟩ := memRead_answered hp hs hva h1 (by omega) (by omega) hst hm
      (by rw [← onRequest_physicalOf]; exact owned_end hm' (by omega) hline)
      (fun x h1 h2 => by
        obtain rfl : x = l.phys / 64 := by omega
        exact ⟨hb, hgrade⟩) h
    have hstart : l.phys / 64 * 64 + va % 64 = l.phys := by omega
    rw [hstart]
    exact ⟨t, e1, e2, e3, fun n => congrArg (fun m => mget ({} : Tile) m n) e4⟩
  · intro va k l bs glaze poison hva ha hb hg hpo hst hm hd h
    exact memWriteRaw_answered hp hs hva ha hb hg hpo hst hm hd h
  · intro va k l hva ha hst hm h
    exact memReadRaw_answered hp hs hva ha hst hm h
  · intro die off hd ha ho d head
    exact ⟨fun hst h => kilnRead_answered hp hs hd ha ho hst h, fun bs hb hst h => kilnWrite_answered hp hs hd ha ho hb hst h⟩
  · intro va n ha h1 hva hn hst hmap h
    exact dirtyScan_clean hp ha h1 hva hn hst hmap h
  · intro va k ha hva hst hmap hw hd h
    exact dirtyScan_dirty hp ha hva hst hmap hw hd h

/-- The regions that an entry maps, by the bounds of what it maps (R64). -/
theorem mem_leafRegions {lv va x : Nat} (h1 : 1 ≤ lv) (h3 : lv ≤ 3) :
    ((leafRegions lv va).1 ≤ x ∧ x < (leafRegions lv va).1 + (leafRegions lv va).2)
      ↔ (va / 2 ^ (16 + 13 * (3 - lv)) * 2 ^ (16 + 13 * (3 - lv)) / 2 ^ 29 ≤ x
        ∧ 2 ^ 29 * x < va / 2 ^ (16 + 13 * (3 - lv)) * 2 ^ (16 + 13 * (3 - lv)) + 2 ^ (16 + 13 * (3 - lv))) := by
  rcases (by omega : lv = 1 ∨ lv = 2 ∨ lv = 3) with rfl | rfl | rfl
  · simp only [leafRegions, leafBits, Nat.reduceSub, Nat.reduceMul, Nat.reduceAdd, Nat.reducePow]
    omega
  · simp only [leafRegions, leafBits, Nat.reduceSub, Nat.reduceMul, Nat.reduceAdd, Nat.reducePow]
    omega
  · simp only [leafRegions, leafBits, Nat.reduceSub, Nat.reduceMul, Nat.reduceAdd, Nat.reducePow]
    omega

theorem transfersReachFurther : Claims.TransfersReachFurther := by
  intro s p va k l u reach start hp hs hva hst
  refine ⟨?_, ?_⟩
  · intro bs h1 hpage hmax hm hend hwalk h
    obtain ⟨-, hw, hl, -, -, hf, -⟩ := id hm
    have hoff := mapsLine_offset hm
    obtain ⟨hleaf, -⟩ := leaf_of_checkLeaf hl hf
    have hplace : l.entryAt = k.place := congrArg Leaf.entryAt hleaf
    have hlevel : l.level = k.level := congrArg Leaf.level hleaf
    have hstart : start = l.phys := by simp only [start]; omega
    obtain ⟨hapart, -⟩ := hwalk
    rw [hstart] at hapart ⊢
    obtain ⟨t, e1, e2, e3, e4, e5⟩ := memWrite_answered hp hs hva h1 hpage hmax hst hm hend (fun _ => by omega) h
    refine ⟨fun hd => ⟨t, e1, e2, fun n => congrArg (fun m => mget ({} : Tile) m n) (e3 hd), fun i => ?_⟩,
      fun hd => ⟨t, e1, e2, fun i => ?_, fun x => ?_⟩⟩
    · rw [e4, hd]
      simp
    · rw [e4, hd, hplace]
      simp
    · rw [e5, hd, hlevel]
      obtain ⟨hlo, hhi⟩ := walk_level 3 hw
      simp only [true_and]
      exact or_congr Iff.rfl (mem_leafRegions hlo (by omega))
  · intro n h1 hpage hmax hm hend hlines h
    have hoff := mapsLine_offset hm
    have hstart : start = l.phys := by simp only [start]; omega
    rw [hstart] at hlines ⊢
    obtain ⟨t, e1, e2, e3, e4⟩ := memRead_answered hp hs hva h1 hpage hmax hst hm hend
      (fun x h1 h2 => by
        obtain ⟨j, rfl⟩ := Nat.exists_eq_add_of_le h1
        exact hlines j (by omega)) h
    exact ⟨t, e1, e2, e3, fun n => congrArg (fun m => mget ({} : Tile) m n) e4⟩

/-- Settles O53: the range of a request moves under the leaf of its page, line by line (`memWrite_answered`, `memRead_answered`); the single
line and the raw lines are the case of one piece. -/
theorem transferRequestsAct : Obligations.TransferRequestsAct := ⟨transfersAct, transfersReachFurther⟩

end Sys2Proof.Machine
end

section
/-! PROOF. CHAIN_POST of a record that is its own translation table (O54). The statement lets the table of a partition start anywhere. Where the
first entry lies four bytes before STATUS of the record, the walk of the record holds while STATE is 0, and the STATUS that the post writes
breaks it: CHAIN_POST then reads the record again (R90) under an entry that memory no longer holds, and the free choice of R126 that this
takes is no part of what the statement says that a post changes. MONITOR_LOAD accepts no such table (R52). -/

namespace Sys2Proof.Machine

open Host (Outcome)

/-! ### Translation under an entry that memory no longer holds -/

/-- What a cached entry says of a walk. -/
def CacheEntry.walked (e : CacheEntry) : Walked := { level := e.level, entry := e.entry.toNat, place := e.home }

section
variable {s : State} {w : Who} {va c : Nat} {e : CacheEntry} {l : Leaf}

/-- A cached entry serves, or faults as the walk does: a free bit chooses (R126). -/
theorem translate_stale (hc : s.cachedFor w va = some e) (hw : walk s (s.part w.part) va 3 1 (s.part w.part).root.toNat = .error c)
    (hl : checkLeaf s w .read va e.walked = .ok l) :
    translate s w .read va = (if Config.freeBit s.fresh then .ok l else .error c, s.nextFree) := by
  have hl' : checkLeaf s.nextFree w .read va e.walked = .ok l := hl
  unfold translate State.entryFor
  simp only [hc, Option.map_some, hw]
  cases Config.freeBit s.fresh
  · rfl
  · simp only [if_true, Bool.false_eq_true, if_false]
    rw [show ({ level := e.level, entry := e.entry.toNat, place := e.home } : Walked) = e.walked from rfl, hl']

/-- A line of this module that can be read, whose cached entry memory no longer holds. -/
def Stale (s : State) (w : Who) (va : Nat) : Prop :=
  ∃ e c l, s.cachedFor w va = some e ∧ walk s (s.part w.part) va 3 1 (s.part w.part).root.toNat = .error c
    ∧ checkLeaf s w .read va e.walked = .ok l ∧ l.foreign = false ∧ mget 0 s.grades (l.phys / 64) = l.grade ∧ l.shared = false

theorem Stale.nextFree (h : Stale s w va) : Stale s.nextFree w va := by
  obtain ⟨e, c, l, hc, hw, hrest⟩ := h
  exact ⟨e, c, l, hc, (walk_congr (s := s) rfl rfl rfl ..).trans hw, hrest⟩

/-- A line read under a stale entry takes one free bit, and faults or has no notify to wait for. -/
theorem readPiece_stale (h : Stale s w va) (n : Nat) :
    (∃ c, translate s w .read va = (.error c, s.nextFree))
      ∨ ∃ l g, translate s w .read va = (.ok l, s.nextFree) ∧ s.nextFree.readPiece w .read l va n = (.ok g, s.nextFree) ∧ g.shared = [] := by
  obtain ⟨e, c, l, hc, hw, hl, hf, hg, hsh⟩ := h
  have ht := translate_stale hc hw hl
  cases hb : Config.freeBit s.fresh with
  | false => exact .inl ⟨c, by rw [ht, hb]; rfl⟩
  | true =>
    have hg' : mget 0 s.nextFree.grades (l.phys / 64) = l.grade := hg
    have hstate : (s.nextFree.readHere l va n).2 = s.nextFree := by
      simp only [State.readHere, State.readLine, hg', ne_eq, not_true, if_false]
    have hshared : (s.nextFree.readHere l va n).1.shared = [] := by
      simp only [State.readHere, hsh, Bool.and_false, Bool.false_eq_true, if_false]
    refine .inr ⟨l, (s.nextFree.readHere l va n).1, by rw [ht, hb]; rfl, ?_, hshared⟩
    simp only [State.readPiece, hf, Bool.false_eq_true, if_false, hstate]

/-- A record of two lines read under stale entries takes free bits and changes nothing else. -/
theorem readDispatch_stale {p a : Nat} (ha : a % 128 = 0) (h1 : Stale s (s.dispatcher p none) a) (h2 : Stale s (s.dispatcher p none) (a + 64)) :
    ∃ n, 0 < n ∧ (s.readDispatch p none a 128).2 = { s with fresh := s.fresh + n } := by
  have hpieces : linePieces a 128 = [(a, 64), (a + 64, 64)] := by
    rw [linePieces_cons (by omega), show min 128 (64 - a % 64) = 64 by omega, linePieces_within (by omega) (by omega)]
  unfold State.readDispatch State.readVirtual State.readRange
  rw [hpieces]
  rcases readPiece_stale h1 64 with ⟨c, ht⟩ | ⟨l, g, ht, hr, hg⟩
  · exact ⟨1, by omega, by simp only [State.readPieces, ht]; rfl⟩
  · rcases readPiece_stale h2.nextFree 64 with ⟨c, ht2⟩ | ⟨l2, g2, ht2, hr2, hg2⟩
    · exact ⟨2, by omega, by simp only [State.readPieces, ht, hr, ht2]; rfl⟩
    · refine ⟨2, by omega, ?_⟩
      simp only [State.readPieces, ht, hr, ht2, hr2, Got.append, hg, hg2, List.append_nil, State.awaitNotifies]
      rfl

end

/-! ### The state that refutes the statement -/

/-- The message of a CHAIN_POST of the record at 0x80 to partition 0. -/
def selfPost : Message := { header := BitVec.ofNat 128 (0x30 + 7 * 2 ^ 64 + 8 * 2 ^ 96), payload := toBytes 8 0x80 }

/-- A partition whose table starts at 0xDC, 92 bytes into the record at 0x80: the first entry, a leaf that maps all of class 0x0 below 2^42
onto its own addresses, has the STATUS of the record as its upper half. -/
def selfMapped : State :=
  { State.reset with
    memory := [(0xDC, 0x02), (0xDD, 0x17)]
    parts := [(0, { state := .running, dies := 1, root := 0xDC })]
    control := { State.reset.control with arrived := selfPost, next := some 7 } }

def selfWalked : Walked := { level := 1, entry := 0x1702, place := 0xDC }

/-- The leaf of the record. -/
def selfLeaf : Leaf :=
  { ppa := 0x80, phys := 0x80, key := 0, grade := 0, shared := false, home := 0, foreign := false, entry := 0x1702, entryAt := 0xDC, level := 1 }

def selfRecord : Nat := ofBytes (readBytes (Claims.received selfMapped).memory 0x80 128)

theorem selfMapped_asks : Claims.Asks selfMapped 0x30 0 (toBytes 8 0x80) := by
  unfold Claims.Asks Claims.AsksNothing
  decide +kernel

theorem selfMapped_holdsRecord : Claims.HoldsRecord (Claims.received selfMapped) 0 0x80 selfRecord selfLeaf := by
  refine ⟨?_, ?_, ?_, ⟨selfWalked, ?_, ?_, ?_⟩, ?_, ?_, ?_, ?_, ?_, rfl⟩
  all_goals decide +kernel

/-- The post writes STATUS, which breaks the walk of the record, and the cache of the die holds the entry that it was. -/
theorem selfMapped_post : ∃ v, (onRequest selfMapped).post 0 none 0x80 = (none, v)
    ∧ (v.want = none ∧ v.awaited = [] ∧ v.control = (Claims.received selfMapped).control ∧ v.fresh = 0 ∧ (v.part 0).jobs = [])
    ∧ Stale v (v.dispatcher 0 none) 0x80 ∧ Stale v (v.dispatcher 0 none) 0xC0 := by
  have pair {x : Option Nat × State} (h : x.1 = none) : x = (none, x.2) := Prod.ext h rfl
  refine ⟨_, pair ?_, ?_, ⟨{ part := 0, level := 1, page := 0, entry := 0x1702, home := 0xDC }, 6, selfLeaf, ?_⟩,
    ⟨{ part := 0, level := 1, page := 0, entry := 0x1702, home := 0xDC }, 6, { selfLeaf with ppa := 0xC0, phys := 0xC0 }, ?_⟩⟩
  · decide +kernel
  · decide +kernel
  · decide +kernel
  · decide +kernel

/-- A partition that knows no job logs nothing. -/
theorem logPost_jobless {s : State} {p : Nat} (h : (s.part p).jobs = []) (job a : Nat) : s.logPost p job a = s := by
  unfold State.logPost Partition.job Partition.job?
  rw [h]
  rfl

/-- CHAIN_POST reads the record again, and takes free bits. -/
theorem selfMapped_handle : ∃ (v : State) (n : Nat), 0 < n
    ∧ (v.want = none ∧ v.awaited = [] ∧ v.control = (Claims.received selfMapped).control ∧ v.fresh = 0)
    ∧ handle selfMapped.control.arrived (onRequest selfMapped) = (some (.ok, []), { v with fresh := v.fresh + n }) := by
  obtain ⟨v, hpost, ⟨hwant, hawaited, hcontrol, hfresh, hjobs⟩, h1, h2⟩ := selfMapped_post
  obtain ⟨n, hn, hread⟩ := readDispatch_stale (s := v) (p := 0) (a := 0x80) rfl h1 h2
  have fields : selfMapped.control.arrived.type = 0x30 ∧ selfMapped.control.arrived.part = 0 ∧ le selfMapped.control.arrived.payload 0 8 = 0x80
      ∧ (selfMapped.control.arrived.len != 8 || badRecordAddress 0x80 || decide (2 ^ 55 ≤ 0x80)) = false := by decide
  obtain ⟨htype, hpart, haddr, hlegal⟩ := fields
  refine ⟨v, n, hn, ⟨hwant, hawaited, hcontrol, hfresh⟩, ?_⟩
  simp only [handle, htype, hpart, chainPostReply, haddr]
  rw [guarded_pass (by simpa using hlegal)]
  simp only [hpost]
  generalize v.readDispatch 0 none 0x80 128 = x at hread
  obtain ⟨x, s2⟩ := x
  obtain rfl : s2 = _ := hread
  cases x with
  | error f => rfl
  | ok bs => exact congrArg done (logPost_jobless (s := { v with fresh := v.fresh + n }) hjobs _ _)

theorem selfRecord_posts : selfRecord / 2 ^ 768 % 16 = 0 ∧ Claims.postFault selfRecord = none
    ∧ ((selfMapped.part 0).job (selfRecord / 2 ^ 48 % 4096)).logged = false ∧ (selfMapped.part 0).state = .running := by
  decide +kernel

/-- A post of a record of STATE 0 that passes its checks takes no free bit, as `Posts` has it. -/
theorem posts_fresh {s v : State} {p a r : Nat} {l : Leaf} (hstate : r / 2 ^ 768 % 16 = 0) (hfault : Claims.postFault r = none)
    (h : Claims.Posts s v p a r l) : v.fresh = s.fresh := by
  unfold Claims.Posts at h
  rw [if_neg (by rw [hstate]; decide)] at h
  obtain ⟨-, -, -, -, -, -, hrest⟩ := h
  exact (congrArg State.fresh (hrest hfault) :)

/-- A CHAIN_POST as the statement has it takes no free bit. -/
theorem chainPost_fresh {s u : State} {p a r : Nat} {l : Leaf} (hstate : r / 2 ^ 768 % 16 = 0) (hfault : Claims.postFault r = none)
    (h : ∃ t, exec .chainPost s = .next t ∧ Claims.Answered s t 0 [] ∧ Claims.Posts u { t with control := u.control } p a r l) :
    ∃ t, exec .chainPost s = .next t ∧ t.fresh = u.fresh := by
  obtain ⟨t, ht, -, hp⟩ := h
  exact ⟨t, ht, (posts_fresh hstate hfault hp :)⟩

/-- Refutes O54: with the record its own table, CHAIN_POST takes a free bit as it reads the record again, which `Posts` says it does not. -/
theorem not_workRequestsAct : ¬ Obligations.WorkRequestsAct := by
  intro h
  obtain ⟨hstate, hfault, hlogged, hrunning⟩ := selfRecord_posts
  obtain ⟨-, hpost, -⟩ := h selfMapped 0 (by decide)
  obtain ⟨hrecord, -⟩ := hpost 0x80 (by decide) (by decide) (.inl hrunning) selfMapped_asks
  obtain ⟨t, ht, hsame⟩ := chainPost_fresh hstate hfault (hrecord selfRecord selfLeaf selfMapped_holdsRecord hlogged)
  obtain ⟨v, n, hn, ⟨hwant, hawaited, hcontrol, hfresh⟩, hv⟩ := selfMapped_handle
  have hdue : (selfMapped.control.arrived.type == 0x30) = true := by decide
  have hallows : allows selfMapped 0x30 0 = true := by decide
  obtain ⟨t', e1, -, e3⟩ := answered_of_handle (name := "CHAIN_POST") (due := fun m => m.type == 0x30) selfMapped_asks hdue hallows hv hwant
    hawaited hcontrol
  obtain rfl : t' = t := Outcome.next.inj (e1.symm.trans ht)
  have hnone : t'.fresh = 0 := hsame
  have htaken : t'.fresh = v.fresh + n := (congrArg State.fresh e3 :)
  omega

end Sys2Proof.Machine
end

section
/-! PROOF. What the dispatcher's accesses leave alone (O49). `Holding` is what a message to another module and the end of a step leave alone;
`View` what reads and writes of memory leave alone, the bisque log among them, and its `Core` what posts do too. One lemma per operation of
the model, in the order in which the model defines them. -/

namespace Sys2Proof.Machine

/-! ### Jobs and launches by their keys -/

theorem find?_replaceBy {α : Type} (key : α → Nat) (x : α) (m : Nat) (xs : List α) :
    (replaceBy (fun y => key y == key x) x xs).find? (fun y => key y == m) = if m = key x then some x else xs.find? (fun y => key y == m) := by
  induction xs with
  | nil =>
    by_cases h : m = key x
    · simp [replaceBy, h]
    · simp [replaceBy, h, Ne.symm h]
  | cons y ys ih =>
    unfold replaceBy
    by_cases hy : key y = key x
    · rw [if_pos (by simpa using hy), List.find?_cons, List.find?_cons, hy]
      by_cases h : m = key x
      · rw [if_pos h, h, beq_self_eq_true]
      · rw [if_neg h, beq_eq_false_iff_ne.2 (Ne.symm h)]
    · rw [if_neg (by simpa using hy), List.find?_cons, List.find?_cons, ih]
      by_cases hm : key y = m
      · have hne : ¬ m = key x := fun e => hy (hm.trans e)
        rw [hm, beq_self_eq_true, if_neg hne, if_neg hne]
      · rw [beq_eq_false_iff_ne.2 hm]

theorem mem_of_mem_replaceBy {α : Type} {f : α → Bool} {x y : α} {xs : List α} (h : y ∈ replaceBy f x xs) : y = x ∨ y ∈ xs := by
  induction xs with
  | nil => exact .inl (by simpa [replaceBy] using h)
  | cons z zs ih =>
    unfold replaceBy at h
    split at h
    · exact (List.mem_cons.1 h).imp id (List.mem_cons_of_mem _)
    · rcases List.mem_cons.1 h with rfl | h
      · exact .inr List.mem_cons_self
      · exact (ih h).imp id (List.mem_cons_of_mem _)

theorem Partition.job_num (p : Partition) (n : Nat) : (p.job n).num = n := by
  unfold Partition.job Partition.job?
  cases h : p.jobs.find? (fun j => j.num == n) with
  | none => rfl
  | some j => simpa using List.find?_some h

theorem Partition.job_setJob (p : Partition) (x : Job) (m : Nat) : (p.setJob x).job m = if m = x.num then x else p.job m := by
  show ((replaceBy (fun y : Job => y.num == x.num) x p.jobs).find? (fun y => y.num == m)).getD { num := m } = _
  rw [find?_replaceBy Job.num]
  split <;> rfl

theorem Partition.job_setJob_same (p : Partition) {x : Job} {m : Nat} (h : x.num = m) : (p.setJob x).job m = x := by
  rw [Partition.job_setJob, if_pos h.symm]

theorem Partition.launch?_setLaunch (p : Partition) (x : Launch) (a : Nat) :
    (p.setLaunch x).launch? a = if a = x.addr then some x else p.launch? a := find?_replaceBy Launch.addr ..

theorem Partition.launch?_addr {p : Partition} {a : Nat} {l : Launch} (h : p.launch? a = some l) : l.addr = a := by
  simpa using List.find?_some h

/-! ### What a message to another module leaves alone -/

structure Holding where
  memory : Memory
  control : Control
  errors : List (BitVec 256)
  count : Nat
  part : Nat → Partition

/-- The memory, the port and the error log of a state, and its partitions but for their routes and reservations. -/
def State.holding (s : State) : Holding :=
  { memory := s.memory, control := s.control, errors := s.errors, count := s.errorCount
    part := fun q => { s.part q with config := {}, reserved := none } }

section
variable {s t : State}

theorem State.holding_setPart (s : State) {n : Nat} {x : Partition}
    (h : { x with config := {}, reserved := none } = { s.part n with config := {}, reserved := none }) : (s.setPart n x).holding = s.holding := by
  have parts : (fun q => { (s.setPart n x).part q with config := {}, reserved := none })
      = fun q => { s.part q with config := {}, reserved := none } := by
    funext q
    rw [State.part_setPart]
    split
    · next e => rw [e, h]
    · rfl
  show ({ memory := s.memory, control := s.control, errors := s.errors, count := s.errorCount, part := _ } : Holding) = _
  rw [parts]
  rfl

theorem State.sendFlit_holding {f : Flit} (h : s.sendFlit f = some t) : t.holding = s.holding := by
  unfold State.sendFlit at h
  split at h
  · cases h
  · split at h
    · cases h
      exact s.holding_setPart rfl
    · cases h
      rfl

theorem State.request_holding {f : Flit} {n : Nat} (h : s.request f = some (n, t)) : t.holding = s.holding := by
  simp only [State.request, Option.map_eq_some_iff, Prod.mk.injEq] at h
  obtain ⟨a, ha, -, rfl⟩ := h
  exact (State.sendFlit_holding ha :)

theorem State.notifyEach_holding (part job va : Nat) (ds : List Nat) :
    ∀ s : State, (s.notifyEach part job va ds).2.holding = s.holding := by
  induction ds with
  | nil => intro s; rfl
  | cons d ds ih =>
    intro s
    unfold State.notifyEach
    split
    · next e => exact (ih _).trans (State.request_holding e)
    · exact ih s

theorem State.ask_holding (s : State) (q : Awaited) : (s.ask q).2.holding = s.holding := by
  unfold State.ask
  split
  · exact State.notifyEach_holding ..
  · split
    · rfl
    · next e => exact State.request_holding e

theorem State.giveBack_holding (s : State) (q : Awaited) (a : Answer) : (s.giveBack q a).holding = s.holding := by
  unfold State.giveBack
  split
  · split
    · dsimp only
      split
      · exact s.ask_holding _
      · exact s.ask_holding _
    · rfl
  · rfl

theorem State.leaveBehind_holding (s : State) (q : Awaited) : (s.leaveBehind q).holding = s.holding := by
  unfold State.leaveBehind
  split
  · rfl
  · rfl
  · exact s.giveBack_holding ..

theorem State.abandon_holding (s : State) (which : Awaited → Bool) : (s.abandon which).holding = s.holding := by
  have leave (qs : List Awaited) : ∀ u : State, (qs.foldl State.leaveBehind u).holding = u.holding := by
    induction qs with
    | nil => intro u; rfl
    | cons q qs ih => intro u; exact (ih _).trans (u.leaveBehind_holding q)
  unfold State.abandon
  split
  · exact leave _ _
  · rfl

theorem State.settleRoutes_holding (s : State) (part job : Nat) (discard : Bool) : (s.settleRoutes part job discard).holding = s.holding :=
  s.holding_setPart rfl

theorem State.dropFlits_holding (s : State) (part job : Nat) : (s.dropFlits part job).holding = s.holding := by
  have h := s.holding_setPart (n := part) (x := { s.part part with config := { (s.part part).config with
    routes := (s.part part).config.routes.map (fun r => { r with waiting := r.waiting.filter (fun f => f.job != job) }) } }) rfl
  exact h

theorem State.strand_holding (s : State) (qs : List Awaited) : (s.strand qs).holding = s.holding := by
  unfold State.strand
  split
  · rfl
  · rfl

/-- A rollback's first step changes nothing that is held but the writes that the job waits for. -/
theorem State.stopTasks_holding (s : State) (part job : Nat) :
    (s.stopTasks part job).holding
      = (s.mapPart part (fun p => p.setJob { p.job job with draining := s.unanswered part job })).holding :=
  (State.abandon_holding ..).trans ((State.settleRoutes_holding ..).trans ((State.dropFlits_holding ..).trans
    (State.strand_holding (s.mapPart part (fun p => p.setJob { p.job job with draining := s.unanswered part job })) (s.jobStrays part job))))

theorem State.requestPreemption_holding (s : State) (part : Nat) : (s.requestPreemption part).holding = s.holding := by
  unfold State.requestPreemption
  dsimp only
  repeat' split
  all_goals rfl

theorem State.reserve_holding (s : State) (part : Nat) : (s.reserve part).holding = s.holding := by
  unfold State.reserve
  dsimp only
  split
  · rfl
  · exact s.holding_setPart rfl

/-- Where the holdings agree, so do the partitions but for their routes and reservations. -/
theorem part_of_holding (h : t.holding = s.holding) (q : Nat) :
    { t.part q with config := {}, reserved := none } = { s.part q with config := {}, reserved := none } :=
  congrFun (congrArg Holding.part h) q

theorem jobs_of_holding (h : t.holding = s.holding) (q : Nat) : (t.part q).jobs = (s.part q).jobs :=
  (congrArg Partition.jobs (part_of_holding h q) :)

theorem job_of_holding (h : t.holding = s.holding) (q n : Nat) : (t.part q).job n = (s.part q).job n := by
  unfold Partition.job Partition.job?
  rw [jobs_of_holding h]

theorem launches_of_holding (h : t.holding = s.holding) (q : Nat) : (t.part q).launches = (s.part q).launches :=
  (congrArg Partition.launches (part_of_holding h q) :)

theorem memory_of_holding (h : t.holding = s.holding) : t.memory = s.memory := congrArg Holding.memory h

theorem errors_of_holding (h : t.holding = s.holding) : t.errors = s.errors ∧ t.errorCount = s.errorCount :=
  ⟨congrArg Holding.errors h, congrArg Holding.count h⟩

/-! ### What reads and writes leave alone -/

/-- A job that runs, whether it quiesces, runs alone or neither. -/
def JobState.still : JobState → JobState
  | .serial => .open_
  | .quiescing => .open_
  | x => x

/-- A job without what its log, its checkpoints and its first writes change. -/
def Job.still (j : Job) : Job := { j with records := 0, filters := [], asked := [], state := j.state.still }

theorem Job.eq_of_still {a b : Job} (h : a.still = b.still) :
    a = { b with records := a.records, filters := a.filters, asked := a.asked, state := a.state } := by
  cases a
  cases b
  simp only [Job.still, Job.mk.injEq] at h ⊢
  obtain ⟨hn, -, hl, -, -, -, hrest⟩ := h
  exact ⟨hn, trivial, hl, trivial, trivial, trivial, hrest⟩

theorem Job.still_quiesce (j : Job) : j.quiesce.still = j.still := by
  unfold Job.quiesce
  split
  · next h =>
    unfold Job.still
    rcases h with h | h <;> rw [h] <;> rfl
  · rfl

theorem Job.quiesce_num (j : Job) : j.quiesce.num = j.num := by
  unfold Job.quiesce
  split <;> rfl

/-- A partition without its jobs, launches, routes and reservations, and without its dirty map. -/
def Partition.frame (p : Partition) : Partition := { p with config := {}, dirtyMap := [], launches := [], jobs := [], reserved := none }

structure Core where
  control : Control
  part : Nat → Partition
  job : Nat → Nat → Job

structure View where
  core : Core
  errors : List (BitVec 256)
  count : Nat
  launches : Nat → List Launch

def State.core (s : State) : Core :=
  { control := s.control, part := fun q => (s.part q).frame, job := fun q n => ((s.part q).job n).still }

def State.view (s : State) : View :=
  { core := s.core, errors := s.errors, count := s.errorCount, launches := fun q => (s.part q).launches }

theorem view_of_holding (h : t.holding = s.holding) : t.view = s.view := by
  have frames : (fun q => (t.part q).frame) = fun q => (s.part q).frame :=
    funext (fun q => (congrArg Partition.frame (part_of_holding h q) :))
  have jobs : (fun q n => ((t.part q).job n).still) = fun q n => ((s.part q).job n).still :=
    funext (fun q => funext (fun n => congrArg Job.still (job_of_holding h q n)))
  have launches : (fun q => (t.part q).launches) = fun q => (s.part q).launches := funext (launches_of_holding h)
  simp only [State.view, State.core, frames, jobs, launches, errors_of_holding h, show t.control = s.control from congrArg Holding.control h]

theorem State.view_setPart (s : State) {n : Nat} {x : Partition} (hf : x.frame = (s.part n).frame) (hl : x.launches = (s.part n).launches)
    (hj : ∀ m, (x.job m).still = ((s.part n).job m).still) : (s.setPart n x).view = s.view := by
  have frames : (fun q => ((s.setPart n x).part q).frame) = fun q => (s.part q).frame := by
    funext q
    rw [State.part_setPart]
    split
    · next e => rw [e, hf]
    · rfl
  have jobs : (fun q m => (((s.setPart n x).part q).job m).still) = fun q m => ((s.part q).job m).still := by
    funext q m
    rw [State.part_setPart]
    split
    · next e => rw [e, hj]
    · rfl
  have launches : (fun q => ((s.setPart n x).part q).launches) = fun q => (s.part q).launches := by
    funext q
    rw [State.part_setPart]
    split
    · next e => rw [e, hl]
    · rfl
  simp only [State.view, State.core, frames, jobs, launches]
  rfl

/-- A job replaced by one that is the same but for its log and its checkpoints. -/
theorem State.view_setJob (s : State) (n : Nat) {x : Job} (h : x.still = ((s.part n).job x.num).still) :
    (s.setPart n ((s.part n).setJob x)).view = s.view := by
  refine s.view_setPart rfl rfl (fun m => ?_)
  rw [Partition.job_setJob]
  split
  · next e => rw [e, h]
  · rfl

/-- A state that shows a view. -/
def Sees (v : View) (s : State) : Prop := s.view = v

variable {v : View}

theorem Sees.of_holding (h : Sees v s) (k : t.holding = s.holding) : Sees v t := (view_of_holding k).trans h

/-- The state of a result that names it. -/
theorem Sees.snd {α : Type} {r : α × State} {x : α} (h : Sees v r.2) (e : r = (x, t)) : Sees v t := by
  subst e
  exact h

theorem Sees.ite {c : Prop} [Decidable c] (hs : Sees v s) (ht : Sees v t) : Sees v (if c then s else t) := by
  split
  · exact hs
  · exact ht

theorem Sees.setJob (h : Sees v s) (q : Nat) {x : Job} {n : Nat} (hn : x.num = n) (hx : x.still = ((s.part q).job n).still) :
    Sees v (s.mapPart q (fun p => p.setJob x)) := (s.view_setJob q (hn ▸ hx)).trans h

theorem Sees.job (hs : Sees v s) (ht : Sees v t) (q n : Nat) : ((t.part q).job n).still = ((s.part q).job n).still :=
  congrFun (congrFun (congrArg (fun v => v.core.job) (ht.trans hs.symm)) q) n

theorem Sees.addCause (h : Sees v s) (c : Cause) : Sees v (s.addCause c) := h

theorem Sees.keepEntry (h : Sees v s) (w : Who) (va : Nat) (k : Walked) : Sees v (s.keepEntry w va k) := by
  unfold State.keepEntry
  split
  · exact h
  · exact h

theorem Sees.entryFor (h : Sees v s) (w : Who) (va : Nat) : Sees v (s.entryFor w va).2 := by
  unfold State.entryFor
  dsimp only
  repeat' split
  all_goals exact h

theorem Sees.translate (h : Sees v s) (w : Who) (r : Right) (va : Nat) : Sees v (translate s w r va).2 := by
  unfold Machine.translate
  split
  · next e => exact (h.entryFor ..).snd e
  · next e =>
    have h1 := (h.entryFor ..).snd e
    split
    · exact h1
    · exact Sees.ite (h1.keepEntry ..) h1

theorem Sees.setDirty (h : Sees v s) (w : Who) (va : Nat) (l : Leaf) : Sees v (s.setDirty w va l) := by
  unfold State.setDirty
  split
  · exact h
  · have hmap := s.view_setPart (n := w.part) (x := { s.part w.part with
      dirtyMap := addRange (leafRegions l.level va).1 (leafRegions l.level va).2 (s.part w.part).dirtyMap }) rfl rfl (fun _ => rfl)
    exact hmap.trans h

theorem Sees.readLine (h : Sees v s) (l : Leaf) (va : Nat) : Sees v (s.readLine l va).2 := by
  unfold State.readLine
  dsimp only
  split
  · exact h
  · exact h

theorem Sees.readHere (h : Sees v s) (l : Leaf) (a n : Nat) : Sees v (s.readHere l a n).2 := h.readLine ..

theorem Sees.storeLine (h : Sees v s) (l : Leaf) (va : Nat) (mask : List Bool) (bs : List Byte) (poison : Bool) (glaze : Option Nat) :
    Sees v (s.storeLine l va mask bs poison glaze) := h

theorem Sees.logLeaf (h : Sees v s) (w : Who) (va : Nat) : Sees v (logLeaf s w va).2 := by
  unfold Machine.logLeaf
  split
  · next e =>
    have h1 := (h.translate ..).snd e
    split
    · exact h1
    · exact h1
  · next e => exact (h.translate ..).snd e

theorem Sees.writeLog {w : Who} {ps : List (Nat × Nat)} {bs : List Byte} (h : Sees v s) (e : writeLog s w ps bs = .ok t) : Sees v t := by
  induction ps generalizing s bs with
  | nil => cases e; exact h
  | cons p ps ih =>
    unfold Machine.writeLog at e
    split at e
    · cases e
    · next e1 => exact ih ((((h.logLeaf ..).snd e1).setDirty ..).storeLine ..) e

theorem Sees.appendLog (h : Sees v s) (w : Who) (job : Nat) (bs : List Byte) : Sees v (s.appendLog w job bs) := by
  unfold State.appendLog
  dsimp only
  split
  · exact h
  · split
    · exact h
    · split
      · exact h
      · next e =>
        have h1 := h.writeLog e
        have same := h.job h1 w.part job
        refine h1.setJob _ (n := job) ?_ ?_
        · split
          · exact (Job.quiesce_num _).trans (Partition.job_num ..)
          · exact Partition.job_num ..
        · split
          · exact (Job.still_quiesce _).trans same.symm
          · exact same.symm

theorem Sees.logLine (h : Sees v s) (w : Who) (key home : Nat) (bs : List Byte) : Sees v (s.logLine w key home bs) := by
  unfold State.logLine
  dsimp only
  split
  · exact h
  · next n _ =>
    split
    · exact h
    · refine Sees.appendLog (h.setJob _ (n := n) ?_ ?_) ..
      · split
        · exact Partition.job_num ..
        · exact Partition.job_num ..
      · split
        · rfl
        · rfl

theorem Sees.writePiece (h : Sees v s) (w : Who) (l : Leaf) (a : Nat) (mask : List Bool) (bs : List Byte) (poison : Bool)
    (glaze : Option Nat) : Sees v (s.writePiece w l a mask bs poison glaze) :=
  ((h.setDirty ..).logLine ..).storeLine ..

/-! ### Accesses of other modules' memory -/

theorem Sees.request {f : Flit} {n : Nat} (h : Sees v s) (e : s.request f = some (n, t)) : Sees v t :=
  h.of_holding (State.request_holding e)

theorem Sees.askHome {w : Who} {l : Leaf} {c : Cargo} {n : Nat} (h : Sees v s) (e : s.askHome w l c = some (n, t)) : Sees v t := by
  unfold State.askHome at e
  split at e
  · exact h.request e
  · cases e

theorem Sees.await (h : Sees v s) (q : Awaited) : Sees v (s.await q).2 := by
  unfold State.await
  dsimp only
  repeat' split
  all_goals exact h

theorem Sees.awaitHome (h : Sees v s) (w : Who) (l : Leaf) (c : Cargo) : Sees v (s.awaitHome w l c).2 := by
  unfold State.awaitHome
  split
  · exact h.await _
  · exact h

theorem Sees.awaitNotifies (h : Sees v s) (w : Who) (as : List Nat) : Sees v (s.awaitNotifies w as) := by
  induction as generalizing s with
  | nil => exact h
  | cons a as ih => exact ih (h.await _)

/-! ### Reads -/

theorem Sees.readPiece (h : Sees v s) (w : Who) (r : Right) (l : Leaf) (a n : Nat) : Sees v (s.readPiece w r l a n).2 := by
  unfold State.readPiece
  split
  · split
    · next e => split <;> exact (h.awaitHome ..).snd e
    · next e => exact (h.awaitHome ..).snd e
  · exact h.readHere l a n

theorem Sees.readPieces (h : Sees v s) (w : Who) (r : Right) (ps : List (Nat × Nat)) : Sees v (s.readPieces w r ps).2 := by
  induction ps generalizing s with
  | nil => exact h
  | cons p ps ih =>
    unfold State.readPieces
    split
    · next e => exact (h.translate ..).snd e
    · next e =>
      have h1 := (h.translate ..).snd e
      split
      · next e1 => exact (h1.readPiece ..).snd e1
      · next e1 =>
        have h2 := (h1.readPiece ..).snd e1
        split
        · next e2 => exact (ih h2).snd e2
        · next e2 => exact (ih h2).snd e2

theorem Sees.readVirtual (h : Sees v s) (w : Who) (r : Right) (va n : Nat) : Sees v (s.readVirtual w r va n).2 := by
  unfold State.readVirtual State.readRange
  have h1 := h.readPieces w r (linePieces va n)
  generalize s.readPieces w r (linePieces va n) = x at h1
  obtain ⟨g | g, u⟩ := x
  · exact h1
  · exact h1.awaitNotifies ..

theorem Sees.readDispatch (h : Sees v s) (part : Nat) (job : Option Nat) (va n : Nat) : Sees v (s.readDispatch part job va n).2 := by
  unfold State.readDispatch
  split
  · next e => exact (h.readVirtual ..).snd e
  · next e => exact (h.readVirtual ..).snd e

theorem Sees.statusAt (h : Sees v s) (part : Nat) (job : Option Nat) (addr : Nat) : Sees v (s.statusAt part job addr).2 := by
  unfold State.statusAt
  split
  · next e => exact (h.readDispatch ..).snd e
  · next e => exact (h.readDispatch ..).snd e

/-! ### Writes -/

theorem Sees.writePieces (h : Sees v s) (w : Who) (poison : Bool) (ps : List (Nat × Nat)) (bs : List Byte) :
    Sees v (s.writePieces w poison ps bs).2 := by
  induction ps generalizing s bs with
  | nil => exact h
  | cons p ps ih =>
    unfold State.writePieces
    split
    · next e => exact (h.translate ..).snd e
    · next e =>
      have h1 := (h.translate ..).snd e
      split
      · split
        · next e1 =>
          have h2 := (h1.awaitHome ..).snd e1
          split
          · exact h2
          · exact ih h2 _
        · next e1 => exact (h1.awaitHome ..).snd e1
      · exact ih (h1.writePiece ..) _

theorem Sees.writeVirtual (h : Sees v s) (w : Who) (va : Nat) (bs : List Byte) (poison : Bool) : Sees v (s.writeVirtual w va bs poison).2 :=
  h.writePieces ..

theorem Sees.writeUnawaited (h : Sees v s) (w : Who) (va : Nat) (bs : List Byte) : Sees v (s.writeUnawaited w va bs) := by
  unfold State.writeUnawaited
  split
  · next e => exact (h.translate ..).snd e
  · next e =>
    have h1 := (h.translate ..).snd e
    dsimp only
    split
    · split
      · next e1 => exact (h1.askHome e1).of_holding (State.strand_holding ..)
      · exact h1
    · exact h1.writePiece ..

theorem Sees.writeDispatch (h : Sees v s) (part job rec_ va : Nat) (bs : List Byte) : Sees v (s.writeDispatch part job rec_ va bs) := by
  unfold State.writeDispatch
  split
  · next e => exact (h.writeVirtual ..).snd e
  · next e => exact ((h.writeVirtual ..).snd e).addCause _

theorem Sees.logPost (h : Sees v s) (part job addr : Nat) : Sees v (s.logPost part job addr) := by
  unfold State.logPost
  split
  · exact h.appendLog ..
  · exact h

/-! ### Replays -/

theorem Sees.restoreLine (h : Sees v s) (p : Partition) (own addr glaze : Nat) (poison : Bool) (bs : List Byte) :
    Sees v (s.restoreLine p own addr glaze poison bs) := by
  unfold State.restoreLine
  split
  · exact h
  · exact h

theorem Sees.restoreKiln (h : Sees v s) (p : Partition) (addr : Nat) (poison : Bool) (bs : List Byte) :
    Sees v (s.restoreKiln p addr poison bs) := by
  unfold State.restoreKiln
  split
  · exact h
  · exact h

theorem Sees.applyRecord (h : Sees v s) (p : Partition) (own : Nat) (posts : List Nat) (bs : List Byte) :
    Sees v (s.applyRecord p own posts bs).2 := by
  unfold State.applyRecord
  dsimp only
  split
  · exact h.restoreLine ..
  · exact h.restoreKiln ..
  · exact h
  · exact h

theorem Sees.replayRecords (h : Sees v s) (part own : Nat) (w : Who) (f : LogFields) (n : Nat) (posts : List Nat) :
    Sees v (s.replayRecords part own w f n posts).2 := by
  induction n generalizing s posts with
  | zero => exact h
  | succ n ih =>
    unfold State.replayRecords
    split
    · next e => exact (h.readVirtual ..).snd e
    · next e =>
      have h1 := (h.readVirtual ..).snd e
      split
      · exact h1
      · exact ih (h1.applyRecord ..) _

theorem Sees.readList (h : Sees v s) (w : Who) (va n : Nat) : Sees v (s.readList w va n).2 := by
  unfold State.readList
  split
  · next e => exact (h.readVirtual ..).snd e
  · next e =>
    have h1 := (h.readVirtual ..).snd e
    split
    · exact h1
    · exact h1

theorem Sees.readPending (h : Sees v s) (w : Who) (f : LogFields) : Sees v (s.readPending w f).2 := by
  unfold State.readPending
  split
  · next e => exact (h.readList ..).snd e
  · next e =>
    have h1 := (h.readList ..).snd e
    dsimp only
    split
    · next e1 => exact (h1.readList ..).snd e1
    · next e1 => exact (h1.readList ..).snd e1

end

end Sys2Proof.Machine
end

section
/-! PROOF. What posts leave alone, the entries of the error log, and how a step of the dispatcher ends in a partition that nothing disturbs
(O49). -/

namespace Sys2Proof.Machine

open Host (Outcome)

section
variable {s t : State} {c : Core}

/-! ### Entries of the error log -/

/-- The fields of an entry. -/
theorem errorEntry_fields (time addr info code part die tile index : Nat) :
    (errorEntry time addr info code part die tile index).toNat / 2 ^ 48 % 2 ^ 16 = code % 2 ^ 16
      ∧ (errorEntry time addr info code part die tile index).toNat / 2 ^ 64 % 2 ^ 64 = info % 2 ^ 64
      ∧ (errorEntry time addr info code part die tile index).toNat / 2 ^ 128 % 2 ^ 64 = addr % 2 ^ 64 := by
  have hn : (errorEntry time addr info code part die tile index).toNat
      = index % 2 ^ 16 + 2 ^ 16 * (die % 16) + 2 ^ 20 * (tile % 1024) + 2 ^ 40 * (part % 256) + 2 ^ 48 * (code % 2 ^ 16)
        + 2 ^ 64 * (info % 2 ^ 64) + 2 ^ 128 * (addr % 2 ^ 64) + 2 ^ 192 * (time % 2 ^ 64) := by
    rw [errorEntry, BitVec.toNat_ofNat]
    apply Nat.mod_eq_of_lt
    omega
  refine ⟨?_, ?_, ?_⟩
  · omega
  · omega
  · omega

/-- The last entry of a log to which one has been added. -/
theorem logError_last (s : State) (code info addr part die tile : Nat) :
    (s.logError code info addr part die tile).errors.getLast? = some (errorEntry s.timeBase.toNat addr info code part die tile s.errorCount)
      ∧ (s.logError code info addr part die tile).errorCount = s.errorCount + 1 := by
  simp [State.logError]

/-- A state whose error log is that of another with one more entry. -/
theorem enters_of_logModule {u : State} {code info addr part : Nat} (hc : u.errorCount = s.errorCount)
    (he : t.errors = (u.logModule code info addr part).errors) (hn : t.errorCount = (u.logModule code info addr part).errorCount) :
    Claims.Enters s t (code % 2 ^ 16) addr := by
  obtain ⟨h1, h2⟩ := logError_last u code info addr part 0 0x3FE
  obtain ⟨f1, -, f3⟩ := errorEntry_fields u.timeBase.toNat addr info code part 0 0x3FE u.errorCount
  exact ⟨hn.trans (h2.trans (congrArg (· + 1) hc)), _, (congrArg List.getLast? he).trans h1, f1, f3⟩

/-! ### Posts -/

/-- A state with a core. -/
def Bears (c : Core) (s : State) : Prop := s.core = c

/-- An access keeps the core. -/
theorem Bears.access (h : Bears c s) (k : ∀ v, Sees v s → Sees v t) : Bears c t := (congrArg View.core (k _ rfl)).trans h

theorem Bears.setLaunch (h : Bears c s) (n : Nat) (l : Launch) : Bears c (s.mapPart n (fun p => p.setLaunch l)) := by
  have frames : (fun q => ((s.mapPart n (fun p => p.setLaunch l)).part q).frame) = fun q => (s.part q).frame := by
    funext q
    rw [State.mapPart, State.part_setPart]
    split
    · next e => rw [e]; rfl
    · rfl
  have jobs : (fun q m => (((s.mapPart n (fun p => p.setLaunch l)).part q).job m).still) = fun q m => ((s.part q).job m).still := by
    funext q m
    rw [State.mapPart, State.part_setPart]
    split
    · next e => rw [e]; rfl
    · rfl
  unfold Bears State.core
  rw [frames, jobs]
  exact h

theorem Bears.logModule (h : Bears c s) (code info addr part : Nat) : Bears c (s.logModule code info addr part) := h

theorem Bears.nextFree (h : Bears c s) : Bears c s.nextFree := h

theorem Bears.writeLaunch (h : Bears c s) (part : Nat) (l : Launch) : Bears c (s.writeLaunch part l) :=
  (h.setLaunch part l).access (fun _ k => k.writeDispatch ..)

theorem Bears.reject (h : Bears c s) (part : Nat) (l : Launch) (info : Nat) : Bears c (s.reject part l info) :=
  (h.logModule ..).writeLaunch ..

theorem Bears.post (h : Bears c s) (part : Nat) (job : Option Nat) (addr : Nat) : Bears c (s.post part job addr).2 := by
  have hr (w : Who) : Bears c (s.readVirtual w .read addr 128).2 := h.access (fun _ k => k.readVirtual ..)
  unfold State.post
  dsimp only
  split
  · next e =>
    have h1 := hr (s.dispatcher part job)
    rw [e] at h1
    exact h1.logModule ..
  · next s1 e =>
    have h1 := hr (s.dispatcher part job)
    rw [e] at h1
    have ht : Bears c (translate s1 (s.dispatcher part job) .write addr).2 := h1.access (fun _ k => k.translate ..)
    split
    · next e1 =>
      rw [e1] at ht
      exact ht.logModule ..
    · next e1 =>
      rw [e1] at ht
      split
      · exact ht
      · dsimp only
        split
        · exact ht.reject ..
        · exact ht.writeLaunch ..

/-- The posts of the successors of a record. -/
theorem postAll_eq_foldl (part job : Nat) (as : List Nat) :
    ∀ s : State, s.postAll part job as = as.foldl (fun s a => (s.post part (some job) a).2) s := by
  induction as with
  | nil => intro s; rfl
  | cons a as ih => intro s; exact ih _

theorem Bears.foldl {α : Type} {f : State → α → State} (hf : ∀ u a, Bears c u → Bears c (f u a)) (xs : List α) (h : Bears c s) :
    Bears c (xs.foldl f s) := by
  induction xs generalizing s with
  | nil => exact h
  | cons x xs ih => exact ih (hf s x h)

theorem repost_eq (part job : Nat) (as : List Nat) : ∀ s : State, s.repost part job as = Claims.reposts s part job as := by
  induction as with
  | nil => intro s; rfl
  | cons a as ih => intro s; exact ih _

theorem Bears.reposts (h : Bears c s) (part job : Nat) (as : List Nat) : Bears c (Claims.reposts s part job as) :=
  Bears.foldl (fun _ _ k => (k.post ..).access (fun _ j => j.logPost ..)) as h

/-! ### What cores agree on -/

theorem job_of_core (h : t.core = s.core) (q n : Nat) : ((t.part q).job n).still = ((s.part q).job n).still :=
  congrFun (congrFun (congrArg Core.job h) q) n

theorem frame_of_core (h : t.core = s.core) (q : Nat) : (t.part q).frame = (s.part q).frame := congrFun (congrArg Core.part h) q

theorem control_of_core (h : t.core = s.core) : t.control = s.control := congrArg Core.control h

theorem stopping_of_core (h : t.core = s.core) (q : Nat) : (t.part q).stopping = (s.part q).stopping :=
  (congrArg Partition.stopping (frame_of_core h q) :)

theorem undisturbed_of_core {p : Nat} (h : t.core = s.core) (hs : Claims.Undisturbed s p) : Claims.Undisturbed t p := by
  obtain ⟨h1, h2, h3, h4⟩ := hs
  have hf := frame_of_core h p
  exact ⟨(stopping_of_core h p).trans h1, (congrArg Partition.forced hf :).trans h2, (congrArg Partition.imported hf :).trans h3,
    (congrArg Control.waiting (control_of_core h)).trans h4⟩

theorem core_of_holding (h : t.holding = s.holding) : t.core = s.core := congrArg View.core (view_of_holding h)

/-! ### The end of a step -/

/-- Nothing waits for the end of a step in a partition that nothing disturbs: what is reserved is looked at again, and that is all. -/
theorem settle_undisturbed {p : Nat} (h : Claims.Undisturbed s p) : s.settle p = s.reserve p := by
  obtain ⟨h1, h2, h3, h4⟩ := h
  have stop : s.completeStop p = s := by simp only [State.completeStop, h1]
  have force : s.completeForce p = s := by simp only [State.completeForce, h2]
  have imports : s.retakeCopies p = s := by
    simp only [State.retakeCopies, h3, List.any_nil, Bool.false_eq_true, and_false, if_false]
  have waiting : (s.reserve p).control.waiting = [] :=
    (congrArg (fun x : Holding => x.control.waiting) (s.reserve_holding p)).trans h4
  unfold State.settle
  rw [stop, force, imports]
  exact State.releaseFrom_none _ waiting

/-- A step of the dispatcher that nothing hinders leaves what its effect leaves. -/
theorem dispatcherStep_made {name : String} {p : Nat} {a : Asker} {f : State → State} (hw : Claims.Unhindered s a f)
    (hu : Claims.Undisturbed (f (Claims.tried s a)) p) :
    ∃ t, dispatcherStep name p a f s = .next t ∧ t.holding = (f (Claims.tried s a)).holding := by
  have hmade := State.attempt_made (s := s) (a := a) (f := f) hw
  have hheld : ((({ f (Claims.tried s a) with want := s.want, asker := s.asker } : State).forget a)).holding = (f (Claims.tried s a)).holding :=
    State.abandon_holding ..
  refine ⟨_, ?_, (State.reserve_holding _ p).trans hheld⟩
  unfold dispatcherStep
  rw [hmade]
  exact congrArg Outcome.next (settle_undisturbed (undisturbed_of_core (core_of_holding hheld) hu))

end

end Sys2Proof.Machine
end

section
/-! PROOF. Checkpoints take effect (O49). -/

namespace Sys2Proof.Machine

open Host (Outcome)

section
variable {s t : State} {p job : Nat}

/-! ### Launches kept and their STATUS written -/

theorem launches_of_sees {v : View} (hs : Sees v s) (ht : Sees v t) (q : Nat) : (t.part q).launches = (s.part q).launches :=
  congrFun (congrArg View.launches (ht.trans hs.symm)) q

theorem launch?_of_launches {x y : Partition} (h : x.launches = y.launches) (a : Nat) : x.launch? a = y.launch? a := by
  unfold Partition.launch?
  rw [h]

theorem errors_of_sees {v : View} (hs : Sees v s) (ht : Sees v t) : t.errors = s.errors ∧ t.errorCount = s.errorCount :=
  ⟨congrArg View.errors (ht.trans hs.symm), congrArg View.count (ht.trans hs.symm)⟩

/-- The launches and the error log after a launch is kept and its STATUS written. -/
theorem writeLaunch_kept (s : State) (p : Nat) (l : Launch) (a : Nat) :
    ((s.writeLaunch p l).part p).launch? a = (if a = l.addr then some l else (s.part p).launch? a)
      ∧ (s.writeLaunch p l).errors = s.errors ∧ (s.writeLaunch p l).errorCount = s.errorCount := by
  have hs : Sees _ (s.mapPart p (fun q => q.setLaunch l)) := rfl
  have ht : Sees _ (s.writeLaunch p l) := hs.writeDispatch p l.job l.addr (l.addr + 96) (toBytes 8 l.statusWord.toNat)
  have herr := errors_of_sees hs ht
  refine ⟨?_, herr.1, herr.2⟩
  rw [launch?_of_launches (launches_of_sees hs ht p), State.mapPart, State.part_setPart_same, Partition.launch?_setLaunch]

theorem writeLaunch_launch?_isSome {a : Nat} (h : ((s.part p).launch? a).isSome = true) (l : Launch) :
    (((s.writeLaunch p l).part p).launch? a).isSome = true := by
  rw [(writeLaunch_kept s p l a).1]
  split
  · rfl
  · exact h

/-- A post forgets no record. -/
theorem post_launch?_isSome {a : Nat} (h : ((s.part p).launch? a).isSome = true) (j : Option Nat) (addr : Nat) :
    (((s.post p j addr).2.part p).launch? a).isSome = true := by
  have keep {u : State} {v : View} (hs : Sees v s) (hu : Sees v u) : ((u.part p).launch? a).isSome = true := by
    rw [launch?_of_launches (launches_of_sees hs hu p)]
    exact h
  have hs : Sees s.view s := rfl
  unfold State.post
  dsimp only
  split
  · next e =>
    have h1 := keep hs ((hs.readVirtual ..).snd e)
    exact h1
  · next e =>
    have h1 := (hs.readVirtual ..).snd e
    split
    · next e1 =>
      have h2 := keep hs ((h1.translate ..).snd e1)
      exact h2
    · next e1 =>
      have h2 := keep hs ((h1.translate ..).snd e1)
      split
      · exact h2
      · dsimp only
        split
        · exact writeLaunch_launch?_isSome (s := State.logModule _ ..) h2 _
        · exact writeLaunch_launch?_isSome h2 _

/-! ### One checkpoint -/

/-- The pending list of the model is the list of R89. -/
theorem pending_eq_listed (s : State) (p job : Nat) (own : Option Nat) : (s.part p).pending job own = Claims.listed s p job own := by
  unfold Partition.pending Claims.listed
  congr 1
  refine List.filter_congr (fun l _ => ?_)
  have haddr : (some l.addr != own) = decide (own ≠ some l.addr) := Bool.eq_iff_iff.2 (by rw [bne_iff_ne, decide_eq_true_iff]; exact ne_comm)
  have hjob : (l.job == job) = decide (l.job = job) := rfl
  rw [haddr, hjob, Bool.decide_and, Bool.decide_and]
  cases l.state <;> simp [LaunchState.number]

theorem undisturbed_setJob (h : Claims.Undisturbed s p) (x : Partition → Job) :
    Claims.Undisturbed (s.mapPart p (fun q => q.setJob (x q))) p := by
  obtain ⟨h1, h2, h3, h4⟩ := h
  have hp : (s.mapPart p (fun q => q.setJob (x q))).part p = (s.part p).setJob (x (s.part p)) := State.part_setPart_same ..
  unfold Claims.Undisturbed
  rw [hp]
  exact ⟨h1, h2, h3, h4⟩

/-- The step by which one checkpoint takes effect, from the state that the checkpoint itself leaves. -/
theorem checkpoint_step {rec_ : Option Nat} {x : State} (hp : p < 16) (hlive : s.jobLive p job = false)
    (hstops : ((s.part p).job job).stopsTasks = false)
    (hun : Claims.Unhindered s (.job p job) (fun u => (u.takeCheckpoints p job).requestPreemption p))
    (hasked : ((s.part p).job job).asked ≠ [])
    (hrec : (if (((s.part p).job job).asked.filter Option.isSome).isEmpty then [none] else ((s.part p).job job).asked.filter Option.isSome) = [rec_])
    (hx : (Claims.tried s (.job p job)).takeCheckpoint p job rec_ = x) (hux : Claims.Undisturbed x p) :
    ∃ t, exec (.checkpointTakeEffect p job) s = .next t ∧ t.memory = x.memory ∧ t.errors = x.errors ∧ t.errorCount = x.errorCount
      ∧ (t.part p).launches = (x.part p).launches ∧ (t.part p).job job = ((x.part p).job job).reopened false := by
  have hstop : (x.part p).stopping.isSome = false := by rw [hux.1]; rfl
  have heffect : (Claims.tried s (.job p job)).takeCheckpoints p job
      = (x.mapPart p (fun q => q.setJob ((q.job job).reopened q.stopping.isSome))).settleRoutes p job false := by
    have hfold := congrArg (fun rs : List (Option Nat) => rs.foldl (fun u r => u.takeCheckpoint p job r) (Claims.tried s (.job p job))) hrec
    unfold State.takeCheckpoints
    exact congrArg (fun u : State => (u.mapPart p (fun q => q.setJob ((q.job job).reopened q.stopping.isSome))).settleRoutes p job false)
      (hfold.trans hx)
  have hheld : (((Claims.tried s (.job p job)).takeCheckpoints p job).requestPreemption p).holding
      = (x.mapPart p (fun q => q.setJob ((q.job job).reopened q.stopping.isSome))).holding := by
    rw [State.requestPreemption_holding, heffect, State.settleRoutes_holding]
  obtain ⟨t, ht, hold⟩ := dispatcherStep_made (name := "CHECKPOINT_TAKE_EFFECT") (p := p) hun
    (undisturbed_of_core (core_of_holding hheld) (undisturbed_setJob hux _))
  have hall := hold.trans hheld
  have hpart : (x.mapPart p (fun q => q.setJob ((q.job job).reopened q.stopping.isSome))).part p
      = (x.part p).setJob (((x.part p).job job).reopened false) := by
    rw [State.mapPart, State.part_setPart_same, hstop]
  obtain ⟨herr, hcount⟩ := errors_of_holding hall
  refine ⟨t, ?_, (memory_of_holding hall).trans rfl, herr, hcount, ?_, ?_⟩
  · show execCheckpointTakeEffect p job s = _
    have hne : ((s.part p).job job).asked.isEmpty = false := by simpa using hasked
    unfold execCheckpointTakeEffect ofPartition
    rw [if_neg (by omega)]
    simp only [hne, hstops, hlive, Bool.not_false, Bool.and_self, if_true]
    exact ht
  · rw [launches_of_holding hall, hpart]
    rfl
  · rw [job_of_holding hall, hpart]
    exact Partition.job_setJob_same _ (Partition.job_num ..)

theorem JobState.eq_of_still {a b : JobState} (h : a.still = b.still) (hb : b = .draining ∨ b = .replaying ∨ b = .failed ∨ b = .unprotected) :
    a = b := by
  rcases hb with rfl | rfl | rfl | rfl <;> cases a <;> simp_all [JobState.still]

theorem state_of_still {a j : Job} (h : a.still = j.still) : a.state.still = j.state.still := (congrArg Job.state h :)

/-- A job after a checkpoint that has opened a new interval. -/
theorem reopened_of_still {a j : Job} (h : a.still = j.still) (hs : j.stopsTasks = false) (f : LogFields) :
    ({ a with log := some f, records := 0, filters := [], rollbacks := 0 } : Job).reopened false
      = { j with
          log := some f, records := 0, filters := [], rollbacks := 0, asked := [], stopped := j.stopped || j.stopAsked, state := Claims.runs j } := by
  have hfail : a.state ≠ .failed := by
    intro e
    have hj := JobState.eq_of_still (e ▸ (state_of_still h).symm : j.state.still = JobState.failed.still) (by simp)
    simp [Job.stopsTasks, hj] at hs
  rw [Job.eq_of_still h]
  simp [Job.reopened, hfail, Claims.runs]

/-- An explicit checkpoint that is taken. -/
theorem takeCheckpoint_explicit {u s1 : State} {r : Nat} {l : Launch} (hl : (s.part p).launch? r = some l)
    (hu : l.succs.foldl (fun s a => (s.post p (some job) a).2) s = u) (hul : (u.part p).launch? r = some l)
    (hn : (Claims.listed u p job (some r)).length ≤ 8191)
    (hw : writeLog u (u.dispatcher p (some job)) (linePieces (l.get 127 64) (Claims.pageZero (Claims.listed u p job (some r))).length)
      (Claims.pageZero (Claims.listed u p job (some r))) = .ok s1) :
    s.takeCheckpoint p job (some r) = (s1.writeLaunch p { l with state := .retired }).mapPart p (fun q => q.setJob { q.job job with
      log := some { base := l.get 127 64, pages := l.get 223 192, reserve := l.get 255 224, record := some l.addr }
      records := 0, filters := [], rollbacks := 0 }) := by
  have hlog : (u.part p).checkpointLog job (some r)
      = some { base := l.get 127 64, pages := l.get 223 192, reserve := l.get 255 224, record := some l.addr } := by
    simp only [Partition.checkpointLog, Option.bind_some, hul]
  have hw' : writeLog u (u.dispatcher p (some job)) (linePieces (l.get 127 64) (pendingBytes (Claims.listed u p job (some r))).length)
      (pendingBytes (Claims.listed u p job (some r))) = .ok s1 := hw
  unfold State.takeCheckpoint
  simp only [Option.bind_some, hl, Option.map_some, Option.getD_some, postAll_eq_foldl, hu, hlog, pending_eq_listed]
  rw [if_neg (by omega)]
  simp only [hw']

/-- An explicit checkpoint whose list is too long is rejected, and nothing of it stands. -/
theorem takeCheckpoint_long {u : State} {r : Nat} {l : Launch} (hl : (s.part p).launch? r = some l)
    (hu : l.succs.foldl (fun s a => (s.post p (some job) a).2) s = u) (hn : 8191 < (Claims.listed u p job (some r)).length) :
    s.takeCheckpoint p job (some r) = s.nextFree.reject p l (Config.freeWord s.fresh).toNat := by
  have hsome : ((u.part p).launch? r).isSome = true := by
    rw [← hu]
    have keep (as : List Nat) : ∀ s : State, ((s.part p).launch? r).isSome = true →
        (((as.foldl (fun s a => (s.post p (some job) a).2) s).part p).launch? r).isSome = true := by
      induction as with
      | nil => exact fun _ h => h
      | cons a as ih => exact fun _ h => ih _ (post_launch?_isSome h ..)
    exact keep _ s (by rw [hl]; rfl)
  obtain ⟨l', hl'⟩ := Option.isSome_iff_exists.1 hsome
  unfold State.takeCheckpoint
  simp only [Option.bind_some, hl, Option.map_some, Option.getD_some, postAll_eq_foldl, hu, Partition.checkpointLog, hl', pending_eq_listed]
  rw [if_pos hn]

/-- An implicit checkpoint. -/
theorem takeCheckpoint_implicit {s1 : State} {f : LogFields} (hlog : ((s.part p).job job).log = some f)
    (hn : (Claims.listed s p job none).length ≤ 8191)
    (hw : writeLog s (s.dispatcher p (some job)) (linePieces f.base (Claims.pageZero (Claims.listed s p job none)).length)
      (Claims.pageZero (Claims.listed s p job none)) = .ok s1) :
    s.takeCheckpoint p job none
      = s1.mapPart p (fun q => q.setJob { q.job job with log := some f, records := 0, filters := [], rollbacks := 0 }) := by
  have hw' : writeLog s (s.dispatcher p (some job)) (linePieces f.base (pendingBytes (Claims.listed s p job none)).length)
      (pendingBytes (Claims.listed s p job none)) = .ok s1 := hw
  unfold State.takeCheckpoint
  simp only [Option.bind_none, Option.map_none, Option.getD_none, State.postAll, Partition.checkpointLog, hlog, pending_eq_listed]
  rw [if_neg (by omega)]
  simp only [hw']

/-- A partition with a job replaced. -/
theorem part_setJob (s : State) (p : Nat) (f : Partition → Job) :
    (s.mapPart p (fun q => q.setJob (f q))).part p = (s.part p).setJob (f (s.part p)) := State.part_setPart_same ..

theorem asked_ne_nil {j : Job} {r : Option Nat} (h : j.asked.filter Option.isSome = [r]) : j.asked ≠ [] := by
  intro e
  rw [e] at h
  cases h

theorem checkpointsTakeEffect : Claims.CheckpointsTakeEffect := by
  intro s p job j s0 hp hlive hu hstops hun
  have hcore : s0.core = s.core := rfl
  refine ⟨?_, ?_, ?_⟩
  · intro r l s1 hasked hl u list base hn hul hw
    have hx := takeCheckpoint_explicit (s := s0) (p := p) (job := job) hl rfl hul hn hw
    have hb1 : Bears s.core s1 := (Bears.foldl (fun _ _ k => k.post ..) l.succs hcore).access (fun _ k => k.writeLog hw)
    have hb2 : Bears s.core (s1.writeLaunch p { l with state := .retired }) := hb1.writeLaunch ..
    obtain ⟨t, ht, hmem, -, -, hlaunches, hjob⟩ := checkpoint_step hp hlive hstops hun (asked_ne_nil hasked)
      (show (if ((j.asked.filter Option.isSome).isEmpty) then [none] else j.asked.filter Option.isSome) = [some r] by rw [hasked]; rfl)
      hx (undisturbed_setJob (undisturbed_of_core hb2 hu) _)
    rw [part_setJob] at hlaunches hjob
    have hlaunch (b : Nat) : (t.part p).launch? b = if b = l.addr then some { l with state := .retired } else (u.part p).launch? b := by
      have hsees : Sees u.view s1 := Sees.writeLog rfl hw
      refine (launch?_of_launches hlaunches b).trans ((writeLaunch_kept s1 p { l with state := .retired } b).1.trans ?_)
      rw [launch?_of_launches (launches_of_sees rfl hsees p)]
    have haddr : l.addr = r := Partition.launch?_addr hl
    refine ⟨t, ht, ?_, ?_, fun b hb => ?_, hmem⟩
    · rw [hjob, Partition.job_setJob, if_pos (Partition.job_num ..).symm]
      exact reopened_of_still (job_of_core hb2 p job) hstops _
    · rw [hlaunch, if_pos haddr.symm]
    · rw [hlaunch, if_neg (by omega)]
  · intro r l hasked hl hn
    have hx := takeCheckpoint_long (s := s0) (p := p) (job := job) hl rfl hn
    have hb : Bears s.core (s0.nextFree.reject p l (Config.freeWord s0.fresh).toNat) :=
      (Bears.nextFree (s := s0) hcore).reject ..
    obtain ⟨t, ht, -, herr, hcount, hlaunches, hjob⟩ := checkpoint_step hp hlive hstops hun (asked_ne_nil hasked)
      (show (if ((j.asked.filter Option.isSome).isEmpty) then [none] else j.asked.filter Option.isSome) = [some r] by rw [hasked]; rfl)
      hx (undisturbed_of_core hb hu)
    have haddr : l.addr = r := Partition.launch?_addr hl
    have hlaunch (b : Nat) : (t.part p).launch? b = if b = l.addr then some { l with state := .rejected } else (s.part p).launch? b :=
      (launch?_of_launches hlaunches b).trans (writeLaunch_kept (s0.nextFree.logModule 0x8010 _ l.addr p) p { l with state := .rejected } b).1
    obtain ⟨-, he, hc⟩ := writeLaunch_kept (s0.nextFree.logModule 0x8010 (Config.freeWord s0.fresh).toNat l.addr p) p
      { l with state := .rejected } 0
    refine ⟨t, ht, haddr ▸ enters_of_logModule (u := s0.nextFree) rfl (herr.trans he) (hcount.trans hc), ?_, ?_, ?_, fun b hb => ?_⟩
    · rw [hjob, Job.eq_of_still (job_of_core hb p job)]
      rfl
    · rw [hjob]
      rfl
    · rw [hlaunch, if_pos haddr.symm]
    · rw [hlaunch, if_neg (by omega)]
  · intro f s1 hasked hlog hn hw
    have hx := takeCheckpoint_implicit (s := s0) (p := p) (job := job) hlog hn hw
    have hsees : Sees s0.view s1 := Sees.writeLog rfl hw
    have hb : Bears s.core s1 := congrArg View.core hsees
    obtain ⟨t, ht, hmem, -, -, hlaunches, hjob⟩ := checkpoint_step hp hlive hstops hun (by rw [hasked]; simp)
      (show (if ((j.asked.filter Option.isSome).isEmpty) then [none] else j.asked.filter Option.isSome) = [none] by rw [hasked]; rfl)
      hx (undisturbed_setJob (undisturbed_of_core hb hu) _)
    rw [part_setJob] at hlaunches hjob
    refine ⟨t, ht, hmem, hlaunches.trans (launches_of_sees rfl hsees p), ?_⟩
    rw [hjob, Partition.job_setJob, if_pos (Partition.job_num ..).symm]
    exact reopened_of_still (job_of_core hb p job) hstops _

end

end Sys2Proof.Machine
end

section
/-! PROOF. How many bytes a read gives, and what a record of the bisque log does when it is applied (O49, R91, R95). -/

namespace Sys2Proof.Machine

/-! ### The length of an encrypted line -/

theorem length_xorList (a b : List Nat) : (xorList a b).length = min a.length b.length := List.length_zipWith ..

/-- A list cut into pieces whose words all have a property. -/
theorem cut_pieces {α : Type} {P : α → Prop} (n : Nat) : ∀ (k : Nat) (xs : List α), n * k ≤ xs.length → (∀ x ∈ xs, P x) →
    (cut n k xs).length = k ∧ ∀ y ∈ cut n k xs, y.length = n ∧ ∀ x ∈ y, P x := by
  intro k
  induction k with
  | zero => exact fun _ _ _ => ⟨rfl, fun y hy => nomatch hy⟩
  | succ k ih =>
    intro xs hl hp
    rw [Nat.mul_succ] at hl
    obtain ⟨h1, h2⟩ := ih (xs.drop n) (by rw [List.length_drop]; omega) (fun x hx => hp x (List.mem_of_mem_drop hx))
    refine ⟨congrArg Nat.succ h1, fun y hy => ?_⟩
    rcases List.mem_cons.mp hy with rfl | hy
    · exact ⟨List.length_take_of_le (by omega), fun x hx => hp x (List.mem_of_mem_take hx)⟩
    · exact h2 y hy

/-- The words of a key schedule have four bytes each. -/
theorem keyExtend_words : ∀ (k i rcon : Nat) (ws : List (List Nat)), 8 ≤ ws.length → (∀ x ∈ ws, x.length = 4) →
    (keyExtend k i rcon ws).length = k + ws.length ∧ ∀ x ∈ keyExtend k i rcon ws, x.length = 4 := by
  intro k
  induction k with
  | zero => exact fun i rcon ws _ h => ⟨(Nat.zero_add _).symm, h⟩
  | succ k ih =>
    intro i rcon ws hl h
    have hn : ∀ j, j < 8 → (nth [] ws j).length = 4 := fun j hj => by
      rw [nth_eq_getElem?, List.getElem?_eq_getElem (by omega), Option.getD_some]
      exact h _ (List.getElem_mem _)
    simp only [keyExtend]
    generalize ht : (if i % 8 = 0 then
        match nth [] ws 0 with
        | a :: rest => xorList ((rest ++ [a]).map sbox) [rcon, 0, 0, 0]
        | [] => []
      else if i % 8 = 4 then (nth [] ws 0).map sbox else nth [] ws 0) = t
    have h4 : t.length = 4 := by
      have h0 := hn 0 (by omega)
      rw [← ht]
      split
      · split
        next a rest e =>
          rw [e, List.length_cons] at h0
          simp [length_xorList, h0]
        next e => rw [e] at h0; exact nomatch h0
      · split <;> simp [h0]
    obtain ⟨h1, h2⟩ := ih (i + 1) (if i % 8 = 0 then xtime rcon else rcon) (xorList (nth [] ws 7) t :: ws)
      (by rw [List.length_cons]; omega) (fun x hx => by
        rcases List.mem_cons.mp hx with rfl | hx
        · rw [length_xorList, hn 7 (by omega), h4]; rfl
        · exact h x hx)
    exact ⟨by rw [h1, List.length_cons]; omega, h2⟩

theorem length_flatten_words {n : Nat} : ∀ {y : List (List Nat)}, (∀ x ∈ y, x.length = n) → y.flatten.length = n * y.length
  | [], _ => rfl
  | x :: y, h => by
    rw [List.flatten_cons, List.length_append, h x List.mem_cons_self, length_flatten_words (fun z hz => h z (List.mem_cons_of_mem _ hz)),
      List.length_cons, Nat.mul_succ, Nat.add_comm]

/-- A round key has 16 bytes. -/
theorem length_roundKey {key : List Nat} (h : 32 ≤ key.length) {i : Nat} (hi : i < 15) : (nth [] (roundKeys key) i).length = 16 := by
  obtain ⟨hc, hw⟩ := cut_pieces (P := fun _ => True) 4 8 key h (fun _ _ => trivial)
  obtain ⟨hl, hx⟩ := keyExtend_words 52 8 1 (cut 4 8 key).reverse (by rw [List.length_reverse, hc])
    (fun x hx => (hw x (List.mem_reverse.mp hx)).1)
  rw [List.length_reverse, hc] at hl
  obtain ⟨h15, hp⟩ := cut_pieces (P := fun x : List Nat => x.length = 4) 4 15 (keyExtend 52 8 1 (cut 4 8 key).reverse).reverse
    (by rw [List.length_reverse, hl]) (fun x hm => hx x (List.mem_reverse.mp hm))
  have hlen : (roundKeys key).length = 15 := by rw [roundKeys, List.length_map, h15]
  rw [nth_eq_getElem?, List.getElem?_eq_getElem (by omega), Option.getD_some]
  obtain ⟨y, hy, e⟩ := List.mem_map.mp (List.getElem_mem (l := roundKeys key) (by omega : i < (roundKeys key).length))
  obtain ⟨h4, hz⟩ := hp y hy
  rw [← e, length_flatten_words hz, h4]

theorem length_permute (f : Nat → Nat) (s : List Nat) : (permute f s).length = 16 := by simp [permute, length_upFrom]

/-- A block under a key schedule has 16 bytes. -/
theorem length_aesEncrypt {key : List Nat} (h : 32 ≤ key.length) (b : List Nat) : (aesEncrypt (roundKeys key) b).length = 16 := by
  simp only [aesEncrypt, length_xorList, length_roundKey h (i := 14) (by omega), shiftRows, length_permute]
  rfl

theorem length_aesDecrypt {key : List Nat} (h : 32 ≤ key.length) (b : List Nat) : (aesDecrypt (roundKeys key) b).length = 16 := by
  simp only [aesDecrypt, length_xorList, length_roundKey h (i := 0) (by omega), unshiftRows, length_permute, List.length_map]
  rfl

theorem length_xtsBlocks {f : List Nat → List Nat} (h : ∀ b, (f b).length = 16) :
    ∀ (n tweak : Nat) (bs : List Byte), (xtsBlocks f n tweak bs).length = 16 * n := by
  intro n
  induction n with
  | zero => exact fun _ _ => rfl
  | succ n ih =>
    intro tweak bs
    simp only [xtsBlocks, List.length_append, List.length_map, length_xorList, h, natsOf, length_toBytes, ih]
    omega

/-- R60: a line under a key has 64 bytes, as it is stored and as it is read. -/
theorem length_xtsLine (decrypt : Bool) (key : BitVec 512) (tweak : Nat) (bs : List Byte) : (xtsLine decrypt key tweak bs).length = 64 := by
  have hk : 32 ≤ ((natsOf (toBytes 64 key.toNat)).take 32).length := by simp [natsOf, length_toBytes]
  unfold xtsLine
  refine (length_xtsBlocks (fun b => ?_) 4 _ _).trans rfl
  split
  · exact length_aesDecrypt hk b
  · exact length_aesEncrypt hk b

theorem length_readLine (s : State) (l : Leaf) (va : Nat) : (s.readLine l va).1.bytes.length = 64 := by
  rw [State.readLine]
  split
  · simp [length_upFrom]
  · split
    · exact length_readBytes ..
    · exact length_xtsLine ..

/-! ### How many bytes a read gives -/

theorem length_readPiece {s t : State} {w : Who} {r : Right} {l : Leaf} {a n : Nat} {g : Got} (hn : n ≤ 64 - a % 64)
    (h : s.readPiece w r l a n = (.ok g, t)) : g.bytes.length = n := by
  unfold State.readPiece at h
  split at h
  · split at h
    · split at h
      · exact nomatch h
      · obtain ⟨e, -⟩ := Prod.mk.inj h
        rw [← Except.ok.inj e]
        simp
    · obtain ⟨e, -⟩ := Prod.mk.inj h
      rw [← Except.ok.inj e, List.length_replicate]
  · obtain ⟨e, -⟩ := Prod.mk.inj h
    rw [← Except.ok.inj e]
    simp only [State.readHere, List.length_take, List.length_drop, length_readLine]
    omega

/-- A read of a range gives as many bytes as it names. -/
theorem length_readPieces (w : Who) (r : Right) : ∀ (n a : Nat) (s t : State) (g : Got),
    s.readPieces w r (linePieces a n) = (.ok g, t) → g.bytes.length = n := by
  intro n
  induction n using Nat.strong_induction_on with
  | _ n ih =>
    intro a s t g h
    by_cases h0 : n = 0
    · subst h0
      obtain ⟨e, -⟩ := Prod.mk.inj h
      rw [← Except.ok.inj e]
      rfl
    · rw [linePieces_cons h0, State.readPieces] at h
      split at h
      · exact nomatch h
      · split at h
        · exact nomatch h
        next x s2 hx =>
          split at h
          · exact nomatch h
          next g' s3 hg =>
            obtain ⟨e, -⟩ := Prod.mk.inj h
            rw [← Except.ok.inj e]
            have h1 := length_readPiece (by omega) hx
            have h2 := ih _ (by omega) _ _ _ _ hg
            simp only [Got.append, List.length_append, h1, h2]
            omega

theorem length_readVirtual {s t : State} {w : Who} {r : Right} {va n : Nat} {g : Got} (h : s.readVirtual w r va n = (.ok g, t)) :
    g.bytes.length = n := by
  unfold State.readVirtual State.readRange at h
  split at h
  next g' s1 hg =>
    obtain ⟨e, -⟩ := Prod.mk.inj h
    split at hg
    next x s2 hx =>
      obtain ⟨e', -⟩ := Prod.mk.inj hg
      rw [← Except.ok.inj e, ← Except.ok.inj e']
      exact length_readPieces _ _ _ _ _ _ _ hx
    · exact nomatch hg
  · exact nomatch h

/-! ### A record applied -/

section
variable {s s1 : State} {p own n : Nat} {w : Who} {f : LogFields} {posts : List Nat} {g : Got}

theorem replayRecords_poison {a : Nat} (h : s.readVirtual w .read (f.place n) 80 = (.ok g, s1)) (hp : g.poison = some a) :
    s.replayRecords p own w f (n + 1) posts = (.error (.poison a), s1) := by
  simp only [State.replayRecords, h, hp]

theorem replayRecords_clean (h : s.readVirtual w .read (f.place n) 80 = (.ok g, s1)) (hp : g.poison = none) :
    s.replayRecords p own w f (n + 1) posts
      = (s1.applyRecord (s.part p) own posts g.bytes).2.replayRecords p own w f n (s1.applyRecord (s.part p) own posts g.bytes).1 := by
  simp only [State.replayRecords, h, hp]

end

theorem kindField (x : Nat) : field x 3 0 = x % 16 := by simp [field]

section
variable (s : State) (q : Partition) (own : Nat) (posts : List Nat) (bs : List Byte)

theorem applyRecord_line (h : ofBytes (bs.take 16) % 16 = 1) :
    s.applyRecord q own posts bs = (posts, s.restoreLine q own (ofBytes (bs.take 16) / 2 ^ 64 % 2 ^ 64)
      (ofBytes (bs.take 16) / 2 ^ 8 % 2 ^ 56) ((ofBytes (bs.take 16)).testBit 4) (bs.drop 16)) := by
  have hk : field (ofBytes (bs.take 16)) 3 0 = 1 := (kindField _).trans h
  simp only [State.applyRecord, hk]
  rfl

theorem applyRecord_kiln (h : ofBytes (bs.take 16) % 16 = 2) :
    s.applyRecord q own posts bs = (posts, s.restoreKiln q (ofBytes (bs.take 16) / 2 ^ 64 % 2 ^ 64)
      ((ofBytes (bs.take 16)).testBit 4) (bs.drop 16)) := by
  have hk : field (ofBytes (bs.take 16)) 3 0 = 2 := (kindField _).trans h
  simp only [State.applyRecord, hk]
  rfl

theorem applyRecord_post (h : ofBytes (bs.take 16) % 16 = 3) :
    s.applyRecord q own posts bs = ((ofBytes (bs.take 16) / 2 ^ 64 % 2 ^ 64) :: posts, s) := by
  have hk : field (ofBytes (bs.take 16)) 3 0 = 3 := (kindField _).trans h
  simp only [State.applyRecord, hk]
  rfl

end

/-- R91, R95: what a memory record restores. -/
theorem restoreLine_effect {s : State} {q : Partition} {own addr glaze a : Nat} {poison : Bool} {bs : List Byte}
    (ha : physicalOf s.health q addr = some a) (hl : bs.length = 64) :
    let u := s.restoreLine q own addr glaze poison bs
    (∀ i, readByte u.memory i = if a / 64 = i / 64 then nth 0 bs (i % 64) else readByte s.memory i)
      ∧ (∀ i, mget 0 u.glaze i = if i = a / 64 then BitVec.ofNat 56 glaze else mget 0 s.glaze i)
      ∧ (∀ i, i ∈ u.badLines ↔ if i = a / 64 then poison = true else i ∈ s.badLines)
      ∧ (∀ i, i ≠ a / 64 → mget 0 u.grades i = mget 0 s.grades i)
      ∧ { u with memory := s.memory, glaze := s.glaze, badLines := s.badLines, grades := s.grades } = s := by
  intro u
  have hu : u = { s with
      memory := writeBytes s.memory (64 * (a / 64)) bs
      grades := mset 0 s.grades (a / 64) ((s.gradeUnder q own addr 3 1 q.root.toNat).getD (mget 0 s.grades (a / 64)))
      glaze := mset 0 s.glaze (a / 64) (BitVec.ofNat 56 glaze)
      badLines := if poison then addTo (a / 64) s.badLines else dropFrom (a / 64) s.badLines } := by
    simp only [u, State.restoreLine, ha]
  clear_value u
  subst hu
  refine ⟨fun i => ?_, fun i => mget_mset .., fun i => ?_, fun i hi => mget_mset_other _ _ hi _, rfl⟩
  · show readByte (writeBytes s.memory _ bs) i = _
    rw [readByte_writeBytes, hl]
    by_cases h : a / 64 = i / 64
    · rw [if_pos (by omega), if_pos h, h, show i - 64 * (i / 64) = i % 64 by omega]
    · rw [if_neg (by omega), if_neg h]
  · show i ∈ (if poison = true then addTo (a / 64) s.badLines else dropFrom (a / 64) s.badLines) ↔ _
    cases poison
    · by_cases h : i = a / 64 <;> simp [mem_dropFrom, h]
    · by_cases h : i = a / 64 <;> simp [mem_addTo, h]

/-- R91, R95: what a kiln record restores. -/
theorem restoreKiln_effect {s : State} {q : Partition} {addr d : Nat} {poison : Bool} {bs : List Byte}
    (hd : q.dieList[addr / 2 ^ 25]? = some d) (hl : bs.length = 64) :
    let u := s.restoreKiln q addr poison bs
    Claims.OnDie s u d (u.die d)
      ∧ (∀ i, readByte (u.die d).kiln i
          = if addr % 2 ^ 25 ≤ i ∧ i < addr % 2 ^ 25 + 64 then nth 0 bs (i - addr % 2 ^ 25) else readByte (s.die d).kiln i)
      ∧ { u.die d with kiln := (s.die d).kiln, badWords := (s.die d).badWords } = s.die d := by
  intro u
  have hu : u = s.setDie d { s.die d with
      kiln := writeBytes (s.die d).kiln (addr % 2 ^ 25) bs
      badWords := wordsAfter (s.die d).badWords (addr % 2 ^ 25) 64 poison } := by
    simp only [u, State.restoreKiln, hd, State.mapDie]
  clear_value u
  subst hu
  refine ⟨⟨rfl, fun n hn => State.die_setDie_other s hn _, rfl⟩, fun i => ?_, ?_⟩
  · rw [State.die_setDie_same, readByte_writeBytes, hl]
  · rw [State.die_setDie_same]

/-- R91, R95: the records of a log, each applied as it is read. -/
theorem recordsAreApplied : Claims.RecordsAreApplied := by
  intro s p own w f posts
  refine ⟨rfl, fun n g s1 hr => ⟨fun a hp => replayRecords_poison hr hp, fun hp => ?_⟩⟩
  have hlen := length_readVirtual hr
  have hd : (g.bytes.drop 16).length = 64 := by rw [List.length_drop, hlen]
  have hn : ∀ i, nth 0 (g.bytes.drop 16) i = nth 0 g.bytes (16 + i) := nth_drop 0 g.bytes 16
  have hstep := replayRecords_clean (p := p) (own := own) (posts := posts) hr hp
  refine ⟨fun a h1 ha => ?_, fun d h2 hdie => ?_, fun h3 => ?_⟩
  · rw [applyRecord_line _ _ _ _ _ h1] at hstep
    obtain ⟨hm, hg, hb, hgr, hrest⟩ := restoreLine_effect (own := own) (glaze := ofBytes (g.bytes.take 16) / 2 ^ 8 % 2 ^ 56)
      (poison := (ofBytes (g.bytes.take 16)).testBit 4) ha hd
    exact ⟨_, hstep, fun i => by rw [hm, hn], hg, hb, hgr, hrest⟩
  · rw [applyRecord_kiln _ _ _ _ _ h2] at hstep
    obtain ⟨ho, hk, hrest⟩ := restoreKiln_effect (s := s1) (poison := (ofBytes (g.bytes.take 16)).testBit 4) hdie hd
    exact ⟨_, hstep, ho, fun i => by rw [hk, hn], hrest⟩
  · rw [applyRecord_post _ _ _ _ _ h3] at hstep
    exact hstep

end Sys2Proof.Machine
end

section
/-! PROOF. A job that rolls back takes up its last checkpoint again, or fails (O49, R87, R95). -/

namespace Sys2Proof.Machine

section
variable {s t : State} {p job : Nat} {f : LogFields}

/-! ### A job fails -/

/-- A record that fails changes no error entry and none of what posts leave alone. -/
theorem failRecord_kept {c : Core} (h : Bears c s) (p : Nat) (l : Launch) :
    Bears c (s.failRecord p l) ∧ (s.failRecord p l).errors = s.errors ∧ (s.failRecord p l).errorCount = s.errorCount := by
  unfold State.failRecord
  split
  · have hs : Sees _ (s.mapPart p (fun q => q.setLaunch { l with state := .failed })) := rfl
    have ht := hs.writeUnawaited (s.dispatcher p (some l.job)) (l.addr + 96) (toBytes 8 ({ l with state := .failed } : Launch).statusWord.toNat)
    obtain ⟨he, hn⟩ := errors_of_sees hs ht
    exact ⟨(h.setLaunch p _).access (fun _ k => k.writeUnawaited ..), he, hn⟩
  · exact ⟨h, rfl, rfl⟩

theorem failRecords_kept {c : Core} (p : Nat) (ls : List Launch) : ∀ {s : State}, Bears c s →
    Bears c (ls.foldl (fun s l => s.failRecord p l) s) ∧ (ls.foldl (fun s l => s.failRecord p l) s).errors = s.errors
      ∧ (ls.foldl (fun s l => s.failRecord p l) s).errorCount = s.errorCount := by
  induction ls with
  | nil => exact fun h => ⟨h, rfl, rfl⟩
  | cons l ls ih =>
    intro s h
    obtain ⟨h1, e1, n1⟩ := failRecord_kept h p l
    obtain ⟨h2, e2, n2⟩ := ih h1
    exact ⟨h2, e2.trans e1, n2.trans n1⟩

/-- The error log after entry 0x8017 of a job has joined that of a state. -/
def FailEntry (s t : State) (job : Nat) : Prop :=
  t.errorCount = s.errorCount + 1
    ∧ ∃ e : BitVec 256, t.errors = (if 4096 ≤ s.errors.length then s.errors.tail else s.errors) ++ [e]
      ∧ e.toNat / 2 ^ 48 % 2 ^ 16 = 0x8017 ∧ e.toNat / 2 ^ 64 % 2 ^ 64 = job % 2 ^ 64

/-- R87: a job that fails. -/
theorem failJob_effect (hu : Claims.Undisturbed s p) (hs : ((s.part p).job job).state ≠ .failed) :
    Claims.Undisturbed (s.failJob p job) p ∧ (((s.failJob p job).part p).job job).state = .failed ∧ FailEntry s (s.failJob p job) job := by
  unfold State.failJob
  rw [if_neg hs]
  dsimp only
  generalize hx : s.mapPart p (fun q => q.setJob { q.job job with state := .failed, asked := [], stopAsked := false }) = x
  have hux : Claims.Undisturbed x p := hx ▸ undisturbed_setJob hu _
  have hex : x.errors = s.errors ∧ x.errorCount = s.errorCount := by rw [← hx]; exact ⟨rfl, rfl⟩
  have hjx : ((x.part p).job job).state = .failed := by
    rw [← hx, part_setJob, Partition.job_setJob, if_pos (Partition.job_num ..).symm]
  have hheld := x.stopTasks_holding p job
  generalize x.stopTasks p job = y at hheld
  have hcore := core_of_holding hheld
  obtain ⟨ey, ny⟩ := errors_of_holding hheld
  have huy : Claims.Undisturbed y p := undisturbed_of_core hcore (undisturbed_setJob hux _)
  have hjy : ((y.part p).job job).state = .failed := by
    rw [job_of_holding hheld, part_setJob, Partition.job_setJob, if_pos (Partition.job_num ..).symm]
    exact hjx
  have hb : Bears y.core y := rfl
  obtain ⟨hb', he, hn⟩ := failRecords_kept p ((y.part p).launches.filter (fun l => l.job == job)) hb
  generalize ((y.part p).launches.filter (fun l => l.job == job)).foldl (fun s l => s.failRecord p l) y = z at hb' he hn
  have hez : z.errors = s.errors := he.trans (ey.trans hex.1)
  have hnz : z.errorCount = s.errorCount := hn.trans (ny.trans hex.2)
  refine ⟨undisturbed_of_core (hb'.logModule ..) huy, ?_, ?_, ?_⟩
  · refine JobState.eq_of_still ((state_of_still (job_of_core hb' p job)).trans (congrArg JobState.still hjy)) (by simp)
  · show z.errorCount + 1 = _
    rw [hnz]
  · obtain ⟨f1, f2, -⟩ := errorEntry_fields z.timeBase.toNat 0 job 0x8017 p 0 0x3FE z.errorCount
    refine ⟨_, ?_, f1, f2⟩
    rw [← hez]
    simp only [State.logModule, State.logError, decide_eq_true_eq]

/-- A job that fails right after an entry has joined the error log. -/
theorem fails_of_logError {code info addr part die tile : Nat} (hf : FailEntry (s.logError code info addr part die tile) t job)
    (hj : ((t.part p).job job).state = .failed) (hc : code < 2 ^ 16) : Claims.Fails s t p job code addr := by
  obtain ⟨hn, e, he, h1, h2⟩ := hf
  obtain ⟨f1, -, f3⟩ := errorEntry_fields s.timeBase.toNat addr info code part die tile s.errorCount
  refine ⟨hj, hn, errorEntry s.timeBase.toNat addr info code part die tile s.errorCount, e, ?_, f1.trans (Nat.mod_eq_of_lt hc), f3, h1, h2⟩
  have hlast : ∃ xs, t.errors = xs ++ [errorEntry s.timeBase.toNat addr info code part die tile s.errorCount, e] := by
    rw [he]
    simp only [State.logError, decide_eq_true_eq]
    generalize (if 4096 ≤ s.errors.length then s.errors.tail else s.errors) = ys
    split
    next h =>
      cases ys with
      | nil => simp at h
      | cons y ys => exact ⟨ys, by simp⟩
    next => exact ⟨ys, by simp⟩
  obtain ⟨xs, hxs⟩ := hlast
  simp [hxs]

/-! ### The records of the job taken up again -/

/-- Launches that have latched no cell give none back. -/
theorem returnCells_none {ls : List Launch} (g : State → Launch → Bool) (h : ∀ l ∈ ls, l.cell = none) (s : State) :
    ls.foldl (fun s l => if g s l then s.returnCell p l else s) s = s := by
  induction ls with
  | nil => rfl
  | cons l ls ih =>
    have hl : s.returnCell p l = s := by simp only [State.returnCell, h l List.mem_cons_self]
    rw [List.foldl_cons, hl, ite_self]
    exact ih (fun x hx => h x (List.mem_cons_of_mem _ hx))

/-- One listed record taken up again, with what its launch had latched (R95). -/
def takeUp (p job : Nat) (had : List Launch) (s : State) (a : Nat) : State :=
  match s.statusAt p (some job) a with
  | (some w, s3) => s3.reinstate p (some job) a w none ((had.filter (fun l => decide (2 ≤ l.state.number))).find? (fun l => l.addr == a))
  | (none, s3) => s3.logModule 0x8011 a a p

/-- The records of a job whose launches have latched no cell become what their STATUS says. -/
theorem restorePending_eq (h : ∀ l ∈ (s.part p).launches, l.job = job → l.cell = none) (list : List Nat) :
    (s.mapPart p (fun q => q.setJob { q.job job with records := 0, filters := [], state := .replaying })).restorePending p job list
      = list.foldl (takeUp p job ((s.part p).launches.filter (fun l => l.job == job))) (Claims.emptied s p job) := by
  have hpart := part_setJob s p (fun q => { q.job job with records := 0, filters := [], state := .replaying })
  have hlaunches : ((s.mapPart p (fun q => q.setJob { q.job job with records := 0, filters := [], state := .replaying })).part p).launches
      = (s.part p).launches := (congrArg Partition.launches hpart :)
  have hempty : (s.mapPart p (fun q => q.setJob { q.job job with records := 0, filters := [], state := .replaying })).mapPart p
      (fun q => { q with launches := q.launches.filter (fun l => l.job != job) }) = Claims.emptied s p job := by
    rw [State.mapPart, hpart]
    simp only [State.mapPart, State.setPart, mset_mset, Claims.emptied]
    rfl
  have hnone : ∀ l ∈ (s.part p).launches.filter (fun l => l.job == job), l.cell = none := fun l hl =>
    h l (List.mem_of_mem_filter hl) (by simpa using (List.mem_filter.mp hl).2)
  unfold State.restorePending
  dsimp only
  rw [hlaunches, returnCells_none _ hnone, hempty]
  rfl

theorem markMismatch_none (h : ((s.part p).job job).mismatch = none) : s.markMismatch p job = s := by
  simp only [State.markMismatch, h]

/-! ### The step -/

/-- A replay that is due leaves what its effect leaves. -/
theorem logReplay_step {x : State} (hp : p < 16) (hd : Claims.Drained_ s p job f)
    (hun : Claims.Unhindered s (.job p job) (fun u => (u.replay p job).requestPreemption p))
    (hx : ((Claims.tried s (.job p job)).replay p job).holding = x.holding) (hux : Claims.Undisturbed x p) :
    ∃ t, exec (.logReplay p job) s = .next t ∧ t.holding = x.holding := by
  obtain ⟨hlive, -, hstate, -, -, hlost⟩ := hd
  have hheld : (((Claims.tried s (.job p job)).replay p job).requestPreemption p).holding = x.holding :=
    (State.requestPreemption_holding ..).trans hx
  obtain ⟨t, ht, hold⟩ := dispatcherStep_made (name := "LOG_REPLAY") (p := p) hun (undisturbed_of_core (core_of_holding hheld) hux)
  have hdrained : s.drained p job = true := by
    simp only [State.drained, List.all_eq_true, List.any_eq_true, List.contains_iff_mem]
    exact hlost
  refine ⟨t, ?_, hold.trans hheld⟩
  show execLogReplay p job s = _
  unfold execLogReplay ofPartition
  rw [if_neg (by omega)]
  simp only [hstate, hlive, hdrained, beq_self_eq_true, Bool.not_false, Bool.and_self, if_true]
  exact ht

/-- A replay whose log and pending list can be read. -/
theorem replay_read {posts list : List Nat} {u v : State} (hlog : ((s.part p).job job).log = some f)
    (hr : s.replayRecords p (ownRank s (s.part p) job) (s.dispatcher p (some job)) f ((s.part p).job job).records [] = (.ok posts, u))
    (hl : u.readPending (s.dispatcher p (some job)) f = (.ok list, v))
    (hcells : ∀ l ∈ (v.part p).launches, l.job = job → l.cell = none) :
    s.replay p job
      = let x := (Claims.reposts (list.foldl (takeUp p job ((v.part p).launches.filter (fun l => l.job == job))) (Claims.emptied v p job))
            p job posts).markMismatch p job
        if 3 ≤ ((s.part p).job job).rollbacks then x.failJob p job
        else x.mapPart p (fun q => q.setJob ((q.job job).restarted q.stopping.isSome)) := by
  simp only [State.replay, hlog, hr, hl, restorePending_eq hcells, repost_eq]

theorem undisturbed_emptied (h : Claims.Undisturbed s p) (job : Nat) : Claims.Undisturbed (Claims.emptied s p job) p := by
  obtain ⟨h1, h2, h3, h4⟩ := h
  have hp : (Claims.emptied s p job).part p = { (s.part p).setJob { (s.part p).job job with records := 0, filters := [], state := .replaying } with
      launches := (s.part p).launches.filter (fun l => l.job != job) } := State.part_setPart_same ..
  unfold Claims.Undisturbed
  rw [hp]
  exact ⟨h1, h2, h3, h4⟩

theorem emptied_job (s : State) (p job : Nat) :
    ((Claims.emptied s p job).part p).job job = { (s.part p).job job with records := 0, filters := [], state := .replaying } := by
  rw [Claims.emptied, State.part_setPart_same]
  exact Partition.job_setJob_same (s.part p) (Partition.job_num ..)

theorem emptied_launches (s : State) (p job : Nat) :
    ((Claims.emptied s p job).part p).launches = (s.part p).launches.filter (fun l => l.job != job) := by
  rw [Claims.emptied, State.part_setPart_same]

/-- The job after the posts have been made again runs, unless something has asked it to quiesce. -/
theorem restarted_eq {a j : Job} (h : a.serialRun = j.serialRun) :
    a.restarted false = { a with
      state := if a.asked.filter Option.isSome ++ (if a.asked.contains none then [none] else []) = [] then Claims.runs j else .quiescing
      asked := a.asked.filter Option.isSome ++ (if a.asked.contains none then [none] else []), stopAsked := false, stopped := false } := by
  simp only [Job.restarted, Bool.false_or, Claims.runs, h]
  generalize a.asked.filter Option.isSome ++ (if a.asked.contains none then [none] else []) = xs
  cases xs <;> simp

/-- What a replay that begins the interval again leaves, from the state that the records and the posts leave. -/
theorem replay_restarts {x : State} (hp : p < 16) (hd : Claims.Drained_ s p job f)
    (hun : Claims.Unhindered s (.job p job) (fun u => (u.replay p job).requestPreemption p))
    (hx : (Claims.tried s (.job p job)).replay p job = x.mapPart p (fun q => q.setJob ((q.job job).restarted q.stopping.isSome)))
    (hux : Claims.Undisturbed x p) :
    ∃ t, exec (.logReplay p job) s = .next t ∧ t.memory = x.memory ∧ t.errors = x.errors ∧ t.errorCount = x.errorCount
      ∧ (t.part p).launches = (x.part p).launches ∧ (t.part p).job job = ((x.part p).job job).restarted false := by
  obtain ⟨t, ht, hold⟩ := logReplay_step hp hd hun (congrArg State.holding hx) (undisturbed_setJob hux _)
  have hstop : (x.part p).stopping.isSome = false := by rw [hux.1]; rfl
  have hpart := part_setJob x p (fun q => (q.job job).restarted q.stopping.isSome)
  obtain ⟨he, hn⟩ := errors_of_holding hold
  refine ⟨t, ht, (memory_of_holding hold).trans rfl, he, hn, ?_, ?_⟩
  · rw [launches_of_holding hold, hpart]
    rfl
  · rw [job_of_holding hold, hpart, hstop]
    exact Partition.job_setJob_same _ (Partition.job_num ..)

/-! ### One listed record -/

/-- A launch taken up again from a record and a STATUS. -/
def takenUp (a r status : Nat) (since : Word) : Launch :=
  { (postedLaunch a r).withStatus status with lacc := BitVec.ofNat 64 (field r 959 896), readyAt := since }

theorem takenUp_kind (a r status : Nat) (since : Word) : (takenUp a r status since).kind = Claims.bits r 1 0 := by
  show (BitVec.ofNat 1024 r).toNat / 2 ^ 0 % 2 ^ 2 = r / 2 ^ 0 % 2 ^ 2
  rw [BitVec.toNat_ofNat, Nat.pow_zero, Nat.div_one, Nat.div_one, Nat.mod_mod_of_dvd _ ⟨2 ^ 1022, by decide +kernel⟩]

theorem launchStateOf_number {n : Nat} (h : n < 8) : (launchStateOf n).number = n := by
  have : ∀ n, n < 8 → (launchStateOf n).number = n := by decide
  exact this n h

theorem takenUp_preds (a r status : Nat) (since : Word) : (takenUp a r status since).preds = Claims.usedPreds r := by
  show (List.take _ [_, _]).map Prod.fst = _
  rw [List.map_take]
  rfl

end

end Sys2Proof.Machine
end

section
/-! PROOF. The replay of a log (O49, R95). -/

namespace Sys2Proof.Machine

section
variable {s t u v x z1 z2 : State} {p job a status : Nat} {f : LogFields} {posts list : List Nat} {bs : List Byte} {had : List Launch}

/-! ### What a record that is taken up again leaves -/

theorem takeUp_unread (h : s.statusAt p (some job) a = (none, z1)) : takeUp p job had s a = z1.logModule 0x8011 a a p := by
  simp only [takeUp, h]

/-- A listed record that runs nothing: it waits, or it is a checkpoint or a join. -/
theorem takeUp_waits (h : s.statusAt p (some job) a = (some status, z1)) (hr : z1.readDispatch p (some job) a 128 = (.ok bs, z2))
    (hk : Claims.bits status 3 0 = 1 ∨ (Claims.bits (ofBytes bs) 1 0 ≠ 0 ∧ Claims.bits status 3 0 < 8)) :
    ∃ l, l.addr = a ∧ l.job = Claims.bits (ofBytes bs) 59 48 ∧ l.state.number = Claims.bits status 3 0
      ∧ l.record = BitVec.ofNat 1024 (ofBytes bs) ∧ l.preds = Claims.usedPreds (ofBytes bs) ∧ l.dispatched = Claims.bits status 39 16
      ∧ l.finished = Claims.bits status 63 40 ∧ l.lacc = BitVec.ofNat 64 (Claims.bits (ofBytes bs) 959 896)
      ∧ takeUp p job had s a =
        if Claims.bits (ofBytes bs) 1 0 = 1 ∧ Claims.bits status 3 0 = 2 then
          (z2.mapPart p (fun q => q.setLaunch l)).mapPart p (fun q =>
            q.setJob { (q.job l.job).quiesce with asked := (q.job l.job).asked ++ [some a] })
        else z2.mapPart p (fun q => q.setLaunch l) := by
  generalize ho : (had.filter (fun l => decide (2 ≤ l.state.number))).find? (fun l => l.addr == a) = old
  have h8 : Claims.bits status 3 0 < 8 := by omega
  have hn : (takenUp a (ofBytes bs) status ((old.map Launch.readyAt).getD z1.timeBase)).state.number = Claims.bits status 3 0 :=
    launchStateOf_number h8
  have hkind := takenUp_kind a (ofBytes bs) status ((old.map Launch.readyAt).getD z1.timeBase)
  have hready : (takenUp a (ofBytes bs) status ((old.map Launch.readyAt).getD z1.timeBase)).state = .ready ↔ Claims.bits status 3 0 = 2 := by
    rw [← hn]
    cases (takenUp a (ofBytes bs) status ((old.map Launch.readyAt).getD z1.timeBase)).state <;> simp [LaunchState.number]
  have hnot : ¬ (2 ≤ (takenUp a (ofBytes bs) status ((old.map Launch.readyAt).getD z1.timeBase)).state.number
      ∧ (takenUp a (ofBytes bs) status ((old.map Launch.readyAt).getD z1.timeBase)).state.number ≤ 4
      ∧ (takenUp a (ofBytes bs) status ((old.map Launch.readyAt).getD z1.timeBase)).kind = 0) := by
    rw [hn, hkind]
    omega
  refine ⟨takenUp a (ofBytes bs) status ((old.map Launch.readyAt).getD z1.timeBase), rfl, rfl, hn, rfl, takenUp_preds .., rfl, rfl, rfl, ?_⟩
  simp only [takeUp, h, ho, State.reinstate, hr]
  refine (if_neg hnot).trans ?_
  refine (if_congr (and_congr (hkind ▸ Iff.rfl) hready) rfl rfl).trans rfl

/-- A launch that had latched its code keeps it. -/
theorem takeUp_runs {old : Launch} (h : s.statusAt p (some job) a = (some status, z1)) (hr : z1.readDispatch p (some job) a 128 = (.ok bs, z2))
    (h2 : 2 ≤ Claims.bits status 3 0) (h4 : Claims.bits status 3 0 ≤ 4) (hk : Claims.bits (ofBytes bs) 1 0 = 0)
    (ho : (had.filter (fun l => decide (2 ≤ l.state.number))).find? (fun l => l.addr == a) = some old) (hc : old.object.isSome = true)
    (hs : old.state ≠ .retired) :
    ∃ l, l.addr = a ∧ l.state.number = Claims.bits status 3 0 ∧ l.dispatched = Claims.bits status 39 16
      ∧ l.finished = Claims.bits status 63 40 ∧ l.object = old.object ∧ l.readyAt = old.readyAt
      ∧ takeUp p job had s a = z2.mapPart p (fun q => q.setLaunch l) := by
  have hn : (takenUp a (ofBytes bs) status old.readyAt).state.number = Claims.bits status 3 0 :=
    launchStateOf_number (show Claims.bits status 3 0 < 8 by omega)
  have hkind := takenUp_kind a (ofBytes bs) status old.readyAt
  have hruns : 2 ≤ (takenUp a (ofBytes bs) status old.readyAt).state.number ∧ (takenUp a (ofBytes bs) status old.readyAt).state.number ≤ 4
      ∧ (takenUp a (ofBytes bs) status old.readyAt).kind = 0 := by
    rw [hn, hkind]
    omega
  refine ⟨{ takenUp a (ofBytes bs) status old.readyAt with object := old.object, cell := old.cell, bound := old.bound },
    rfl, hn, rfl, rfl, rfl, rfl, ?_⟩
  simp only [takeUp, h, ho, State.reinstate, hr]
  refine (if_pos hruns).trans ?_
  exact if_pos ⟨hc, hs⟩

/-- The launch of an address among those of its job that had become READY. -/
theorem find?_of_launch? {q : Partition} {old : Launch} (h : q.launch? a = some old) (hj : old.job = job) (hn : 2 ≤ old.state.number) :
    ((q.launches.filter (fun l => l.job == job)).filter (fun l => decide (2 ≤ l.state.number))).find? (fun l => l.addr == a) = some old := by
  unfold Partition.launch? at h
  rw [List.find?_filter, List.find?_filter]
  rw [List.find?_eq_some_iff_append] at h ⊢
  obtain ⟨ha, as, bs, he, hall⟩ := h
  refine ⟨by simp [hj, hn, ha], as, bs, he, fun y hy => ?_⟩
  have := hall y hy
  simp_all

/-! ### The replay of a log that can be read -/

/-- A replay of records changes nothing of a view. -/
theorem sees_replayed {w : Who} {own n : Nat} {x : Except ReplayStop (List Nat)} {y : Asker}
    (h : (Claims.tried s y).replayRecords p own w f n posts = (x, u)) : Sees s.view u :=
  Sees.snd (Sees.replayRecords (s := Claims.tried s y) rfl ..) h

/-- What the interval begins with again, from the state that the records and the posts leave. -/
theorem replay_from (hd : Claims.Drained_ s p job f)
    (hr : (Claims.tried s (.job p job)).replayRecords p (ownRank s (s.part p) job) (s.dispatcher p (some job)) f
      ((s.part p).job job).records [] = (.ok posts, u))
    (hl : u.readPending (s.dispatcher p (some job)) f = (.ok list, v)) (hcells : ∀ l ∈ (s.part p).launches, l.job = job → l.cell = none)
    (hx : Claims.reposts (list.foldl (takeUp p job ((s.part p).launches.filter (fun l => l.job == job))) (Claims.emptied v p job)) p job posts = x)
    (hb : Bears (Claims.emptied v p job).core x) :
    (Claims.tried s (.job p job)).replay p job
      = if 3 ≤ ((s.part p).job job).rollbacks then x.failJob p job
        else x.mapPart p (fun q => q.setJob ((q.job job).restarted q.stopping.isSome)) := by
  obtain ⟨-, -, -, hlog, hmis, -⟩ := hd
  have hv : Sees s.view v := (sees_replayed hr).readPending _ _ |>.snd hl
  have hlaunches : (v.part p).launches = (s.part p).launches := launches_of_sees rfl hv p
  have hvmis : ((v.part p).job job).mismatch = none := (congrArg Job.mismatch (Sees.job rfl hv p job) :).trans hmis
  have hxmis : ((x.part p).job job).mismatch = none := by
    have := (congrArg Job.mismatch (job_of_core hb p job) :)
    rw [emptied_job] at this
    exact this.trans hvmis
  have hrun := replay_read (s := Claims.tried s (.job p job)) hlog hr hl (fun l hm => hcells l (hlaunches ▸ hm))
  rw [hlaunches, hx, markMismatch_none hxmis] at hrun
  exact hrun

/-- R95: one listed record, and no post made in the interval. -/
theorem replay_one (hp : p < 16) (hd : Claims.Drained_ s p job f)
    (hun : Claims.Unhindered s (.job p job) (fun u => (u.replay p job).requestPreemption p))
    (hr : (Claims.tried s (.job p job)).replayRecords p (ownRank s (s.part p) job) (s.dispatcher p (some job)) f
      ((s.part p).job job).records [] = (.ok [], u))
    (hl : u.readPending (s.dispatcher p (some job)) f = (.ok [a], v)) (hcells : ∀ l ∈ (s.part p).launches, l.job = job → l.cell = none)
    (hrolls : ((s.part p).job job).rollbacks < 3)
    (hx : takeUp p job ((s.part p).launches.filter (fun l => l.job == job)) (Claims.emptied v p job) a = x)
    (hb : Bears (Claims.emptied v p job).core x) :
    ∃ t, exec (.logReplay p job) s = .next t ∧ t.memory = x.memory ∧ t.errors = x.errors ∧ t.errorCount = x.errorCount
      ∧ (t.part p).launches = (x.part p).launches ∧ (t.part p).job job = ((x.part p).job job).restarted false := by
  have hrun := replay_from hd hr hl hcells (x := x) hx hb
  rw [if_neg (by omega)] at hrun
  have hv : Sees s.view v := (sees_replayed hr).readPending _ _ |>.snd hl
  obtain ⟨-, hund, -⟩ := id hd
  exact replay_restarts hp hd hun hrun
    (undisturbed_of_core hb (undisturbed_emptied (undisturbed_of_core (congrArg View.core hv) hund) job))

theorem mem_setLaunch {y l : Launch} {q : Partition} (h : y ∈ (q.setLaunch l).launches) : y = l ∨ y ∈ q.launches := mem_of_mem_replaceBy h

theorem restarted_asks {j : Job} (h : some a ∈ j.asked) : (j.restarted false).state = .quiescing ∧ some a ∈ (j.restarted false).asked := by
  have hm : some a ∈ (j.restarted false).asked := List.mem_append_left _ (List.mem_filter.mpr ⟨h, rfl⟩)
  refine ⟨?_, hm⟩
  have hne : (j.restarted false).asked.isEmpty = false := by
    cases e : (j.restarted false).asked with
    | nil => rw [e] at hm; exact nomatch hm
    | cons => rfl
  exact if_pos (by rw [Bool.not_eq_true']; exact hne)

/-- What a listed record that runs nothing leaves: its launch, and its request for a checkpoint (R95). -/
theorem takeUp_waits_effect {c : Core} {l : Launch} (hl : l.job = job) (hb : Bears c z2) (asks : Prop) [Decidable asks] :
    ∃ x, (if asks then
          (z2.mapPart p (fun q => q.setLaunch l)).mapPart p (fun q =>
            q.setJob { (q.job l.job).quiesce with asked := (q.job l.job).asked ++ [some a] })
        else z2.mapPart p (fun q => q.setLaunch l)) = x
      ∧ Bears c x ∧ x.memory = z2.memory ∧ (x.part p).launches = ((z2.part p).setLaunch l).launches
      ∧ (asks → some a ∈ ((x.part p).job job).asked) := by
  have hset : (z2.mapPart p (fun q => q.setLaunch l)).part p = (z2.part p).setLaunch l := State.part_setPart_same ..
  refine ⟨_, rfl, ?_⟩
  split
  next =>
    have hadd := part_setJob (z2.mapPart p (fun q => q.setLaunch l)) p
      (fun q => { (q.job l.job).quiesce with asked := (q.job l.job).asked ++ [some a] })
    have hnum (q : Partition) : (q.job l.job).quiesce.num = l.job := (Job.quiesce_num _).trans (Partition.job_num ..)
    refine ⟨(hb.setLaunch p l).access (fun v k => k.setJob p (n := l.job) (hnum _) (Job.still_quiesce _)), rfl, ?_, fun _ => ?_⟩
    · rw [hadd, hset]
      rfl
    · rw [hadd, Partition.job_setJob, if_pos (hl.symm.trans (hnum _).symm)]
      exact List.mem_append_right _ List.mem_cons_self
  next h => exact ⟨hb.setLaunch p l, rfl, by rw [hset], fun k => absurd k h⟩

/-- While a write of the job has no answer, no replay is due. -/
theorem logReplay_undrained (hp : p < 16) (h : ∃ k ∈ ((s.part p).job job).draining, ∀ q ∈ s.ports, k ∉ q.2.lost) :
    exec (.logReplay p job) s = .refused (.notDue "LOG_REPLAY") := by
  have hnot : s.drained p job = false := by
    rw [Bool.eq_false_iff]
    intro hall
    obtain ⟨k, hk, hno⟩ := h
    simp only [State.drained, List.all_eq_true, List.any_eq_true, List.contains_iff_mem] at hall
    obtain ⟨q, hq, hm⟩ := hall k hk
    exact hno q hq hm
  show execLogReplay p job s = _
  unfold execLogReplay ofPartition
  rw [if_neg (by omega)]
  simp only [hnot, Bool.and_false, Bool.false_eq_true, if_false]

/-- R95: no listed record, and the posts of the interval made again; the third rollback to a checkpoint fails the job. -/
theorem replay_posts (hp : p < 16) (hd : Claims.Drained_ s p job f)
    (hun : Claims.Unhindered s (.job p job) (fun u => (u.replay p job).requestPreemption p))
    (hr : (Claims.tried s (.job p job)).replayRecords p (ownRank s (s.part p) job) (s.dispatcher p (some job)) f
      ((s.part p).job job).records [] = (.ok posts, u))
    (hl : u.readPending (s.dispatcher p (some job)) f = (.ok [], v)) (hcells : ∀ l ∈ (s.part p).launches, l.job = job → l.cell = none)
    (hz : Claims.reposts (Claims.emptied v p job) p job posts = x) (hux : Claims.Undisturbed x p) :
    ∃ t, exec (.logReplay p job) s = .next t
      ∧ (3 ≤ ((s.part p).job job).rollbacks → ((t.part p).job job).state = .failed)
      ∧ (((s.part p).job job).rollbacks < 3 → t.memory = x.memory ∧ (t.part p).launches = (x.part p).launches ∧ t.errors = x.errors
        ∧ (t.part p).job job = ((x.part p).job job).restarted false ∧ ((x.part p).job job).serialRun = ((s.part p).job job).serialRun) := by
  have hb : Bears (Claims.emptied v p job).core x := hz ▸ Bears.reposts rfl ..
  have hrun := replay_from hd hr hl hcells hz hb
  have hv : Sees s.view v := (sees_replayed hr).readPending _ _ |>.snd hl
  have hj := job_of_core hb p job
  rw [emptied_job] at hj
  by_cases h3 : 3 ≤ ((s.part p).job job).rollbacks
  · rw [if_pos h3] at hrun
    have hstate : ((x.part p).job job).state = .replaying := JobState.eq_of_still (state_of_still hj) (by simp)
    obtain ⟨hu, hfail, -⟩ := failJob_effect (job := job) hux (by rw [hstate]; simp)
    obtain ⟨t, ht, hold⟩ := logReplay_step hp hd hun (congrArg State.holding hrun) hu
    exact ⟨t, ht, fun _ => by rw [job_of_holding hold]; exact hfail, fun h => absurd h (by omega)⟩
  · rw [if_neg h3] at hrun
    obtain ⟨t, ht, hmem, herr, -, hlaunches, hjob⟩ := replay_restarts hp hd hun hrun hux
    exact ⟨t, ht, fun h => absurd h h3, fun _ => ⟨hmem, hlaunches, herr, hjob,
      (congrArg Job.serialRun hj :).trans (congrArg Job.serialRun (Sees.job rfl hv p job) :)⟩⟩

/-- R95: a log that cannot be read fails the job, right after an entry of its own. -/
theorem replay_fails {code info addr die tile : Nat} (hp : p < 16) (hd : Claims.Drained_ s p job f)
    (hun : Claims.Unhindered s (.job p job) (fun u => (u.replay p job).requestPreemption p)) (hu : Sees s.view u)
    (hrun : (Claims.tried s (.job p job)).replay p job = (u.logError code info addr p die tile).failJob p job) (hc : code < 2 ^ 16) :
    ∃ t, exec (.logReplay p job) s = .next t ∧ Claims.Fails u t p job code addr := by
  obtain ⟨-, hund, hstate, -⟩ := id hd
  have hjs : ((u.part p).job job).state = .draining :=
    JobState.eq_of_still ((state_of_still (Sees.job rfl hu p job)).trans (congrArg JobState.still hstate)) (by simp)
  have hundu : Claims.Undisturbed (u.logError code info addr p die tile) p := undisturbed_of_core (congrArg View.core hu :) hund
  obtain ⟨hu', hfail, hcount, e, herr, he⟩ := failJob_effect (s := u.logError code info addr p die tile) (job := job) hundu
    (fun h => by rw [show ((u.part p).job job).state = .failed from h] at hjs; exact nomatch hjs)
  obtain ⟨t, ht, hold⟩ := logReplay_step hp hd hun (congrArg State.holding hrun) hu'
  obtain ⟨he', hn'⟩ := errors_of_holding hold
  exact ⟨t, ht, fails_of_logError ⟨hn'.trans hcount, e, he'.trans herr, he⟩ (by rw [job_of_holding hold]; exact hfail) hc⟩

theorem replay_fault {e : Nat} (hlog : ((s.part p).job job).log = some f)
    (hr : s.replayRecords p (ownRank s (s.part p) job) (s.dispatcher p (some job)) f ((s.part p).job job).records []
      = (.error (.fault e), u)) : s.replay p job = (u.logModule 0x8015 job e p).failJob p job := by
  simp only [State.replay, hlog, hr]

theorem replay_poison {e : Nat} (hlog : ((s.part p).job job).log = some f)
    (hr : s.replayRecords p (ownRank s (s.part p) job) (s.dispatcher p (some job)) f ((s.part p).job job).records []
      = (.error (.poison e), u)) : ∃ addr die, s.replay p job = (u.logDie 0x8021 0 addr p die).failJob p job := by
  simp only [State.replay, hlog, hr]
  exact ⟨_, _, rfl⟩

theorem replaysRestore : Claims.ReplaysRestore := by
  intro s p job f j w own s0 hp
  refine ⟨fun _ hwait => logReplay_undrained hp hwait, fun hd hun => ⟨?_, ?_, ?_, ?_⟩⟩
  · intro posts u v hr hl hcells z again asked huz
    obtain ⟨t, ht, hfail, hruns⟩ := replay_posts hp hd hun hr hl hcells rfl huz
    refine ⟨t, ht, hfail, fun h3 => ?_⟩
    obtain ⟨hmem, hlaunches, herr, hjob, hserial⟩ := hruns h3
    exact ⟨hmem, hlaunches, herr, hjob.trans (restarted_eq hserial)⟩
  · intro u v a hr hl hcells hrolls z
    have hv : Sees s.view v := (sees_replayed hr).readPending _ _ |>.snd hl
    have hzl : (z.part p).launches = (s.part p).launches.filter (fun l => l.job != job) :=
      (emptied_launches v p job).trans (congrArg _ (launches_of_sees rfl hv p))
    have hkeep {y : Launch} (hy : y ∈ (z.part p).launches) : y.job ≠ job ∧ y ∈ (s.part p).launches := by
      rw [hzl, List.mem_filter] at hy
      exact ⟨by simpa using hy.2, hy.1⟩
    refine ⟨?_, fun z1 hs => ?_⟩
    · intro status bs z1 z2 r hs hrd hjob
      have h1 : Sees z.view z1 := Sees.snd (Sees.statusAt rfl ..) hs
      have h2 : Sees z.view z2 := Sees.snd (h1.readDispatch ..) hrd
      have hb2 : Bears z.core z2 := congrArg View.core h2
      refine ⟨fun hk => ?_, fun old hs2 hs4 hk hold hj hobj hn hret => ?_⟩
      · obtain ⟨l, haddr, hlj, hnum, hrec, hpreds, hdisp, hfin, hlacc, hx⟩ :=
          takeUp_waits (had := (s.part p).launches.filter (fun l => l.job == job)) hs hrd hk
        obtain ⟨x, hxe, hb, hmem, hlaunches, hasks⟩ := takeUp_waits_effect (p := p) (a := a) (hlj.trans hjob) hb2
          (Claims.bits r 1 0 = 1 ∧ Claims.bits status 3 0 = 2)
        obtain ⟨t, ht, htm, -, -, htl, htj⟩ := replay_one hp hd hun hr hl hcells hrolls (hx.trans hxe) hb
        have hall := htl.trans hlaunches
        refine ⟨t, l, ht, ?_, hnum, hrec, hpreds, hdisp, hfin, hlacc, htm.trans hmem, fun hk1 hk2 => ?_, fun y hy => ?_⟩
        · rw [launch?_of_launches hall, Partition.launch?_setLaunch, if_pos haddr.symm]
        · rw [htj]
          exact restarted_asks (hasks ⟨hk1, hk2⟩)
        · rw [hall] at hy
          refine (mem_setLaunch hy).imp (fun e => (congrArg Launch.addr e).trans haddr) (fun hy => hkeep ?_)
          rwa [launches_of_sees rfl h2 p] at hy
      · obtain ⟨l, haddr, hnum, hdisp, hfin, hob, hre, hx⟩ := takeUp_runs hs hrd hs2 hs4 hk (find?_of_launch? hold hj hn) hobj hret
        obtain ⟨t, ht, -, -, -, htl, -⟩ := replay_one hp hd hun hr hl hcells hrolls hx (hb2.setLaunch p l)
        have hset : ((z2.mapPart p (fun q => q.setLaunch l)).part p) = (z2.part p).setLaunch l := State.part_setPart_same ..
        refine ⟨t, l, ht, ?_, hnum, hdisp, hfin, hob, hre⟩
        rw [launch?_of_launches (htl.trans (congrArg Partition.launches hset :)), Partition.launch?_setLaunch, if_pos haddr.symm]
    · have h1 : Sees z.view z1 := Sees.snd (Sees.statusAt rfl ..) hs
      have hb1 : Bears z.core z1 := congrArg View.core h1
      obtain ⟨t, ht, -, herr, hcount, htl, -⟩ := replay_one hp hd hun hr hl hcells hrolls (takeUp_unread hs) (hb1.logModule ..)
      refine ⟨t, ht, enters_of_logModule (u := z1) rfl herr hcount, fun y hy => ?_⟩
      rw [htl.trans (launches_of_sees (s := z) rfl h1 p)] at hy
      exact (hkeep hy).1
  · intro e s1 hr
    obtain ⟨-, -, -, hlog, -⟩ := id hd
    exact replay_fails hp hd hun (sees_replayed hr) (replay_fault (s := s0) hlog hr) (by decide)
  · intro e s1 hr
    obtain ⟨-, -, -, hlog, -⟩ := id hd
    obtain ⟨addr, die, hrun⟩ := replay_poison (s := s0) hlog hr
    obtain ⟨t, ht, hf⟩ := replay_fails hp hd hun (sees_replayed hr) hrun (by decide)
    exact ⟨t, _, ht, hf⟩

end

end Sys2Proof.Machine
end

section
/-! PROOF. STOP_TIMEOUT and SNAPSHOT_LATCH, and the obligation (O49, R53, R249). -/

namespace Sys2Proof.Machine

section
variable {s : State} {p : Nat}

/-- What a look at the reservations can do. -/
theorem reserve_cases (s : State) (p : Nat) :
    s.reserve p = s ∨ ∃ x, s.reserve p = s.setPart p { s.part p with reserved := x } := by
  unfold State.reserve
  dsimp only
  split
  · exact .inl rfl
  · exact .inr ⟨_, rfl⟩

/-- A partition whose job has not been met has it unprotected. -/
theorem Partition.job_mapJobs {f : Job → Job} (q : Partition) (n : Nat) (hn : ∀ j, (f j).num = j.num) (h0 : f { num := n } = { num := n }) :
    ({ q with jobs := q.jobs.map f } : Partition).job n = f (q.job n) := by
  have hf : (q.jobs.map f).find? (fun j => j.num == n) = (q.jobs.find? (fun j => j.num == n)).map f := by
    rw [List.find?_map]
    congr 2
    funext j
    exact congrArg (· == n) (hn j)
  show ((q.jobs.map f).find? (fun j => j.num == n)).getD { num := n } = f ((q.jobs.find? (fun j => j.num == n)).getD { num := n })
  rw [hf]
  cases q.jobs.find? (fun j => j.num == n) with
  | none => exact h0.symm
  | some j => rfl

/-- R53: what an expired STOP leaves of a job. -/
theorem resumeStop_eq (j : Job) :
    j.resumeStop = { j with
      asked := if Claims.reserveReached j then j.asked else j.asked.filter Option.isSome, stopAsked := false, stopped := false
      state := if j.state = .quiescing ∧ (if Claims.reserveReached j then j.asked else j.asked.filter Option.isSome) = [] then Claims.runs j
        else j.state } := by
  obtain ⟨num, state, log, records, filters, asked, stopAsked, stopped, rollbacks, mismatch, serialRun, draining⟩ := j
  unfold Job.resumeStop Claims.runs Claims.reserveReached
  cases log
  all_goals
    simp only [List.isEmpty_iff, Option.any_none, Option.any_some]
    split <;> split <;> rfl

/-- A STOP that has expired is looked at after nothing else has happened but a look at what is reserved. -/
theorem settle_expired {st : Stopping} (hf : (s.part p).forced = none) (hi : (s.part p).imported = []) (hs : (s.part p).stopping = some st)
    (ht : 1000 * st.limit ≤ (s.timeBase - st.since).toNat) (hw : s.control.waiting = []) : s.settle p = s.reserve p := by
  have stop : s.completeStop p = s := by
    have late : decide ((s.timeBase - st.since).toNat < 1000 * st.limit) = false := decide_eq_false (by omega)
    simp only [State.completeStop, hs, late, Bool.and_false, Bool.false_eq_true, if_false]
  have force : s.completeForce p = s := by simp only [State.completeForce, hf]
  have imports : s.retakeCopies p = s := by
    simp only [State.retakeCopies, hi, List.any_nil, Bool.false_eq_true, and_false, if_false]
  have waiting : (s.reserve p).control.waiting = [] :=
    (congrArg (fun x : Holding => x.control.waiting) (s.reserve_holding p)).trans hw
  unfold State.settle
  rw [stop, force, imports]
  exact State.releaseFrom_none _ waiting

/-- The port after an answer, when no request and no duplicate waits. -/
theorem respond_alone {c : Control} (hw : c.waiting = []) (ha : c.again = []) (h : BitVec 128) (st : Status) :
    (c.respond h st []).waiting = [] ∧ (c.respond h st []).sent = c.sent ++ [responseTo h st []] := by
  refine ⟨hw, ?_⟩
  simp [Control.respond, ha]

/-- R53: the step that answers TIMEOUT to a STOP. -/
theorem stopTimeout_step {st : Stopping} (hp : p < 16) (hf : (s.part p).forced = none) (hi : (s.part p).imported = [])
    (hs : (s.part p).stopping = some st) (ht : 1000 * st.limit ≤ (s.timeBase - st.since).toNat) (hw : s.control.waiting = [])
    (ha : s.control.again = []) :
    ∃ x, exec (.stopTimeout p) s = .next { s.setPart p { s.part p with
      reserved := x, stopping := none, jobs := (s.part p).jobs.map Job.resumeStop } with control := s.control.respond st.request .timeout [] } := by
  have hsettle := settle_expired hf hi hs ht hw
  have hres : ∃ x, s.reserve p = s.setPart p { s.part p with reserved := x } ∨ (s.reserve p = s ∧ x = (s.part p).reserved) := by
    rcases reserve_cases s p with h | ⟨x, h⟩
    · exact ⟨_, .inr ⟨h, rfl⟩⟩
    · exact ⟨x, .inl h⟩
  obtain ⟨x, hx⟩ := hres
  refine ⟨x, ?_⟩
  show execStopTimeout p s = _
  have hlate : ¬ (s.timeBase - st.since).toNat < 1000 * st.limit := by omega
  have key {u : State} (hu : s.settle p = u) (hpart : u.part p = { s.part p with reserved := x }) (htime : u.timeBase = s.timeBase)
      (hc : u.control = s.control) :
      execStopTimeout p s = .next { u.setPart p { s.part p with reserved := x, stopping := none, jobs := (s.part p).jobs.map Job.resumeStop } with
        control := s.control.respond st.request .timeout [] } := by
    have hus : (u.part p).stopping = some st := by rw [hpart]; exact hs
    have hwait := (respond_alone hw ha st.request .timeout).1
    unfold execStopTimeout
    rw [if_neg (by omega), hu]
    simp only [hus, htime, hlate, if_false]
    rw [State.releaseFrom_none]
    · simp only [State.respond, State.setPart_control, hc, hpart]
    · simp only [State.respond, State.setPart_control, hc]
      exact hwait
  rcases hx with hx | ⟨hx, rfl⟩
  · refine (key (hsettle.trans hx) (State.part_setPart_same ..) rfl rfl).trans ?_
    simp only [State.setPart, mset_mset]
  · exact key (hsettle.trans hx) rfl rfl rfl

/-- R249: the step that latches a snapshot. -/
theorem snapshotLatch_step {due : Word} (hd : s.snapshot.due = some due) (ht : due.toNat ≤ s.timeBase.toNat) :
    exec .snapshotLatch s = .next { s with
      snapshot := { s.snapshot with
        due := none, early := none
        latched := some (match s.snapshot.early with | some (n, x) => mset {} s.tiles n x | none => s.tiles, s.fresh) }
      fresh := s.fresh + 2048 } := by
  have hlt : ¬ s.timeBase < due := by rw [BitVec.lt_def]; omega
  show execSnapshotLatch s = _
  unfold execSnapshotLatch
  simp only [hd]
  exact if_neg hlt

/-- R53, R92, R249: an expired STOP, and a snapshot. -/
theorem timeoutsAndSnapshots : Claims.TimeoutsAndSnapshots := by
  intro s p hp
  refine ⟨fun st hf hi hs ht hw ha => ?_, fun due hd ht => ?_⟩
  · obtain ⟨x, hx⟩ := stopTimeout_step hp hf hi hs ht hw ha
    obtain ⟨e1, e2, e3, -, -⟩ := responseTo_fields st.request .timeout []
    refine ⟨_, responseTo st.request .timeout [], hx, ?_, ?_, (respond_alone hw ha _ _).2, e2, e3, rfl, e1, responseTo_seq .., fun job => ?_,
      fun n hn => State.part_setPart_other s hn _, rfl⟩
    · exact (congrArg Partition.stopping (State.part_setPart_same s p _) :)
    · exact (congrArg Partition.state (State.part_setPart_same s p _) :)
    · refine (congrArg (fun q : Partition => q.job job) (State.part_setPart_same s p _) :).trans ?_
      refine (Partition.job_mapJobs _ job ?_ ?_).trans (resumeStop_eq _)
      · exact fun j => (congrArg Job.num (resumeStop_eq j) :)
      · rfl
  · refine ⟨_, _, _, snapshotLatch_step hd ht, rfl, rfl, rfl, rfl, fun n => ?_, rfl⟩
    cases s.snapshot.early with
    | none => rfl
    | some e => exact mget_mset ..

end

/-- Settles O49: checkpoints, the records of a log, replays, expired STOPs and snapshots each as the claims on them say. -/
theorem checkpointsReplaysAndTimeouts : Obligations.CheckpointsReplaysAndTimeouts :=
  ⟨checkpointsTakeEffect, recordsAreApplied, replaysRestore, timeoutsAndSnapshots⟩

end Sys2Proof.Machine
end
